-- ==== Sys2Proof/Word.lean ====
section
/-! DEFINITION. The word types of the ZCA-260: bytes of the truss link, 16-bit and 32-bit fields, and the
24-bit slots of the drive port. -/

namespace Sys2Proof

/-- One byte of the truss link or of the configuration record. -/
abbrev Byte := BitVec 8

/-- A two-byte field of a frame (R24). -/
abbrev Word16 := BitVec 16

/-- A four-byte field of a frame, the link clock or the tick count (R24, R25, R29). -/
abbrev Word32 := BitVec 32

/-- One slot of a drive-port frame (R183). -/
abbrev Slot := BitVec 24

end Sys2Proof
end

