-- ==== Sys2Proof/Syntax.lean ====
section
/-! DEFINITION. The commands of the ZCA-260: one constructor of Instr for each row of spec/opcode_table.json, and
the frames of the truss link that some of them carry (R24). Field widths are those of the frame layouts. -/

namespace Sys2Proof

/-- Payload of a STOP frame (R24). -/
structure StopFields where
  scopeType : Byte
  scopeValue : Byte
  flags : Byte
  deriving DecidableEq, Repr

/-- Payload of a CLAIM frame (R24). -/
structure ClaimFields where
  circuit : Byte
  requested : Word16
  reason : Byte
  deriving DecidableEq, Repr

/-- Payload of a TRACK frame (R24). Positions are signed. -/
structure TrackFields where
  target : Byte
  x : Word32
  y : Word32
  z : Word32
  stamp : Word32
  deriving DecidableEq, Repr

/-- Payload of a COVER frame (R24). -/
structure CoverFields where
  target : Byte
  action : Byte
  q : Word16
  count : Byte
  flags : Byte
  deriving DecidableEq, Repr

/-- Payload of an OFFER frame (R24). -/
structure OfferFields where
  callId : Word16
  group : Byte
  landing : Word32
  deriving DecidableEq, Repr

/-- Payload of a CALL frame (R24). -/
structure CallFields where
  callId : Word16
  scopeType : Byte
  scopeValue : Byte
  mode : Byte
  goTime : Word32
  flags : Byte
  segmentCount : Byte
  red : Word16
  green : Word16
  blue : Word16
  intensity : Word16
  fade : Word16
  target : Byte
  count : Byte
  deriving DecidableEq, Repr

/-- Payload of a SEGMENT frame (R24). Ends are signed. -/
structure SegmentFields where
  callId : Word16
  index : Byte
  flags : Byte
  duration : Word16
  ramp : Word16
  end1 : Word32
  end2 : Word32
  end3 : Word32
  deriving DecidableEq, Repr

/-- Payload of a BEACON frame (R24). -/
structure BeaconFields where
  stationKind : Byte
  mode : Byte
  circuit : Byte
  groupMask : Word32
  granted : Word16
  linkClock : Word32
  poolFree : Byte
  callFree : Byte
  faultCode : Byte
  heldTarget : Byte
  deriving DecidableEq, Repr

/-- Payload of a PROBE frame (R24). -/
structure ProbeFields where
  station : Byte
  page : Byte
  flags : Byte
  deriving DecidableEq, Repr

/-- Payload of a REPORT frame: the page and 47 bytes of contents (R24, R194). -/
structure ReportFields where
  page : Byte
  contents : List Byte
  deriving DecidableEq, Repr

/-- The payload of a frame, one constructor per kind (R24). -/
inductive Payload where
  | stop (f : StopFields)
  | claim (f : ClaimFields)
  | track (f : TrackFields)
  | cover (f : CoverFields)
  | offer (f : OfferFields)
  | call (f : CallFields)
  | segment (f : SegmentFields)
  | beacon (f : BeaconFields)
  | probe (f : ProbeFields)
  | report (f : ReportFields)
  deriving DecidableEq, Repr

/-- A frame: the sender's station byte and the payload. Kind, length and check value follow from them (R24, R11). -/
structure Frame where
  station : Byte
  body : Payload
  deriving DecidableEq, Repr

/-- The two symbol errors of R4, met after the bytes that came whole. -/
inductive SymbolFault where
  /-- The stop bit of the next symbol, whose data bits were these, was sampled dominant. -/
  | stopBitDominant (data : Byte)
  /-- The line was recessive where the start bit of the next byte should fall. -/
  | startBitRecessive
  deriving DecidableEq, Repr

/-- The commands: one constructor per row of the table. -/
inductive Instr where
  /-- POWER_ON_RESET (R185). -/
  | powerOnReset
  /-- CONFIGURATION_READ_END (R186): the bytes clocked in, byte 0 first. -/
  | configurationReadEnd (bytes : List Byte)
  /-- TICK (R25). -/
  | tick
  /-- LINE_IDLE (R2). -/
  | lineIdle
  /-- START_OPPORTUNITY (R17). -/
  | startOpportunity
  /-- ARBITRATION_LOST (R8) at a bit time of the own frame, counted from 0. -/
  | arbitrationLost (bitTime : Nat)
  /-- CLASH (R9) at a bit time of the own frame, counted from 0. -/
  | clash (bitTime : Nat)
  /-- TRANSMISSION_SUCCESS (R10). -/
  | transmissionSuccess
  /-- STUCK_LINE (R21). -/
  | stuckLine
  /-- FRAME_DISCARD (R5): the bytes received whole and the symbol error after them, if there was one. -/
  | frameDiscard (bytes : List Byte) (fault : Option SymbolFault)
  /-- STOP (R60). -/
  | stop (station : Byte) (f : StopFields)
  /-- CLAIM (R105). -/
  | claim (station : Byte) (f : ClaimFields)
  /-- TRACK (R138). -/
  | track (station : Byte) (f : TrackFields)
  /-- COVER (R144). -/
  | cover (station : Byte) (f : CoverFields)
  /-- OFFER (R130). -/
  | offer (station : Byte) (f : OfferFields)
  /-- CALL (R44). -/
  | call (station : Byte) (f : CallFields)
  /-- SEGMENT (R48). -/
  | segment (station : Byte) (f : SegmentFields)
  /-- BEACON (R27). -/
  | beacon (station : Byte) (f : BeaconFields)
  /-- PROBE (R193). -/
  | probe (station : Byte) (f : ProbeFields)
  /-- REPORT (R12). -/
  | report (station : Byte) (f : ReportFields)
  /-- PEER_SILENT (R34) for one station. -/
  | peerSilent (station : Byte)
  /-- PEER_REMOVED (R35) for one station. -/
  | peerRemoved (station : Byte)
  /-- BEACON_TIMER (R38). -/
  | beaconTimer
  /-- PLAN_POINT (R50). -/
  | planPoint
  /-- GO (R52). -/
  | go
  /-- WAITING_LIMIT (R54). -/
  | waitingLimit
  /-- HOLD_OPEN_LIMIT (R57). -/
  | holdOpenLimit
  /-- SEGMENT_END (R56). -/
  | segmentEnd
  /-- FADE_COMPLETE (R161). -/
  | fadeComplete
  /-- RECLAIM_TIMER (R111). -/
  | reclaimTimer
  /-- VIEW_SETTLE_END (R119). -/
  | viewSettleEnd
  /-- TRACK_TIMEOUT (R139) for one target. -/
  | trackTimeout (target : Byte)
  /-- RELIEF_DEADLINE (R148) for one target. -/
  | reliefDeadline (target : Byte)
  /-- HOLDER_LAPSE (R148) for one holder of one target. -/
  | holderLapse (target : Byte) (station : Byte)
  /-- RESTATE_TIMER (R150). -/
  | restateTimer
  /-- TAKE_HOLDOFF_END (R149). -/
  | takeHoldoffEnd
  /-- IN_FRAME (R175): slots 0 to 3 of the in-frame; the part ignores slots 4 to 15 (R183). -/
  | inFrame (status : Slot) (pan : Slot) (tilt : Slot) (temperature : Slot)
  /-- HOMING_TIMEOUT (R180). -/
  | homingTimeout
  /-- RESET_ASSERTED (R185). -/
  | resetAsserted
  /-- FRAME_START_BIT (R3). -/
  | frameStartBit
  deriving DecidableEq, Repr

end Sys2Proof
end

