-- ==== Sys2Proof/Decode.lean ====
section
/-! DEFINITION. The frames of the truss link as bytes: field layouts (R24), check value (R11), the checks on an arriving
frame (R5, R6, R7), the levels a frame puts on the line (R1); and decodeTableWord. The table gives no command any bits,
so no word spells a command. -/

namespace Sys2Proof

/-- A two-byte field, high byte first (R24). -/
def be16 (w : Word16) : List Byte := [w.extractLsb' 8 8, w.extractLsb' 0 8]

/-- A four-byte field, high byte first (R24). -/
def be32 (w : Word32) : List Byte :=
  [w.extractLsb' 24 8, w.extractLsb' 16 8, w.extractLsb' 8 8, w.extractLsb' 0 8]

/-- The one-byte field at an offset of a payload or record. -/
def byteAt (l : List Byte) (i : Nat) : Byte := l.getD i 0

/-- The two-byte field at an offset, high byte first. -/
def wordAt (l : List Byte) (i : Nat) : Word16 := byteAt l i ++ byteAt l (i + 1)

/-- The four-byte field at an offset, high byte first. -/
def longAt (l : List Byte) (i : Nat) : Word32 := wordAt l i ++ wordAt l (i + 2)

/-- The kind byte of a frame (R24). -/
def Payload.kind : Payload → Nat
  | .stop _ => 0
  | .claim _ => 1
  | .track _ => 2
  | .cover _ => 3
  | .offer _ => 4
  | .call _ => 5
  | .segment _ => 6
  | .beacon _ => 7
  | .probe _ => 8
  | .report _ => 9

/-- The payload length of a kind (R24); kinds above 9 are unknown and have none. -/
def payloadLength (kind : Nat) : Nat :=
  match kind with
  | 0 => 3
  | 1 => 4
  | 2 => 17
  | 3 => 6
  | 4 => 7
  | 5 => 23
  | 6 => 20
  | 7 => 17
  | 8 => 3
  | 9 => 48
  | _ => 0

/-- The payload bytes of a frame, as the layout tables of R24 give them. -/
def Payload.bytes : Payload → List Byte
  | .stop f => [f.scopeType, f.scopeValue, f.flags]
  | .claim f => [f.circuit] ++ be16 f.requested ++ [f.reason]
  | .track f => [f.target] ++ be32 f.x ++ be32 f.y ++ be32 f.z ++ be32 f.stamp
  | .cover f => [f.target, f.action] ++ be16 f.q ++ [f.count, f.flags]
  | .offer f => be16 f.callId ++ [f.group] ++ be32 f.landing
  | .call f =>
      be16 f.callId ++ [f.scopeType, f.scopeValue, f.mode] ++ be32 f.goTime ++ [f.flags, f.segmentCount]
        ++ be16 f.red ++ be16 f.green ++ be16 f.blue ++ be16 f.intensity ++ be16 f.fade ++ [f.target, f.count]
  | .segment f =>
      be16 f.callId ++ [f.index, f.flags] ++ be16 f.duration ++ be16 f.ramp
        ++ be32 f.end1 ++ be32 f.end2 ++ be32 f.end3
  | .beacon f =>
      [f.stationKind, f.mode, f.circuit] ++ be32 f.groupMask ++ be16 f.granted ++ be32 f.linkClock
        ++ [f.poolFree, f.callFree, f.faultCode, f.heldTarget]
  | .probe f => [f.station, f.page, f.flags]
  | .report f => f.page :: f.contents

/-- Reads the fields of a payload of the right length (R24). -/
def parsePayload (kind : Nat) (l : List Byte) : Option Payload :=
  match kind with
  | 0 => some (.stop ⟨byteAt l 0, byteAt l 1, byteAt l 2⟩)
  | 1 => some (.claim ⟨byteAt l 0, wordAt l 1, byteAt l 3⟩)
  | 2 => some (.track ⟨byteAt l 0, longAt l 1, longAt l 5, longAt l 9, longAt l 13⟩)
  | 3 => some (.cover ⟨byteAt l 0, byteAt l 1, wordAt l 2, byteAt l 4, byteAt l 5⟩)
  | 4 => some (.offer ⟨wordAt l 0, byteAt l 2, longAt l 3⟩)
  | 5 => some (.call ⟨wordAt l 0, byteAt l 2, byteAt l 3, byteAt l 4, longAt l 5, byteAt l 9, byteAt l 10,
            wordAt l 11, wordAt l 13, wordAt l 15, wordAt l 17, wordAt l 19, byteAt l 21, byteAt l 22⟩)
  | 6 => some (.segment ⟨wordAt l 0, byteAt l 2, byteAt l 3, wordAt l 4, wordAt l 6,
            longAt l 8, longAt l 12, longAt l 16⟩)
  | 7 => some (.beacon ⟨byteAt l 0, byteAt l 1, byteAt l 2, longAt l 3, wordAt l 7, longAt l 9,
            byteAt l 13, byteAt l 14, byteAt l 15, byteAt l 16⟩)
  | 8 => some (.probe ⟨byteAt l 0, byteAt l 1, byteAt l 2⟩)
  | 9 => some (.report ⟨byteAt l 0, l.drop 1⟩)
  | _ => none

/-- One shift of the check register (R11). -/
def crcShift (r : Word16) : Word16 :=
  if r.msb then (r <<< 1) ^^^ 0x1021#16 else r <<< 1

/-- The check register after one more byte (R11). -/
def crcByte (r : Word16) (b : Byte) : Word16 :=
  let r0 := r ^^^ (b ++ 0#8)
  crcShift (crcShift (crcShift (crcShift (crcShift (crcShift (crcShift (crcShift r0)))))))

/-- The check value of a run of bytes (R11): the register starts at FFFFh, and nothing follows. -/
def checkValue (bytes : List Byte) : Word16 := bytes.foldl crcByte 0xFFFF#16

/-- The bytes of a frame under the check value: kind, station, length, payload (R24). -/
def Frame.checked (fr : Frame) : List Byte :=
  BitVec.ofNat 8 fr.body.kind :: fr.station :: BitVec.ofNat 8 (payloadLength fr.body.kind) :: fr.body.bytes

/-- All the bytes of a frame in line order (R24). -/
def Frame.bytes (fr : Frame) : List Byte := fr.checked ++ be16 (checkValue fr.checked)

/-- A station number lies in 1..254 (conventions of 00_scope.md). -/
def stationOk (b : Byte) : Bool := 1 ≤ b.toNat && b.toNat ≤ 254

/-- The scope fields of a STOP or a CALL hold accepted values (R6). -/
def scopeOk (scopeType scopeValue : Byte) : Bool :=
  (scopeType == 0 && scopeValue.toNat ≤ 31) || (scopeType == 1 && stationOk scopeValue)

/-- Every field named in the field check table holds an accepted value (R6). -/
def Payload.fieldsOk : Payload → Bool
  | .stop f => scopeOk f.scopeType f.scopeValue && (!f.flags.getLsbD 2 || f.scopeType == 1)
  | .claim f => f.circuit.toNat ≤ 15 && f.reason.toNat ≤ 3
  | .track f => f.target.toNat ≤ 15
  | .cover f => f.target.toNat ≤ 15 && f.action.toNat ≤ 2 && 1 ≤ f.count.toNat && f.count.toNat ≤ 4
  | .offer f => f.group.toNat ≤ 31
  | .call f =>
      scopeOk f.scopeType f.scopeValue && f.mode.toNat ≤ 3
        && (f.mode != 2 || (f.target.toNat ≤ 15 && 1 ≤ f.count.toNat && f.count.toNat ≤ 4))
  | .segment _ => true
  | .beacon f => f.stationKind.toNat ≤ 3 && f.circuit.toNat ≤ 15
        && (f.heldTarget.toNat ≤ 15 || f.heldTarget == 255)
  | .probe f => stationOk f.station && f.page.toNat ≤ 4
  | .report _ => true

/-- Why a frame is discarded: one reason for each counter of the table of R5. -/
inductive DiscardReason where
  | symbolError
  | unknownKind
  | badStation
  | badLength
  | badCrc
  | badField
  | ownNumber
  deriving DecidableEq, Repr

/-- What the checks find in the bytes of a frame. -/
inductive Verdict where
  /-- A good frame from another station. -/
  | good (fr : Frame)
  /-- A discarded frame, and how many of its bytes were examined. -/
  | discard (r : DiscardReason) (examined : Nat)
  /-- Expected bytes are still to come and no symbol error has been met. -/
  | incomplete
  deriving DecidableEq, Repr

/-- What follows when the bytes end before the frame does: a symbol error if one was met (R4). -/
def endOfBytes (fault : Option SymbolFault) (n : Nat) : Verdict :=
  if fault.isSome then .discard .symbolError n else .incomplete

/-- The checks made once every expected byte has come (R5, R6, R7). -/
def judgeWhole (own : Byte) (kind : Nat) (station : Byte) (payload : List Byte) (all : List Byte)
    (crc : List Byte) : Verdict :=
  if be16 (checkValue all) != crc then .discard .badCrc (all.length + 2)
  else
    match parsePayload kind payload with
    | none => .discard .unknownKind (all.length + 2)
    | some body =>
      if !body.fieldsOk then .discard .badField (all.length + 2)
      else if station == own then .discard .ownNumber (all.length + 2)
      else .good ⟨station, body⟩

/-- The checks of R5 in the order the bytes arrive; the first that fails decides. -/
def judge (own : Byte) (bytes : List Byte) (fault : Option SymbolFault) : Verdict :=
  match bytes with
  | [] => endOfBytes fault 0
  | k :: r1 =>
    if 9 < k.toNat then .discard .unknownKind 1
    else
      match r1 with
      | [] => endOfBytes fault 1
      | st :: r2 =>
        if !stationOk st then .discard .badStation 2
        else
          match r2 with
          | [] => endOfBytes fault 2
          | len :: r3 =>
            if 48 < len.toNat || len.toNat != payloadLength k.toNat then .discard .badLength 3
            else if r3.length < len.toNat + 2 then endOfBytes fault bytes.length
            else judgeWhole own k.toNat st (r3.take len.toNat) (k :: st :: len :: r3.take len.toNat)
                  ((r3.drop len.toNat).take 2)

/-- The levels of one symbol, true for recessive: start bit, data most significant bit first, stop bit (R1). -/
def symbolLevels (b : Byte) : List Bool :=
  [false, b.getLsbD 7, b.getLsbD 6, b.getLsbD 5, b.getLsbD 4, b.getLsbD 3, b.getLsbD 2, b.getLsbD 1, b.getLsbD 0, true]

/-- The levels of a run of symbols with no space between them (R1). -/
def lineLevels (bytes : List Byte) : List Bool := (bytes.map symbolLevels).flatten

/-- How many levels at the end of a run of levels equal b. -/
def trailingRun (b : Bool) (levels : List Bool) : Nat := (levels.reverse.takeWhile (· == b)).length

/-- The levels seen after the whole bytes of a frame that a symbol error ended (R4). -/
def faultLevels : Option SymbolFault → List Bool
  | none => []
  | some (.stopBitDominant b) => (symbolLevels b).take 9 ++ [false]
  | some .startBitRecessive => [true]

/-- The command a table word spells. The rows of spec/opcode_table.json give no bits, so no word spells one. -/
def decodeTableWord (_nbits _w : Nat) : Option Instr := none

end Sys2Proof
end

