-- ==== Sys2Proof/Config.lean ====
section
/-! DEFINITION. The constants the manual fixes for every ZCA-260. The figures of one fixture come from its
configuration record and are state (Machine/State.lean). The manual leaves no result undefined, so there is no
free value here. -/

namespace Sys2Proof.Config

/-- Entries of the transmit queue (R14). -/
def queueCapacity : Nat := 12
/-- Clashed attempts an entry survives; the next one drops it (R18). -/
def maxAttempts : Nat := 3
/-- The consecutive-failure count at which the link is lost, and its ceiling (R20). -/
def failureLimit : Nat := 8
/-- Recessive bit times between start opportunities, and to the idle line (R2). -/
def idleRun : Nat := 12
/-- Dominant bit times at which the stuck-line monitor fires (R21). -/
def stuckRun : Nat := 2000
/-- Entries of the peer table (R30). -/
def peerCapacity : Nat := 96
/-- Ticks between beacons (R38). -/
def beaconInterval : Nat := 200
/-- Aging time while UNCONFIGURED (R30). -/
def unconfiguredAging : Nat := 4000
/-- Records of the call table (R41). -/
def callCapacity : Nat := 8
/-- Segments of the pool (R42). -/
def poolSize : Nat := 64
/-- Milliseconds before go at which a call is planned (R50). -/
def planLead : Nat := 50
/-- A go passed by more than this many milliseconds is a late start (R51). -/
def lateStartSlack : Nat := 2
/-- Ticks a call may be WAITING (R54). -/
def waitingLimit : Nat := 2000
/-- Ticks a call may be in HOLD_OPEN (R57). -/
def holdOpenLimit : Nat := 500
/-- The longest fade a colour part keeps (R47). -/
def maxFade : Nat := 60000
/-- The longest duration a SEGMENT asks for after clamping (R83). -/
def maxDuration : Nat := 60000
/-- The planning ceiling, and the ramp that goes with it (R87). -/
def ceilingD : Nat := 65535
def ceilingR : Nat := 32767
/-- Ticks of the re-claim wait (R111). -/
def reclaimTicks : Nat := 200
/-- Ticks of the view settle timer (R119). -/
def settleTicks : Nat := 250
/-- Full scale of S and T (conventions of 00_scope.md). -/
def fullScale : Nat := 65536
/-- One step of the dim scale (R93, R120). -/
def dimStep : Nat := 4096
/-- Largest dim step (R93, R120). -/
def maxDim : Nat := 16
/-- Entries of a holder list (R144). -/
def holderCapacity : Nat := 5
/-- Follow targets (R138). -/
def targets : Nat := 16
/-- Ticks a relief lasts, and after which a holder lapses (R145, R148). -/
def reliefTicks : Nat := 1000
/-- Ticks between restatements, and of the take holdoff (R149, R150). -/
def restateTicks : Nat := 200
/-- Absent in-frames in a row that lose the driver link (R175). -/
def absentLimit : Nat := 10
/-- Large follow errors in a row that are a fault (R178). -/
def runLimit : Nat := 20
/-- Ticks homing may take (R180). -/
def homingTicks : Nat := 20000
/-- Page bytes one REPORT carries (R193). -/
def reportPartBytes : Nat := 45
/-- The own station number of a station whose record gives none (R187). -/
def fallbackStation : Nat := 254

end Sys2Proof.Config
end

