-- ==== Sys2Proof/Machine/Arith.lean ====
section
/-! DEFINITION. The arithmetic the chapters share: saturating counters, times on the link clock, rounding, the least
duration that passes a test, square roots. -/

namespace Sys2Proof.Machine

/-- One more on a 16-bit counter that holds at 65535 (conventions of 00_scope.md). -/
def satInc (n : Nat) : Nat := min 65535 (n + 1)

/-- n more on such a counter. -/
def satAdd (n k : Nat) : Nat := min 65535 (n + k)

/-- One more when a condition holds. -/
def satIf (c : Bool) (n : Nat) : Nat := if c then satInc n else n

/-- A time a is at or after a time b on a wrapping 32-bit count (conventions of 00_scope.md). -/
def atOrAfter (a b : Word32) : Bool := decide ((a - b).toNat < 2 ^ 31)

/-- A time a is after b (R25). -/
def isAfter (a b : Word32) : Bool := atOrAfter a b && a != b

/-- A time a is before b (conventions of 00_scope.md). -/
def isBefore (a b : Word32) : Bool := !atOrAfter a b

/-- Ticks or milliseconds from one count to another (R29). -/
def elapsed (now since : Word32) : Nat := (now - since).toNat

/-- ceil(a / b) for b above 0. -/
def ceilDiv (a b : Nat) : Nat := (a + (b - 1)) / b

/-- x brought to the nearer end of lo..hi when it lies outside (R77, R81). -/
def clampInt (lo hi x : Int) : Int := if x < lo then lo else if hi < x then hi else x

/-- x brought into lo..hi. -/
def clampNat (lo hi x : Nat) : Nat := if x < lo then lo else if hi < x then hi else x

/-- The least d at or above `d` among the next `fuel` values that passes the test; none when none does. -/
def leastFrom (p : Nat → Bool) : Nat → Nat → Option Nat
  | 0, _ => none
  | fuel + 1, d => if p d then some d else leastFrom p fuel (d + 1)

/-- Builds the integer square root of n bit by bit, from bit `bits - 1` down. -/
def isqrtFrom : Nat → Nat → Nat → Nat
  | 0, _, r => r
  | b + 1, n, r => isqrtFrom b n (if (r + 2 ^ b) * (r + 2 ^ b) ≤ n then r + 2 ^ b else r)

/-- floor(√n) for n below 2^(2 × bits). -/
def isqrt (bits n : Nat) : Nat := isqrtFrom bits n 0

/-- A timer that has ticks to run counts down; at 0 it has run out and waits for its command (log 9). -/
def countDown : Option Nat → Option Nat
  | none => none
  | some n => some (n - 1)

/-- Big-endian bytes of a number, `width` of them (conventions of R194). -/
def natBytes : Nat → Nat → List Byte
  | 0, _ => []
  | w + 1, n => BitVec.ofNat 8 (n / 256 ^ w) :: natBytes w n

/-- Big-endian bytes of a signed number in two's complement. -/
def intBytes (w : Nat) (x : Int) : List Byte := natBytes w (x % ((256 ^ w : Nat) : Int)).toNat

end Sys2Proof.Machine
end

