-- ==== Sys2Proof/Machine/State.lean ====
section
/-! DEFINITION. The state of the ZCA-260 as plain data: one structure per block of the block diagram (00_scope.md),
the station's figures from its configuration record, the model's own fields, and State.reset. -/

namespace Sys2Proof.Machine

/-- The block has no fault that stops it: the faults of R190 are states of the block and are modelled as such. -/
inductive Fault where
  deriving DecidableEq, Repr

/-- The refusals. -/
inductive Refusal where
  /-- Raised by exec for a command that has no meaning yet; safe (nothing is claimed of the command). -/
  | notModelled (mnemonic : String)
  deriving DecidableEq, Repr

/-! ### Names of states -/

/-- Line states of the link controller (R3). -/
inductive LineState where
  | off | waitIdle | idle | arbitrating | sending | receiving
  deriving DecidableEq, Repr

/-- Station modes (R184). -/
inductive StationMode where
  | reset | config | unconfigured | starting | homing | ready | isolated | faulted
  deriving DecidableEq, Repr

/-- Station kinds of the peer table (R30). -/
inductive StationKind where
  | fixture | console | tracker | other
  deriving DecidableEq, Repr

/-- State of a peer entry (R30). -/
inductive PeerState where
  | live | silent
  deriving DecidableEq, Repr

/-- Scope of a call or a STOP (R41, R45). -/
inductive Scope where
  | group (g : Nat)
  | station (n : Byte)
  deriving DecidableEq, Repr

/-- Call modes (R41). -/
inductive CallMode where
  | angles | point | follow | colour
  deriving DecidableEq, Repr

/-- Call states (R41). -/
inductive CallState where
  | pending | claiming | planned | waiting | running | holdOpen
  deriving DecidableEq, Repr

/-- Outcomes of a call (R59). -/
inductive CallOutcome where
  | done | cut | dropped | short
  deriving DecidableEq, Repr

/-- State of a chained segment (R42). -/
inductive SegState where
  | queued | active | consumed
  deriving DecidableEq, Repr

/-- Intake condition (R61). -/
inductive Intake where
  | opened | held
  deriving DecidableEq, Repr

/-- Steps of the planning ladder (R91, R92, R93). -/
inductive LadderStep where
  | asRequested
  | rampRaised
  | stretched (k : Nat)
  | dimmed (m : Nat)
  | noFit
  deriving DecidableEq, Repr

/-- Reasons of a claim round (R103). -/
inductive Reason where
  | homing | move | follow | idle
  deriving DecidableEq, Repr

/-- Purposes of a claim round (R103). -/
inductive Purpose where
  | homing
  | move (callId : Word16)
  | follow
  | lowering
  deriving DecidableEq, Repr

/-- Phases of a landing record (R125). -/
inductive LandingPhase where
  | opened | adopted | straggler
  deriving DecidableEq, Repr

/-- State of a track record (R138). -/
inductive TrackState where
  | none | tracked | coasting
  deriving DecidableEq, Repr

/-- The state of a holder entry, with the taker and the deadline of a RELIEVED entry (R144). -/
inductive HolderState where
  | holder
  | relieved (taker : Byte) (deadline : Word32)
  deriving DecidableEq, Repr

/-- The follow role's states other than NONE (R140). -/
inductive RolePhase where
  | claiming | candidate | holder | relieved
  deriving DecidableEq, Repr

/-- Thermal states (R166). -/
inductive ThermalState where
  | normal | derated | shutdown
  deriving DecidableEq, Repr

/-- Mounting of the head (R65). -/
inductive Hang where
  | upright | inverted
  deriving DecidableEq, Repr

/-- Classes of an aim result (R68). -/
inductive AimClass where
  | solved | clamped | degenerate
  deriving DecidableEq, Repr

/-! ### Figures of the configuration record (R195) -/

/-- The characteristics of one axis (R80). -/
structure AxisFigures where
  vmax : Nat
  qmax : Nat
  minRamp : Nat
  hold : Nat
  kw : Nat
  deriving DecidableEq, Repr

/-- The fields of the configuration record, as the blocks take them (R195). -/
structure Figures where
  circuit : Nat
  groupMask : Word32
  budget : Nat
  baseClaim : Nat
  soloAllowance : Nat
  homingAllowance : Nat
  followAllowance : Nat
  aging : Nat
  hang : Hang
  mountX : Int
  mountY : Int
  mountZ : Int
  yaw : Nat
  panMin : Nat
  panMax : Nat
  tiltMin : Nat
  tiltMax : Nat
  maxThrow : Nat
  pan : AxisFigures
  tilt : AxisFigures
  dimFloor : Nat
  followErrorLimit : Nat
  followLag : Nat
  trackTimeout : Nat
  handoffMargin : Nat
  emitterWatts : List Nat
  matrix : List (List Int)
  derate : Nat
  shutdown : Nat
  deriving DecidableEq, Repr

/-- The mount pose (R65). -/
structure MountPose where
  x : Int
  y : Int
  z : Int
  yaw : Nat
  hang : Hang
  deriving DecidableEq, Repr

/-! ### Link controller -/

/-- The payload of a transmit queue entry. A BEACON carries none; its frame is composed at each attempt (R14, R19). -/
inductive TxBody where
  | claim (f : ClaimFields)
  | cover (f : CoverFields)
  | offer (f : OfferFields)
  | beacon
  | report (f : ReportFields)
  deriving DecidableEq, Repr

/-- A transmit queue entry (R14). `next` holds the newer payload while 'replaced' is set. -/
structure TxEntry where
  body : TxBody
  attempts : Nat
  inFlight : Bool
  next : Option TxBody
  deriving DecidableEq, Repr

/-- The link counters (R23). -/
structure LinkCounters where
  framesReceived : Nat := 0
  framesSent : Nat := 0
  arbitrationLost : Nat := 0
  clash : Nat := 0
  transmitDropped : Nat := 0
  queueFull : Nat := 0
  symbolError : Nat := 0
  unknownKind : Nat := 0
  badStation : Nat := 0
  badLength : Nat := 0
  badCrc : Nat := 0
  badField : Nat := 0
  ownNumberHeard : Nat := 0
  linkLostCount : Nat := 0
  deriving DecidableEq, Repr

/-- The link controller (R2, R3, R14, R20 to R23). `rxBits` is the model's own: the levels of the symbol under way that an
own attempt had sampled when it fell to RECEIVING (R8, R9). -/
structure LinkState where
  lineState : LineState
  recessiveRun : Nat
  dominantRun : Nat
  rxBuffer : List Byte
  rxBits : List Bool
  txFrame : Option Frame
  queue : List TxEntry
  failures : Nat
  linkLost : Bool
  receiveMark : Bool
  sendMark : Bool
  counters : LinkCounters
  deriving DecidableEq, Repr

/-! ### Clock and peer unit -/

/-- A peer table entry (R30). -/
structure Peer where
  station : Byte
  kind : StationKind
  circuit : Nat
  groupMask : Word32
  granted : Nat
  state : PeerState
  lastHeard : Word32
  deriving DecidableEq, Repr

/-- The clock and peer counters (R40). -/
structure ClockCounters where
  clockSteps : Nat := 0
  peersRemoved : Nat := 0
  peersEvicted : Nat := 0
  peerTableFull : Nat := 0
  deriving DecidableEq, Repr

/-- The clock and peer unit (R25, R29, R30, R38). `beaconDue` says that the beacon timer has run out and the BEACON of that
run-out is still to be offered: the timer waits at 0 for BEACON_TIMER (log 9), or a change of mode in that tick has restarted
it first (R38). -/
structure ClockState where
  linkClock : Word32
  tickCount : Word32
  peers : List Peer
  beaconTimer : Option Nat
  beaconDue : Bool
  counters : ClockCounters
  deriving DecidableEq, Repr

/-! ### Call store -/

/-- The colour part of a call (R41, R157). -/
structure ColourPart where
  red : Nat
  green : Nat
  blue : Nat
  intensity : Nat
  fade : Nat
  deriving DecidableEq, Repr

/-- A segment chained to a call (R42). Ends are as received: counts for ANGLES, mm for POINT. -/
structure PoolSegment where
  index : Nat
  last : Bool
  duration : Nat
  ramp : Nat
  end1 : Int
  end2 : Int
  end3 : Int
  state : SegState
  deriving DecidableEq, Repr

/-- One segment of a plan record (R91). -/
structure SegPlan where
  endPan : Int
  endTilt : Int
  baseD : Nat
  baseR : Nat
  d : Nat
  r : Nat
  claim : Nat
  deriving DecidableEq, Repr

/-- A plan record (R91), held in the record of the call it plans. -/
structure Plan where
  refPan : Int
  refTilt : Int
  segs : List SegPlan
  step : LadderStep
  scale : Nat
  emitterTerm : Nat
  planClaim : Nat
  request : Nat
  deriving DecidableEq, Repr

/-- A call record (R41), with its mark of having reached go (R51) and its arrival rank (R41, R46). -/
structure CallRecord where
  callId : Word16
  scope : Scope
  mode : CallMode
  goTime : Word32
  sync : Bool
  stretch : Nat
  expected : Nat
  colour : Option ColourPart
  target : Nat
  count : Nat
  chain : List PoolSegment
  received : Nat
  closed : Bool
  state : CallState
  plan : Option Plan
  waitStart : Option Word32
  holdStart : Option Word32
  reachedGo : Bool
  arrival : Nat
  deriving DecidableEq, Repr

/-- The call store counters (R64). -/
structure StoreCounters where
  superseded : Nat := 0
  callTableFull : Nat := 0
  badCall : Nat := 0
  badSyncCall : Nat := 0
  intakeHeld : Nat := 0
  lateCall : Nat := 0
  lateStart : Nat := 0
  orphan : Nat := 0
  duplicate : Nat := 0
  excess : Nat := 0
  gap : Nat := 0
  poolEmpty : Nat := 0
  done : Nat := 0
  cut : Nat := 0
  dropped : Nat := 0
  short : Nat := 0
  deriving DecidableEq, Repr

/-- The call store (R41, R42, R61). -/
structure StoreState where
  calls : List CallRecord
  poolFree : Nat
  intake : Intake
  nextArrival : Nat
  counters : StoreCounters
  deriving DecidableEq, Repr

/-! ### Aim solver and motion planner -/

/-- The aim counters (R79). -/
structure AimCounters where
  degenerateAim : Nat := 0
  aimClamped : Nat := 0
  deriving DecidableEq, Repr

/-- The aim solver (R65). -/
structure AimState where
  pose : Option MountPose
  counters : AimCounters
  deriving DecidableEq, Repr

/-- Whose segment is under way (R82). -/
inductive MotionOwner where
  | call (callId : Word16)
  | follow
  deriving DecidableEq, Repr

/-- The segment under way (R82), with the segment claim it started with (R118). -/
structure Motion where
  startPan : Int
  startTilt : Int
  endPan : Int
  endTilt : Int
  d : Nat
  r : Nat
  t : Nat
  claim : Nat
  owner : MotionOwner
  deriving DecidableEq, Repr

/-- The planner counters (R99). -/
structure PlannerCounters where
  plans : Nat := 0
  rampRaised : Nat := 0
  stretched : Nat := 0
  dimmed : Nat := 0
  noFit : Nat := 0
  refitStretched : Nat := 0
  refitHeld : Nat := 0
  ceiling : Nat := 0
  deriving DecidableEq, Repr

/-- The motion planner (R81, R82). Its plan records stand in the call records. -/
structure PlannerState where
  pan : Int
  tilt : Int
  motion : Option Motion
  counters : PlannerCounters
  deriving DecidableEq, Repr

/-! ### Power share unit -/

/-- A claim round that is OPEN or AWAITING (R103); `held` while the view settle timer holds its CLAIM back (R119). -/
structure Round where
  awaiting : Bool
  request : Nat
  reason : Reason
  purpose : Purpose
  held : Bool
  deriving DecidableEq, Repr

/-- The power counters (R124). -/
structure PowerCounters where
  ownRefused : Nat := 0
  peerRefused : Nat := 0
  statedOverride : Nat := 0
  reclaims : Nat := 0
  claimsDropped : Nat := 0
  soloDims : Nat := 0
  deriving DecidableEq, Repr

/-- The power share unit (R101, R103, R111, R119, R120). A timer at 0 has run out and waits for its command.
`abandoned` is the model's own: a round was abandoned in this event and its fresh figure is still to be sought (R115). -/
structure PowerState where
  granted : Nat
  round : Option Round
  deferred : List Purpose
  abandoned : Bool
  reclaim : Option Nat
  settle : Option Nat
  solo : Option Nat
  counters : PowerCounters
  deriving DecidableEq, Repr

/-! ### Landing unit -/

/-- A landing record (R125). -/
structure LandingRecord where
  callId : Word16
  scope : Scope
  goTime : Word32
  requestedD : Option Nat
  plannedLead : Option Nat
  offeredLead : Nat
  phase : LandingPhase
  adoptedLead : Option Nat
  deriving DecidableEq, Repr

/-- The landing counters (R136). -/
structure LandingCounters where
  offersMade : Nat := 0
  offersLost : Nat := 0
  offerClamped : Nat := 0
  lateOffers : Nat := 0
  foreignOffers : Nat := 0
  stretchedToLand : Nat := 0
  landingLate : Nat := 0
  stragglers : Nat := 0
  deriving DecidableEq, Repr

/-- The landing unit (R125). -/
structure LandingState where
  records : List LandingRecord
  counters : LandingCounters
  deriving DecidableEq, Repr

/-! ### Cover unit -/

/-- A track record (R138). -/
structure TrackRecord where
  state : TrackState
  x : Word32
  y : Word32
  z : Word32
  stamp : Word32
  arrival : Word32
  deriving DecidableEq, Repr

/-- An entry of a holder list (R144). -/
structure Holder where
  station : Byte
  q : Nat
  state : HolderState
  lastStated : Word32
  deriving DecidableEq, Repr

/-- The follow role, when it is not NONE (R140); `claim` is the follow claim granted to it (R122). -/
structure Role where
  phase : RolePhase
  target : Nat
  callId : Word16
  count : Nat
  colour : ColourPart
  claim : Nat
  deriving DecidableEq, Repr

/-- The cover counters (R155). -/
structure CoverCounters where
  tracksLost : Nat := 0
  followLimited : Nat := 0
  takesMade : Nat := 0
  takesRefused : Nat := 0
  ownTakesRefused : Nat := 0
  reliefsCompleted : Nat := 0
  reliefsExpired : Nat := 0
  holdersLapsed : Nat := 0
  selfYields : Nat := 0
  listFull : Nat := 0
  coverFramesLost : Nat := 0
  deriving DecidableEq, Repr

/-- The cover unit (R138, R140, R144, R149, R150). `followEnd` is the end of the latest follow segment of the role. -/
structure CoverState where
  tracks : List TrackRecord
  lists : List (List Holder)
  role : Option Role
  ownQ : Nat
  onTarget : Bool
  followEnd : Option (Int × Int)
  holdoff : Option Word32
  restate : Option Nat
  counters : CoverCounters
  deriving DecidableEq, Repr

/-! ### Colour engine -/

/-- Whose fade is under way (R160). -/
inductive FadeOwner where
  | call (callId : Word16)
  | role
  deriving DecidableEq, Repr

/-- A fade under way (R160). `due` is the model's own: the tick advance of its last step has come, and FADE_COMPLETE makes
that step (R161, R162, log 9). -/
structure Fade where
  old : List Nat
  target : List Nat
  length : Nat
  t : Nat
  due : Bool
  scale : Nat
  owner : FadeOwner
  deriving DecidableEq, Repr

/-- The colour counters (R170). -/
structure ColourCounters where
  blackouts : Nat := 0
  derates : Nat := 0
  thermalShutdowns : Nat := 0
  deriving DecidableEq, Repr

/-- The colour engine (R160, R166). -/
structure ColourState where
  levels : List Nat
  fade : Option Fade
  thermal : ThermalState
  lastTemp : Option Int
  counters : ColourCounters
  deriving DecidableEq, Repr

/-! ### Drive port -/

/-- An out-frame, by its fields (R173, R183). -/
structure OutFrame where
  axisEnable : Bool
  homeRequest : Bool
  emitterEnable : Bool
  pan : Int
  tilt : Int
  emitters : List Nat
  deriving DecidableEq, Repr

/-- The drive counters (R182). -/
structure DriveCounters where
  absentFrames : Nat := 0
  linkLosses : Nat := 0
  driverFaults : Nat := 0
  panFollowErrors : Nat := 0
  tiltFollowErrors : Nat := 0
  homingTimeouts : Nat := 0
  homingLost : Nat := 0
  deriving DecidableEq, Repr

/-- The drive port (R172). -/
structure DriveState where
  axesOn : Bool
  lastStatus : Option Slot
  lastEncoders : Option (Int × Int)
  panHomed : Bool
  tiltHomed : Bool
  absentCount : Nat
  panRun : Nat
  tiltRun : Nat
  homing : Option Nat
  outFrame : OutFrame
  counters : DriveCounters
  deriving DecidableEq, Repr

/-! ### Station control -/

/-- A report snapshot: the page, its bytes and the next part (R193). -/
structure Snapshot where
  page : Nat
  bytes : List Byte
  next : Nat
  deriving DecidableEq, Repr

/-- Station control (R184 to R193). -/
structure StationState where
  mode : StationMode
  faultCode : Nat
  record : Option (List Byte)
  figures : Option Figures
  ownStation : Byte
  statusAsserted : Bool
  snapshot : Option Snapshot
  restarted : Bool
  homingNeeded : Bool
  deriving DecidableEq, Repr

/-! ### The whole block -/

/-- What an event under way has still to tell (the model's own): a grant to a purpose with the figure its round asked for,
or that the round has returned to NONE and the deferred purposes ask again (R103, R116). -/
inductive Notice where
  | granted (p : Purpose) (watts : Nat)
  | rearm
  deriving DecidableEq, Repr

/-- The state of the block, and the queue of commands that wait. -/
structure State where
  link : LinkState
  clock : ClockState
  store : StoreState
  aim : AimState
  planner : PlannerState
  power : PowerState
  landing : LandingState
  cover : CoverState
  colour : ColourState
  drive : DriveState
  station : StationState
  notices : List Notice
  pending : List Instr
  deriving DecidableEq, Repr

/-- A track record that holds nothing (R138). -/
def TrackRecord.blank : TrackRecord := ⟨.none, 0, 0, 0, 0, 0⟩

/-- The out-frame of a line held at 0 (R171). -/
def OutFrame.zero : OutFrame := ⟨false, false, false, 0, 0, [0, 0, 0, 0, 0, 0]⟩

/-- Six dark emitters. -/
def darkLevels : List Nat := [0, 0, 0, 0, 0, 0]

/-- The machine right after a power-on reset (R185): every block at the values its chapter gives, in CONFIG, the
configuration read begun. The own station number is a DESIGN CHOICE (log 4). -/
def State.reset : State where
  link :=
    { lineState := .off, recessiveRun := 0, dominantRun := 0, rxBuffer := [], rxBits := [], txFrame := none, queue := [],
      failures := 0, linkLost := false, receiveMark := false, sendMark := false, counters := {} }
  clock := { linkClock := 0, tickCount := 0, peers := [], beaconTimer := none, beaconDue := false, counters := {} }
  store := { calls := [], poolFree := Config.poolSize, intake := .opened, nextArrival := 0, counters := {} }
  aim := { pose := none, counters := {} }
  planner := { pan := 0, tilt := 0, motion := none, counters := {} }
  power :=
    { granted := 0, round := none, deferred := [], abandoned := false, reclaim := none, settle := none, solo := none,
      counters := {} }
  landing := { records := [], counters := {} }
  cover :=
    { tracks := List.replicate Config.targets .blank, lists := List.replicate Config.targets [], role := none,
      ownQ := 0, onTarget := false, followEnd := none, holdoff := none, restate := none, counters := {} }
  colour := { levels := darkLevels, fade := none, thermal := .normal, lastTemp := none, counters := {} }
  drive :=
    { axesOn := false, lastStatus := none, lastEncoders := none, panHomed := false, tiltHomed := false,
      absentCount := 0, panRun := 0, tiltRun := 0, homing := none, outFrame := .zero, counters := {} }
  station :=
    { mode := .config, faultCode := 0, record := none, figures := none,
      ownStation := BitVec.ofNat 8 Config.fallbackStation, statusAsserted := true, snapshot := none,
      restarted := false, homingNeeded := true }
  notices := []
  pending := []

end Sys2Proof.Machine
end

