-- ==== Sys2Proof/Machine/Operands.lean ====
section
/-! DEFINITION. Every operand form of the commands: the fields of frames as the blocks read them (R24), the words of an
in-frame (R183), the codes a part states in its own frames (R24, R194), and the configuration record (R186, R195). -/

namespace Sys2Proof.Machine

/-! ### Codes -/

/-- Station mode code of BEACON and page 0 (R24, R184). -/
def StationMode.code : StationMode → Nat
  | .reset => 0 | .config => 1 | .unconfigured => 2 | .starting => 3
  | .homing => 4 | .ready => 5 | .isolated => 6 | .faulted => 7

/-- Station kind of its code (R24); R6 lets only 0..3 through. -/
def stationKindOf (b : Byte) : StationKind :=
  match b.toNat with
  | 0 => .fixture | 1 => .console | 2 => .tracker | _ => .other

/-- Reason code of CLAIM and page 3 (R24, R194). -/
def Reason.code : Reason → Nat
  | .homing => 0 | .move => 1 | .follow => 2 | .idle => 3

/-- Call mode of its code (R24); R6 lets only 0..3 through. -/
def callModeOf (b : Byte) : CallMode :=
  match b.toNat with
  | 0 => .angles | 1 => .point | 2 => .follow | _ => .colour

end Sys2Proof.Machine

namespace Sys2Proof

open Machine

/-! ### Frame fields -/

/-- Scope of a STOP or a CALL (R24, R45). -/
def scopeOf (scopeType scopeValue : Byte) : Scope :=
  if scopeType == 0 then .group scopeValue.toNat else .station scopeValue

def StopFields.scope (f : StopFields) : Scope := scopeOf f.scopeType f.scopeValue
def StopFields.freeze (f : StopFields) : Bool := f.flags.getLsbD 0
def StopFields.blackout (f : StopFields) : Bool := f.flags.getLsbD 1
def StopFields.restart (f : StopFields) : Bool := f.flags.getLsbD 2

def CallFields.scope (f : CallFields) : Scope := scopeOf f.scopeType f.scopeValue
def CallFields.callMode (f : CallFields) : CallMode := callModeOf f.mode
def CallFields.sync (f : CallFields) : Bool := f.flags.getLsbD 0
/-- Stretch allowance, flags bits 2..1 (R24). -/
def CallFields.stretch (f : CallFields) : Nat := (f.flags.extractLsb' 1 2).toNat
def CallFields.colourPresent (f : CallFields) : Bool := f.flags.getLsbD 3

/-- The colour part a record keeps, the fade held to 60000 (R47). -/
def CallFields.colourPart (f : CallFields) : Option ColourPart :=
  if f.colourPresent then
    some ⟨f.red.toNat, f.green.toNat, f.blue.toNat, f.intensity.toNat, min Config.maxFade f.fade.toNat⟩
  else none

/-- The segment count lies in its mode's range, and FOLLOW and COLOUR carry colour (R44). -/
def CallFields.countOk (f : CallFields) : Bool :=
  match f.callMode with
  | .angles => 1 ≤ f.segmentCount.toNat && f.segmentCount.toNat ≤ 32
  | .point => 1 ≤ f.segmentCount.toNat && f.segmentCount.toNat ≤ 32
  | .follow => f.segmentCount == 0 && f.colourPresent
  | .colour => f.segmentCount == 0 && f.colourPresent

def SegmentFields.last (f : SegmentFields) : Bool := f.flags.getLsbD 0

/-- The pool segment a taken SEGMENT becomes (R42, R48). -/
def SegmentFields.poolSegment (f : SegmentFields) : PoolSegment :=
  ⟨f.index.toNat, f.last, f.duration.toNat, f.ramp.toNat, f.end1.toInt, f.end2.toInt, f.end3.toInt, .queued⟩

def CoverFields.onTarget (f : CoverFields) : Bool := f.flags.getLsbD 0
def ProbeFields.clear (f : ProbeFields) : Bool := f.flags.getLsbD 0

end Sys2Proof

namespace Sys2Proof.Machine

/-! ### In-frame words (R183) -/

/-- Assigned bits of the status word (R183); the others are ignored (log 20). -/
def statusMask : Slot := 0x3F#24

def statusPresent (w : Slot) : Bool := w.getLsbD 0
def statusPanHomed (w : Slot) : Bool := w.getLsbD 1
def statusTiltHomed (w : Slot) : Bool := w.getLsbD 2
/-- Any of pan driver fault, tilt driver fault and emitter fault (R177). -/
def statusAnyFault (w : Slot) : Bool := w.getLsbD 3 || w.getLsbD 4 || w.getLsbD 5

/-- The levels of one slot on a line of the drive port, in the order they are sent and sampled: bit 23 first (R171, R183). -/
def slotLevels (w : Slot) : List Bool := (List.range 24).map (fun i => w.getLsbD (23 - i))

/-- The slot that 24 sampled levels make, the first of them bit 23 (R171, R183). -/
def slotOfLevels (levels : List Bool) : Slot := BitVec.ofNat 24 (levels.foldl (fun n b => 2 * n + b.toNat) 0)

/-- The slots that the levels sampled from the input line make, slot 0 first (R171, R183); IN_FRAME carries slots 0 to 3. -/
def sampledSlots (levels : List Bool) : List Slot := (List.range 16).map (fun i => slotOfLevels ((levels.drop (24 * i)).take 24))

/-- The sixteen slots of an out-frame (R173, R183). -/
def OutFrame.slots (o : OutFrame) : List Slot :=
  [BitVec.ofNat 24 (o.axisEnable.toNat + 2 * o.homeRequest.toNat + 4 * o.emitterEnable.toNat),
   BitVec.ofInt 24 (o.pan % 65536), BitVec.ofInt 24 (o.tilt % 65536)]
  ++ o.emitters.map (fun n => BitVec.ofNat 24 (n % 65536))
  ++ List.replicate 7 0

/-- The levels an out-frame puts on the output line in its 384 bit times: slot 0 first, each slot's bit 23 first
(R171, R183). -/
def OutFrame.levels (o : OutFrame) : List Bool := (o.slots.map slotLevels).flatten

/-- The levels of the output line of the frame that stands: held at 0 in RESET (R171). -/
def State.outLine (s : State) : List Bool :=
  if s.station.mode = .reset then List.replicate 384 false else s.drive.outFrame.levels

/-! ### The configuration record (R186, R195) -/

/-- What the part sends to the selected memory before it clocks the record in: the read command 03h, then a 24-bit address
of 0 (R186). -/
def readCommand : List Byte := [0x03#8, 0x00#8, 0x00#8, 0x00#8]

/-- The 256 bytes the read takes; the data input reads FFh where the memory drives nothing (R186). -/
def recordBytes (bytes : List Byte) : List Byte := (List.range 256).map (fun i => bytes.getD i 0xFF#8)

/-- The sum of bytes 0..253 modulo 65536 equals bytes 254..255 (R186). -/
def checksumOk (rec : List Byte) : Bool :=
  ((rec.take 254).map BitVec.toNat).sum % 65536 == (wordAt rec 254).toNat

/-- Aging time by aging select (R195). -/
def agingOf (sel : Nat) : Nat :=
  match sel with
  | 0 => 600 | 1 => 1000 | 2 => 2000 | _ => 4000

/-- The fields of the record (R195). -/
def parseFigures (rec : List Byte) : Figures where
  circuit := (byteAt rec 1).toNat
  groupMask := longAt rec 2 ||| 1#32
  budget := (wordAt rec 6).toNat
  baseClaim := (wordAt rec 8).toNat
  soloAllowance := (wordAt rec 10).toNat
  homingAllowance := (wordAt rec 12).toNat
  followAllowance := (wordAt rec 14).toNat
  aging := agingOf (byteAt rec 16).toNat
  hang := if byteAt rec 17 == 0 then .upright else .inverted
  mountX := (longAt rec 18).toInt
  mountY := (longAt rec 22).toInt
  mountZ := (longAt rec 26).toInt
  yaw := (wordAt rec 30).toNat
  panMin := (wordAt rec 32).toNat
  panMax := (wordAt rec 34).toNat
  tiltMin := (wordAt rec 36).toNat
  tiltMax := (wordAt rec 38).toNat
  maxThrow := (longAt rec 40).toNat
  pan := ⟨(byteAt rec 44).toNat, (wordAt rec 46).toNat, (wordAt rec 50).toNat, (byteAt rec 54).toNat, (wordAt rec 56).toNat⟩
  tilt := ⟨(byteAt rec 45).toNat, (wordAt rec 48).toNat, (wordAt rec 52).toNat, (byteAt rec 55).toNat, (wordAt rec 58).toNat⟩
  dimFloor := (byteAt rec 60).toNat
  followErrorLimit := (wordAt rec 62).toNat
  followLag := (byteAt rec 64).toNat
  trackTimeout := (wordAt rec 66).toNat
  handoffMargin := (wordAt rec 68).toNat
  emitterWatts := (List.range 6).map (fun i => (byteAt rec (70 + i)).toNat)
  matrix := (List.range 6).map (fun i => (List.range 3).map (fun j => (wordAt rec (76 + 6 * i + 2 * j)).toInt))
  derate := (byteAt rec 112).toNat
  shutdown := (byteAt rec 113).toNat

/-- One coordinate of the mount position is within the stage (R65). -/
def mountOk (x : Int) : Bool := decide (-100000 ≤ x ∧ x ≤ 100000)

/-- One axis is within its ranges (R80). -/
def AxisFigures.rangeOk (a : AxisFigures) : Bool :=
  1 ≤ a.vmax && a.vmax ≤ 64 && 1 ≤ a.qmax && 1 ≤ a.minRamp && a.minRamp ≤ 30000

/-- The largest claim an axis can make (R80, R88). -/
def AxisFigures.worst (a : AxisFigures) : Nat := a.hold + ceilDiv (a.qmax * a.kw) 4096

/-- Conditions between the power figures (R80, R100). -/
def Figures.conditionsOk (g : Figures) : Bool :=
  let still := g.baseClaim + g.pan.hold + g.tilt.hold
  let watts := g.emitterWatts.sum
  g.baseClaim + g.pan.worst + g.tilt.worst + watts ≤ 65535
    && still ≤ g.soloAllowance
    && still + g.homingAllowance ≤ 65535
    && g.pan.hold + g.tilt.hold ≤ g.followAllowance
    && g.baseClaim + g.followAllowance + watts ≤ 65535
    && 1 ≤ still

/-- Every field in its range and every condition between fields (R195, R65, R80, R100, R137, R156, R172). -/
def recordRangeOk (rec : List Byte) : Bool :=
  let g := parseFigures rec
  stationOk (byteAt rec 0)
    && g.circuit ≤ 15
    && g.baseClaim ≤ 1023
    && (byteAt rec 16).toNat ≤ 3
    && (byteAt rec 17).toNat ≤ 1
    && mountOk g.mountX && mountOk g.mountY && mountOk g.mountZ
    && g.yaw ≤ 23039
    && g.panMin ≤ g.panMax && g.panMax ≤ 34560
    && g.tiltMin ≤ g.tiltMax && g.tiltMax ≤ 17280
    && 1 ≤ g.maxThrow && g.maxThrow ≤ 400000
    && g.pan.rangeOk && g.tilt.rangeOk
    && g.dimFloor ≤ 16
    && 1 ≤ g.followErrorLimit && g.followErrorLimit ≤ 4096
    && 10 ≤ g.followLag && g.followLag ≤ 200
    && 100 ≤ g.trackTimeout && g.trackTimeout ≤ 2000
    && g.derate ≤ 150
    && g.derate + 5 ≤ g.shutdown && g.shutdown ≤ 160
    && g.conditionsOk

/-- The own station number a record gives (R187). -/
def ownNumberOf (rec : List Byte) : Byte :=
  if stationOk (byteAt rec 0) then byteAt rec 0 else BitVec.ofNat 8 Config.fallbackStation

/-- The mount pose of the figures (R65). -/
def Figures.pose (g : Figures) : MountPose := ⟨g.mountX, g.mountY, g.mountZ, g.yaw, g.hang⟩

/-- Figures that are absent: no value is read from them in any state that a run reaches (log 10). -/
def Figures.blank : Figures where
  circuit := 0
  groupMask := 0
  budget := 0
  baseClaim := 0
  soloAllowance := 0
  homingAllowance := 0
  followAllowance := 0
  aging := Config.unconfiguredAging
  hang := .upright
  mountX := 0
  mountY := 0
  mountZ := 0
  yaw := 0
  panMin := 0
  panMax := 0
  tiltMin := 0
  tiltMax := 0
  maxThrow := 0
  pan := ⟨0, 0, 0, 0, 0⟩
  tilt := ⟨0, 0, 0, 0, 0⟩
  dimFloor := 0
  followErrorLimit := 0
  followLag := 0
  trackTimeout := 0
  handoffMargin := 0
  emitterWatts := [0, 0, 0, 0, 0, 0]
  matrix := []
  derate := 0
  shutdown := 0

/-- The figures held, or blank ones. -/
def State.fig (s : State) : Figures := s.station.figures.getD .blank

/-- A circuit is the own circuit; none is while no record is held (R30, R33). -/
def State.isOwnCircuit (s : State) (c : Nat) : Bool :=
  match s.station.figures with
  | none => false
  | some g => g.circuit == c

/-- The own group mask: that of the record with bit 0 set; bit 0 alone without a record (R39, R45). -/
def State.ownGroups (s : State) : Word32 :=
  match s.station.figures with
  | none => 1
  | some g => g.groupMask

/-- A scope includes this station (R45). -/
def State.inScope (s : State) : Scope → Bool
  | .group g => s.ownGroups.getLsbD g
  | .station n => n == s.station.ownStation

end Sys2Proof.Machine
end

