-- ==== Sys2Proof/Machine/Aim.lean ====
section
/-! DEFINITION. The aim solver's computation (04_aim_solving.md): stage point to pan and tilt, choice among the
candidates, clamping, throw and follow quality; and the limit stage of ANGLES ends. -/

namespace Sys2Proof.Machine

/-- An aim result (R68). -/
structure AimResult where
  pan : Int
  tilt : Int
  cls : AimClass
  throwMm : Nat
  q : Nat
  deriving DecidableEq, Repr

/-- For each power of two w, w with the cosine and the sine of w/128 degree, in units of 2^-128, nearest.
Half-count boundaries of R71 are odd multiples of 1/128 degree. -/
def rotations : List (Nat × Int × Int) := [
  (8192, 149169971419233416918596602734851372374, 305843765449128096101848522656759384457),
  (4096, 288575813422904245924193058158074392936, 180322181510277190488529740002604227428),
  (2048, 327100405124326601639005886606917189499, 93794531849237388852260266091449193347),
  (1024, 336970762317608143015777587856459699063, 47358152206417802591036910258012718485),
  (512, 339453456177651013374559993136717716782, 23736897993709255695042896771499905946),
  (256, 340075076097132074821378937932824101649, 11875683342276517617844508495825077058),
  (128, 340230540268261750956743264373121785153, 5938746170945056723073406927607666420),
  (64, 340269410011089572909415488634731321099, 2969486154406273935813374003070091592),
  (32, 340279127678058612033813696841422908946, 1484757211021670172870001365342806543),
  (16, 340281557109254896513336954920681110645, 742380372244458501087811958494629407),
  (8, 340282164467957346434243346672119529115, 371190406964129264103293242847965131),
  (4, 340282316307689420124805561209092837307, 185595231087308292709561570277151514),
  (2, 340282354267625967373643208536510848518, 92797618994309796404635109974112226),
  (1, 340282363757610324737498549938288591479, 46398809928486860473162480712534454)]

/-- Fraction bits of the rotations. -/
def aimScale : Int := 2 ^ 128

/-- Turns the vector back by each rotation that leaves it on or above the axis, adding up what was turned (log 22). -/
def turnBack : List (Nat × Int × Int) → Int → Int → Nat → Nat
  | [], _, _, m => m
  | (w, c, s) :: rest, x, y, m =>
    if 0 ≤ (y * c - x * s) / aimScale then
      turnBack rest ((x * c + y * s) / aimScale) ((y * c - x * s) / aimScale) (m + w)
    else turnBack rest x y m

/-- The angle in whole counts, nearest, of a vector with x ≥ 0 and y ≥ 0, not both 0, given at the scale of the
rotations (R71). No angle from integer offsets falls on a half count, so no tie arises (log 22). -/
def quadrantCount (x y : Int) : Int := ((turnBack rotations x y 0 + 1) / 2 : Nat)

/-- The bearing of (dx, dy), from +x toward +y, in counts 0..23040 (R70, R71). -/
def bearingCount (dx dy : Int) : Int :=
  if 0 < dx ∧ 0 ≤ dy then quadrantCount (dx * aimScale) (dy * aimScale)
  else if dx ≤ 0 ∧ 0 < dy then 5760 + quadrantCount (dy * aimScale) (-dx * aimScale)
  else if dx < 0 ∧ dy ≤ 0 then 11520 + quadrantCount (-dx * aimScale) (-dy * aimScale)
  else 17280 + quadrantCount (-dy * aimScale) (dx * aimScale)

/-- The local pan count φc (R70, R71): φ × 64 is β × 64 - Y, or Y - β × 64 for an INVERTED head, and Y is whole. -/
def localPan (pose : MountPose) (dx dy : Int) : Int :=
  match pose.hang with
  | .upright => (bearingCount dx dy - pose.yaw) % 23040
  | .inverted => (pose.yaw - bearingCount dx dy) % 23040

/-- The tilt offset tc of height h and floor distance √floorSq (R70, R71). -/
def tiltOffset (h : Int) (floorSq : Nat) : Int :=
  if 0 ≤ h then quadrantCount (h * aimScale) (isqrt 150 (floorSq * 2 ^ 256))
  else 5760 + quadrantCount (isqrt 150 (floorSq * 2 ^ 256)) (-h * aimScale)

/-- The pans of a family with a base pan in 0..23039 (R72). -/
def familyPans (base : Int) : List Int := if base ≤ 11520 then [base, base + 23040] else [base]

/-- The candidates: unflipped, then flipped (R72). -/
def candidates (panC tiltC : Int) : List (Int × Int) :=
  (familyPans (panC % 23040)).map (fun p => (p, 8640 + tiltC))
    ++ (familyPans ((panC + 11520) % 23040)).map (fun p => (p, 8640 - tiltC))

/-- The pan lies within the pan soft limits. -/
def panOk (g : Figures) (p : Int) : Bool := decide ((g.panMin : Int) ≤ p ∧ p ≤ g.panMax)

/-- The tilt lies within the tilt soft limits. -/
def tiltOk (g : Figures) (t : Int) : Bool := decide ((g.tiltMin : Int) ≤ t ∧ t ≤ g.tiltMax)

/-- a has less pan travel than b, or equal travel and the lower pan (R75). -/
def nearer (ref : Int) (a b : Int × Int) : Bool :=
  decide (|a.1 - ref| < |b.1 - ref| ∨ (|a.1 - ref| = |b.1 - ref| ∧ a.1 < b.1))

/-- The candidate of least pan travel, ties to the lower pan (R75). -/
def leastTravel (ref : Int) : List (Int × Int) → Option (Int × Int)
  | [] => none
  | a :: rest =>
    match leastTravel ref rest with
    | none => some a
    | some b => if nearer ref b a then some b else some a

/-- The circular distance of two pans (R77). -/
def circular (a b : Int) : Int :=
  let d := |a % 23040 - b % 23040|
  min d (23040 - d)

/-- The pan soft limit nearer to a pan on the circle, the minimum when both are equally near (R77). -/
def nearLimit (g : Figures) (p : Int) : Int :=
  if circular p g.panMin ≤ circular p g.panMax then g.panMin else g.panMax

/-- The pan and tilt when no candidate has its pan within the limits (R77). -/
def clampBoth (g : Figures) (panC tiltC : Int) : Int × Int :=
  let u := panC % 23040
  let f := (panC + 11520) % 23040
  let lu := nearLimit g u
  let lf := nearLimit g f
  let du := circular u lu
  let df := circular f lf
  if du < df ∨ (du = df ∧ lu ≤ lf) then (lu, clampInt g.tiltMin g.tiltMax (8640 + tiltC))
  else (lf, clampInt g.tiltMin g.tiltMax (8640 - tiltC))

/-- The pan and tilt taken, and whether the soft limits clamped it (R75, R76, R77). -/
def chooseAim (g : Figures) (refPan panC tiltC : Int) : (Int × Int) × Bool :=
  let cs := candidates panC tiltC
  match leastTravel refPan (cs.filter (fun c => panOk g c.1 && tiltOk g c.2)) with
  | some c => (c, false)
  | none =>
    match leastTravel refPan (cs.filter (fun c => panOk g c.1)) with
    | some c => ((c.1, clampInt g.tiltMin g.tiltMax c.2), true)
    | none => (clampBoth g panC tiltC, true)

/-- A coordinate brought into the stage range (R69). -/
def bringIn (x : Int) : Int := clampInt (-100000) 100000 x

/-- The follow quality of a solved point (R78). -/
def qualityOf (cls : AimClass) (maxThrow distSq : Nat) : Nat :=
  match cls with
  | .solved => if maxThrow * maxThrow < distSq then 0 else 65535 - min 65534 (isqrt 20 distSq / 10)
  | .clamped => 0
  | .degenerate => 0

/-- The solve of a stage point from a reference position (R69 to R78). -/
def solve (g : Figures) (pose : MountPose) (refPan refTilt x y z : Int) : AimResult :=
  let brought := bringIn x != x || bringIn y != y || bringIn z != z
  let dx := bringIn x - pose.x
  let dy := bringIn y - pose.y
  let dz := bringIn z - pose.z
  let floorSq := (dx * dx + dy * dy).toNat
  let distSq := (dx * dx + dy * dy + dz * dz).toNat
  if dx = 0 ∧ dy = 0 ∧ dz = 0 then ⟨refPan, refTilt, .degenerate, 0, 0⟩
  else
    let h := match pose.hang with
      | .upright => dz
      | .inverted => -dz
    let panC := if dx = 0 ∧ dy = 0 then refPan % 23040 else localPan pose dx dy
    let c := chooseAim g refPan panC (tiltOffset h floorSq)
    let cls : AimClass := if brought || c.2 then .clamped else .solved
    ⟨c.1.1, c.1.2, cls, isqrt 20 distSq, qualityOf cls g.maxThrow distSq⟩

/-- The limit stage on an ANGLES end: each axis to the nearer limit, and whether either was brought in (R77). -/
def limitEnd (g : Figures) (pan tilt : Int) : (Int × Int) × Bool :=
  ((clampInt g.panMin g.panMax pan, clampInt g.tiltMin g.tiltMax tilt), !(panOk g pan && tiltOk g tilt))

end Sys2Proof.Machine
end

