-- ==== Sys2Proof/Machine/Flags.lean ====
section
/-! DEFINITION. The flags and derived signals of the block: what each station mode permits, the status line, the out-frame
control bits, the thermal scale, and who holds what. -/

namespace Sys2Proof.Machine

/-- The status line is ASSERTED in RESET, CONFIG, UNCONFIGURED and FAULTED (R192). -/
def StationMode.asserts : StationMode → Bool
  | .reset => true | .config => true | .unconfigured => true | .faulted => true
  | .starting => false | .homing => false | .ready => false | .isolated => false

/-- The link controller is OFF in RESET and CONFIG (R3), and no frame is dispatched there. -/
def StationMode.linkOff : StationMode → Bool
  | .reset => true | .config => true
  | .unconfigured => false | .faulted => false | .starting => false | .homing => false | .ready => false
  | .isolated => false

/-- The modes that take calls and segments (R43), and OFFER frames (R125). -/
def StationMode.takesIntake : StationMode → Bool
  | .starting => true | .homing => true | .ready => true | .isolated => true
  | .reset => false | .config => false | .unconfigured => false | .faulted => false

/-- The modes that make the plan-point and go tests (R43). -/
def StationMode.makesTests : StationMode → Bool
  | .ready => true | .isolated => true
  | .reset => false | .config => false | .unconfigured => false | .faulted => false | .starting => false
  | .homing => false

/-- The modes in which the drive port reports faults (R176), and a report leads to FAULTED (R190). -/
def StationMode.monitored : StationMode → Bool
  | .starting => true | .homing => true | .ready => true | .isolated => true
  | .reset => false | .config => false | .unconfigured => false | .faulted => false

/-- The modes in which the follow-error monitor may run (R178). -/
def StationMode.followsError : StationMode → Bool
  | .starting => true | .ready => true | .isolated => true
  | .reset => false | .config => false | .unconfigured => false | .faulted => false | .homing => false

/-- The modes in which the cover unit applies TRACK and COVER frames (R154). -/
def StationMode.appliesCover : StationMode → Bool
  | .starting => true | .homing => true | .ready => true | .isolated => true | .faulted => true
  | .reset => false | .config => false | .unconfigured => false

/-- The modes in which the power share unit tests peer claims (R105). -/
def StationMode.testsClaims : StationMode → Bool
  | .starting => true | .homing => true | .ready => true | .isolated => true | .faulted => true
  | .reset => false | .config => false | .unconfigured => false

/-- The modes in which the emitters show anything (R168). -/
def StationMode.lights : StationMode → Bool
  | .ready => true | .isolated => true
  | .reset => false | .config => false | .unconfigured => false | .faulted => false | .starting => false
  | .homing => false

/-- The thermal scale T of a thermal state (R166). -/
def ThermalState.scale : ThermalState → Nat
  | .normal => 65536
  | .derated => 32768
  | .shutdown => 0

/-- The output of one emitter (R168). -/
def outputOf (mode : StationMode) (thermal : ThermalState) (level : Nat) : Nat :=
  if mode.lights then level * thermal.scale / Config.fullScale else 0

/-- The configuration memory is selected while its read runs, in CONFIG (R186). -/
def State.memorySelect (s : State) : Bool := s.station.mode == .config

/-- What the part has sent to the selected memory: the read command and the address (R186). -/
def State.memorySent (s : State) : List Byte := if s.memorySelect then readCommand else []

/-- The six emitter outputs (R168). -/
def State.outputs (s : State) : List Nat := s.colour.levels.map (outputOf s.station.mode s.colour.thermal)

/-- The emitter enable bit (R168, R173). -/
def State.emitterEnable (s : State) : Bool := s.station.mode.lights && decide (0 < s.colour.thermal.scale)

/-- The axis enable bit, with the axis drivers in service (R173). -/
def State.axisEnable (s : State) : Bool := s.drive.axesOn && decide (0 < s.power.granted)

/-- The HOME request bit (R173). -/
def State.homeRequest (s : State) : Bool :=
  s.station.mode == .homing && !(s.drive.panHomed && s.drive.tiltHomed)

/-- The out-frame composed at a frame sync (R173). -/
def State.composeOut (s : State) : OutFrame :=
  ⟨s.axisEnable, s.homeRequest, s.emitterEnable, s.planner.pan, s.planner.tilt, s.outputs⟩

/-- A call of this station is RUNNING or HOLD_OPEN. -/
def CallRecord.carriedOut (r : CallRecord) : Bool := r.state == .running || r.state == .holdOpen

/-- Some call is RUNNING or HOLD_OPEN (R89, R113). -/
def State.someRunning (s : State) : Bool := s.store.calls.any CallRecord.carriedOut

/-- The role is lit or pre-aims: its follow claim is granted (R140, R141). -/
def RolePhase.granted : RolePhase → Bool
  | .claiming => false
  | .candidate => true | .holder => true | .relieved => true

/-- The follow role holds its grant (R113, R118). -/
def State.roleGranted (s : State) : Bool :=
  match s.cover.role with
  | none => false
  | some r => r.phase.granted

/-- The target a BEACON states (R39, R140); 255 for none. -/
def State.heldTarget (s : State) : Nat :=
  match s.cover.role with
  | none => 255
  | some r =>
    match r.phase with
    | .holder => r.target
    | .relieved => r.target
    | .claiming => 255
    | .candidate => 255

/-- The view settle timer runs (R119). -/
def State.settling (s : State) : Bool :=
  match s.power.settle with
  | none => false
  | some n => decide (0 < n)

/-- Headings under which solo mode is on (R120). -/
def State.soloOn (s : State) : Bool := s.power.solo.isSome

/-- Aging time A (R30, R34). -/
def State.aging (s : State) : Nat :=
  match s.station.figures with
  | none => Config.unconfiguredAging
  | some g => g.aging

end Sys2Proof.Machine
end

