-- ==== Sys2Proof/Machine/Colour.lean ====
section
/-! DEFINITION. The colour engine (09_colour_engine.md): targets, the emitter claim, fades, dark, blackout, solo scaling
and the thermal state. -/

namespace Sys2Proof.Machine

/-- The mixed level of one emitter: the matrix sum, floored by 16384 and saturated (R157). -/
def mixedLevel (row : List Int) (c : ColourPart) : Nat :=
  (clampInt 0 65535 ((row.getD 0 0 * c.red + row.getD 1 0 * c.green + row.getD 2 0 * c.blue) / 16384)).toNat

/-- The intensity level (R158). -/
def intensityLevel (m intensity : Nat) : Nat := (m * intensity + 32767) / 65535

/-- The target of a colour part at dim scale S (R158). -/
def colourTarget (g : Figures) (c : ColourPart) (scale : Nat) : List Nat :=
  g.matrix.map (fun row => intensityLevel (mixedLevel row c) c.intensity * scale / Config.fullScale)

/-- The emitter claim of a set of levels (R89). -/
def emitterClaim (watts levels : List Nat) : Nat :=
  ceilDiv ((List.zipWith (fun l w => l * w) levels watts).sum) 65535

/-- The larger level of each emitter. -/
def maxLevels (a b : List Nat) : List Nat := List.zipWith max a b

/-- The current levels, raised to the target of a fade under way (R89, R118, R159). -/
def ColourState.bound (c : ColourState) : List Nat :=
  match c.fade with
  | none => c.levels
  | some f => maxLevels c.levels f.target

/-- One level at position t of a fade (R161). -/
def fadeLevel (old target t length : Nat) : Nat :=
  ((old : Int) + (((target : Int) - old) * t).tdiv length).toNat

/-- The six levels at a position of a fade (R161). -/
def Fade.levelsAt (f : Fade) (t : Nat) : List Nat :=
  List.zipWith (fun o g => fadeLevel o g t f.length) f.old f.target

/-- Starts a fade to a target (R160). With length 0 the levels are the target at once and the fade is IDLE. -/
def startFade (target : List Nat) (length scale : Nat) (owner : FadeOwner) (s : State) : State :=
  if length = 0 then { s with colour.levels := target, colour.fade := none }
  else { s with colour.fade := some ⟨s.colour.levels, target, length, 0, false, scale, owner⟩ }

/-- Starts the fade of a colour part at a dim scale (R160). -/
def startColour (c : ColourPart) (scale : Nat) (owner : FadeOwner) (s : State) : State :=
  startFade (colourTarget s.fig c scale) c.fade scale owner s

/-- Every level 0 at once and a fade under way stopped without a completion (R163, R164, R169). -/
def dark (s : State) : State := { s with colour.levels := darkLevels, colour.fade := none }

/-- A fade of this owner stops at its current levels (R162). -/
def stopFadeOf (owner : FadeOwner) (s : State) : State :=
  match s.colour.fade with
  | none => s
  | some f => if f.owner = owner then { s with colour.fade := none } else s

/-- A fade of this owner is under way (R58). -/
def State.fadingFor (s : State) (owner : FadeOwner) : Bool :=
  match s.colour.fade with
  | none => false
  | some f => f.owner == owner

/-- One tick of a fade (R161). The last step, which brings every level to its target, is left to FADE_COMPLETE, so that an
end of the call taken first finds the levels one tick short (R162, log 9). -/
def fadeTick (s : State) : State :=
  match s.colour.fade with
  | none => s
  | some f =>
    if f.t + 1 < f.length then
      { s with colour.levels := f.levelsAt (f.t + 1), colour.fade := some { f with t := f.t + 1 } }
    else { s with colour.fade := some { f with due := true } }

/-- Levels scaled by a dim scale at once (R165). -/
def scaleLevels (scale : Nat) (levels : List Nat) : List Nat := levels.map (fun l => l * scale / Config.fullScale)

/-- The next thermal state at temperature τ in half degrees (R166). -/
def thermalNext (derate shutdown : Nat) (st : ThermalState) (tau : Int) : ThermalState :=
  let td : Int := 2 * derate
  let ts : Int := 2 * shutdown
  match st with
  | .normal => if ts ≤ tau then .shutdown else if td ≤ tau then .derated else .normal
  | .derated => if ts ≤ tau then .shutdown else if tau ≤ td - 10 then .normal else .derated
  | .shutdown => if ts - 10 < tau then .shutdown else if tau ≤ td - 10 then .normal else .derated

/-- A temperature word moves the thermal state; it is recorded, and compared when figures are held (R166, R186). -/
def takeTemperature (tau : Int) (s : State) : State :=
  match s.station.figures with
  | none => { s with colour.lastTemp := some tau }
  | some g =>
    let st := thermalNext g.derate g.shutdown s.colour.thermal tau
    { s with
      colour.lastTemp := some tau
      colour.thermal := st
      colour.counters.derates :=
        satIf (s.colour.thermal == .normal && st == .derated) s.colour.counters.derates
      colour.counters.thermalShutdowns :=
        satIf (s.colour.thermal != .shutdown && st == .shutdown) s.colour.counters.thermalShutdowns }

/-- The temperature word reports a thermal shutdown (R167). -/
def reportsShutdown (tau : Int) (s : State) : Bool :=
  match s.station.figures with
  | none => false
  | some g => s.colour.thermal != .shutdown && thermalNext g.derate g.shutdown s.colour.thermal tau == .shutdown

end Sys2Proof.Machine
end

