-- ==== Sys2Proof/Machine/Profile.lean ====
section
/-! DEFINITION. The motion planner's computations (05_motion_profiles.md): clamping, the profile, limit checks, stretch,
segment claims, and the fit of a starting segment. -/

namespace Sys2Proof.Machine

/-- Distances of a segment on the two axes. -/
structure Travel where
  pan : Nat
  tilt : Nat
  deriving DecidableEq, Repr

/-- The travel from one aim to another (R84). -/
def travel (fromPan fromTilt toPan toTilt : Int) : Travel :=
  ⟨(toPan - fromPan).natAbs, (toTilt - fromTilt).natAbs⟩

/-- A duration and a ramp, and how many stretches were capped at the planning ceiling in reaching them. -/
structure Timing where
  d : Nat
  r : Nat
  capped : Nat
  deriving DecidableEq, Repr

/-- D taken into 2..60000 (R83). -/
def clampD (d : Nat) : Nat := clampNat 2 Config.maxDuration d

/-- R taken into max(1, minimum ramp)..floor(D/2) (R83). -/
def clampR (g : Figures) (d r : Nat) : Nat :=
  let lo := max 1 (max g.pan.minRamp g.tilt.minRamp)
  if d / 2 < lo then d / 2 else clampNat lo (d / 2) r

/-- The distance covered at tick position t (R84). -/
def profileDistance (l d r t : Nat) : Nat :=
  let m := d - r
  let z := 2 * r * m
  if t ≤ r then l * t ^ 2 / z
  else if t ≤ m then l * (2 * t - r) / (2 * m)
  else l - l * (d - t) ^ 2 / z

/-- The commanded position of one axis at tick position t (R84). -/
def profilePosition (a b : Int) (d r t : Nat) : Int :=
  if a ≤ b then a + profileDistance (b - a).natAbs d r t else a - profileDistance (b - a).natAbs d r t

/-- The ramp rate Q (R85). -/
def rampRate (l d r : Nat) : Nat := if l = 0 then 0 else ceilDiv (l * 1024) (r * (d - r))

/-- The velocity check of one axis (R85). -/
def velocityOk (a : AxisFigures) (l d r : Nat) : Bool := l == 0 || decide (l ≤ a.vmax * (d - r))

/-- The acceleration check of one axis (R85). -/
def accelOk (a : AxisFigures) (l d r : Nat) : Bool := decide (rampRate l d r ≤ a.qmax)

/-- Both axes pass the velocity check. -/
def velocitiesOk (g : Figures) (v : Travel) (d r : Nat) : Bool :=
  velocityOk g.pan v.pan d r && velocityOk g.tilt v.tilt d r

/-- Both axes pass the acceleration check. -/
def accelsOk (g : Figures) (v : Travel) (d r : Nat) : Bool :=
  accelOk g.pan v.pan d r && accelOk g.tilt v.tilt d r

/-- The segment passes (R85). -/
def checksOk (g : Figures) (v : Travel) (d r : Nat) : Bool := velocitiesOk g v d r && accelsOk g v d r

/-- The axis claim (R88). -/
def axisClaim (a : AxisFigures) (l d r : Nat) : Nat := a.hold + ceilDiv (rampRate l d r * a.kw) 4096

/-- The segment claim (R88). -/
def segmentClaim (g : Figures) (v : Travel) (d r : Nat) : Nat :=
  axisClaim g.pan v.pan d r + axisClaim g.tilt v.tilt d r

/-- Hold watts of both axes. -/
def Figures.holds (g : Figures) : Nat := g.pan.hold + g.tilt.hold

/-- Base claim and both hold watts: what the fixture draws holding still and dark. -/
def Figures.still (g : Figures) : Nat := g.baseClaim + g.holds

/-- A computed D above the planning ceiling becomes the ceiling (R87). -/
def capped (d r : Nat) : Timing :=
  if Config.ceilingD < d then ⟨Config.ceilingD, Config.ceilingR, 1⟩ else ⟨d, r, 0⟩

/-- The least D from `start` to the planning ceiling that passes a test. -/
def leastDuration (p : Nat → Bool) (start : Nat) : Option Nat :=
  leastFrom p (Config.ceilingD + 1 - start) start

/-- Step 1 of the mandatory stretch (R86). -/
def stretchVelocity (g : Figures) (v : Travel) (d r : Nat) : Timing :=
  if velocitiesOk g v d r then ⟨d, r, 0⟩
  else capped (r + max (ceilDiv v.pan g.pan.vmax) (ceilDiv v.tilt g.tilt.vmax)) r

/-- Step 2 of the mandatory stretch (R86), with the ceiling of R87. -/
def stretchAccel (g : Figures) (v : Travel) (w : Timing) : Timing :=
  if accelsOk g v w.d w.r then w
  else if checksOk g v w.d (w.d / 2) then ⟨w.d, w.d / 2, w.capped⟩
  else
    match leastDuration (fun d => checksOk g v d (d / 2)) w.d with
    | some d => ⟨d, d / 2, w.capped⟩
    | none => ⟨Config.ceilingD, Config.ceilingR, w.capped + 1⟩

/-- The mandatory stretch (R86): D_base and its R. -/
def mandatoryStretch (g : Figures) (v : Travel) (d r : Nat) : Timing :=
  stretchAccel g v (stretchVelocity g v d r)

/-- What becomes of a starting segment (R96, R97). -/
inductive FitKind where
  /-- It fits as it stands. -/
  | fits
  /-- Its D was raised: "refit stretched". -/
  | stretched
  /-- No D fits: "refit held". -/
  | held
  deriving DecidableEq, Repr

/-- The fit of a starting segment. -/
structure Fit where
  kind : FitKind
  d : Nat
  r : Nat
  claim : Nat
  capped : Nat
  deriving DecidableEq, Repr

/-- The segment claim, with base claim and emitter term, is within the own granted claim (R96). -/
def claimFits (g : Figures) (emitterTerm granted : Nat) (v : Travel) (d r : Nat) : Bool :=
  decide (g.baseClaim + segmentClaim g v d r + emitterTerm ≤ granted)

/-- The fit of R96, steps 2 to 4, and the hold of R97. A raise past the ceiling runs at the ceiling when the claim fits
there (R87, log 21). A held segment runs with the D and R that the mandatory stretch of R96 gave for the travel from the
commanded position (DESIGN CHOICE, log 46). -/
def fitSegment (g : Figures) (emitterTerm granted : Nat) (v : Travel) (d r : Nat) : Fit :=
  let w := mandatoryStretch g v d r
  if claimFits g emitterTerm granted v w.d w.r then ⟨.fits, w.d, w.r, segmentClaim g v w.d w.r, w.capped⟩
  else
    match leastDuration (fun x => checksOk g v x (x / 2) && claimFits g emitterTerm granted v x (x / 2)) w.d with
    | some x => ⟨.stretched, x, x / 2, segmentClaim g v x (x / 2), w.capped⟩
    | none =>
      if claimFits g emitterTerm granted v Config.ceilingD Config.ceilingR then
        ⟨.stretched, Config.ceilingD, Config.ceilingR, segmentClaim g v Config.ceilingD Config.ceilingR, w.capped + 1⟩
      else ⟨.held, w.d, w.r, g.holds, w.capped⟩

/-- The duration of a follow segment: the least from the follow lag to eight times it that passes its limits (R143). -/
def followDuration (g : Figures) (v : Travel) : Option Nat :=
  leastFrom (fun d => checksOk g v d (d / 2) && decide (segmentClaim g v d (d / 2) ≤ g.followAllowance))
    (7 * g.followLag + 1) g.followLag

end Sys2Proof.Machine
end

