-- ==== Sys2Proof/Machine/Ops.lean ====
section
/-! DEFINITION. The named operations the meanings share: the transmit queue (R14 to R18), offering a frame and being told
of its drop (R15, R16), changing the station mode (R184), and access to the call table, the pool and the landing records. -/

namespace Sys2Proof.Machine

/-! ### The transmit queue -/

/-- The kind of a queued frame (R14, R24). -/
def TxBody.kind : TxBody → Nat
  | .claim _ => 1
  | .cover _ => 3
  | .offer _ => 4
  | .beacon => 7
  | .report _ => 9

/-- The subject of a queued frame within its kind (R14). -/
def TxBody.subject : TxBody → Nat
  | .claim _ => 0
  | .cover f => f.target.toNat
  | .offer f => f.callId.toNat
  | .beacon => 0
  | .report _ => 0

/-- Same kind and subject (R15). -/
def TxBody.same (a b : TxBody) : Bool := a.kind == b.kind && a.subject == b.subject

/-- An offer that meets an entry of its kind and subject (R15). -/
def TxEntry.replaceBy (e : TxEntry) (b : TxBody) : TxEntry :=
  if e.inFlight then { e with next := some b } else { e with body := b, attempts := 0 }

/-- The queue after an offer; none when the offered frame is dropped (R15). -/
def queueOffer (q : List TxEntry) (b : TxBody) : Option (List TxEntry) :=
  if q.any (fun e => e.body.same b) then some (q.map (fun e => if e.body.same b then e.replaceBy b else e))
  else if q.length < Config.queueCapacity then some (q ++ [⟨b, 0, false, none⟩])
  else none

/-- A has lower kind than b; the order of entry decides among equals (R17). -/
def selectEntry : List TxEntry → Option TxEntry
  | [] => none
  | e :: rest =>
    match selectEntry rest with
    | none => if e.inFlight then none else some e
    | some f => if !e.inFlight && e.body.kind ≤ f.body.kind then some e else some f

/-- The selected entry becomes IN_FLIGHT (R17). -/
def markInFlight (q : List TxEntry) (b : TxBody) : List TxEntry :=
  q.map (fun e => if e.body.same b then { e with inFlight := true } else e)

/-- The held payload of a replaced entry becomes its payload (R18). -/
def TxEntry.takeNext (e : TxEntry) (b : TxBody) : TxEntry := { e with body := b, attempts := 0, inFlight := false, next := none }

/-- The queue after the attempt in flight succeeded (R18). -/
def queueSuccess : List TxEntry → List TxEntry
  | [] => []
  | e :: rest =>
    if e.inFlight then
      match e.next with
      | none => rest
      | some b => e.takeNext b :: rest
    else e :: queueSuccess rest

/-- The queue after the attempt in flight lost arbitration (R18). -/
def queueArbLost (q : List TxEntry) : List TxEntry :=
  q.map (fun e =>
    if e.inFlight then
      match e.next with
      | none => { e with inFlight := false }
      | some b => e.takeNext b
    else e)

/-- The queue after the attempt in flight clashed, and the payload dropped, if one was (R18). -/
def queueClash : List TxEntry → List TxEntry × Option TxBody
  | [] => ([], none)
  | e :: rest =>
    if e.inFlight then
      match e.next with
      | some b => (e.takeNext b :: rest, none)
      | none =>
        if e.attempts < Config.maxAttempts then ({ e with attempts := e.attempts + 1, inFlight := false } :: rest, none)
        else (rest, some e.body)
    else
      let c := queueClash rest
      (e :: c.1, c.2)

/-! ### Drops and offers -/

/-- A dropped CLAIM that carried the round's request puts the round AWAITING (R112). -/
def claimDropped (f : ClaimFields) (s : State) : State :=
  match s.power.round with
  | none => s
  | some r =>
    if !r.awaiting && !r.held && r.request == f.requested.toNat && r.reason.code == f.reason.toNat then
      { s with
        power.round := some { r with awaiting := true }
        power.reclaim := some Config.reclaimTicks
        power.counters.claimsDropped := satInc s.power.counters.claimsDropped }
    else s

/-- The block that offered a frame is told of its drop (R16, R112, R129, R153). -/
def toldDrop : TxBody → State → State
  | .claim f, s => claimDropped f s
  | .cover _, s => { s with cover.counters.coverFramesLost := satInc s.cover.counters.coverFramesLost }
  | .offer _, s => { s with landing.counters.offersLost := satInc s.landing.counters.offersLost }
  | .beacon, s => s
  | .report _, s => s

/-- A block offers a frame to the transmit queue (R15). -/
def offer (b : TxBody) (s : State) : State :=
  match queueOffer s.link.queue b with
  | some q => { s with link.queue := q }
  | none => toldDrop b { s with link.counters.queueFull := satInc s.link.counters.queueFull }

/-! ### Station mode -/

/-- The line state in a station mode: OFF in RESET and CONFIG, WAIT_IDLE on leaving them, else as it stands (R3). -/
def lineFor (m : StationMode) (l : LineState) : LineState :=
  if m.linkOff then .off else if l = .off then .waitIdle else l

/-- The line state and its runs after a change of mode; the runs are 0 where the line is OFF or just on (R3). -/
def enterLine (m : StationMode) (k : LinkState) : LinkState :=
  if m.linkOff || k.lineState == .off then
    { k with lineState := lineFor m k.lineState, recessiveRun := 0, dominantRun := 0 }
  else k

/-- A BEACON is offered and the beacon timer restarts (R38). -/
def beaconNow (s : State) : State :=
  offer .beacon { s with clock.beaconTimer := some Config.beaconInterval }

/-- A change of station mode: the status line follows (R192), the link controller goes on or OFF (R3), and in a mode
other than RESET and CONFIG a BEACON is offered and its timer restarts, a run-out whose BEACON is still to be offered standing;
elsewhere the timer is STOPPED (R38). -/
def setMode (m : StationMode) (s : State) : State :=
  let s1 : State := { s with station.mode := m, station.statusAsserted := m.asserts, link := enterLine m s.link }
  if m.linkOff then { s1 with clock.beaconTimer := none, clock.beaconDue := false } else beaconNow s1

/-! ### Call table and pool -/

/-- The record of a call id (R41). -/
def State.findCall (s : State) (id : Word16) : Option CallRecord := s.store.calls.find? (fun r => r.callId == id)

/-- The record of a call id is changed; the others stand. -/
def updateCall (id : Word16) (f : CallRecord → CallRecord) (s : State) : State :=
  { s with store.calls := s.store.calls.map (fun r => if r.callId == id then f r else r) }

/-- a precedes b in the call table: an earlier go time, or an equal one and an earlier arrival (R41, R46). -/
def CallRecord.precedes (a b : CallRecord) : Bool :=
  isBefore a.goTime b.goTime || (a.goTime == b.goTime && decide (a.arrival < b.arrival))

/-- The table with a record placed in its order (R41). The wrap-aware test of 00_scope.md orders go times less than 2^31 ms apart. Where
the table holds go times further apart it is no order and R41 names no place: the record goes before the first record that it
precedes (DESIGN CHOICE, log 52). -/
def placeCall (r : CallRecord) : List CallRecord → List CallRecord
  | [] => [r]
  | c :: rest => if r.precedes c then r :: c :: rest else c :: placeCall r rest

/-- Segments held by a chain that are not CONSUMED. -/
def liveSegments (chain : List PoolSegment) : List PoolSegment := chain.filter (fun g => g.state != .consumed)

/-- The first QUEUED segment of a chain. -/
def firstQueued (chain : List PoolSegment) : Option PoolSegment := chain.find? (fun g => g.state == .queued)

/-- The ACTIVE segment of a chain becomes CONSUMED (R56). -/
def consumeActive (chain : List PoolSegment) : List PoolSegment :=
  chain.map (fun g => if g.state == .active then { g with state := .consumed } else g)

/-- The segment of an index becomes ACTIVE (R56). -/
def activate (i : Nat) (chain : List PoolSegment) : List PoolSegment :=
  chain.map (fun g => if g.index == i then { g with state := .active } else g)

/-- Free records of the call table as a BEACON advertises them (R63). -/
def State.callCredit (s : State) : Nat :=
  if s.station.mode.takesIntake && s.store.intake == .opened then Config.callCapacity - s.store.calls.length else 0

/-- Free segments of the pool as a BEACON advertises them (R63). -/
def State.poolCredit (s : State) : Nat :=
  if s.station.mode.takesIntake && s.store.intake == .opened then s.store.poolFree else 0

/-! ### Landing records -/

/-- The landing record of a call id (R125). -/
def State.findLanding (s : State) (id : Word16) : Option LandingRecord :=
  s.landing.records.find? (fun r => r.callId == id)

/-- The landing record of a call id is changed; the others stand. -/
def updateLanding (id : Word16) (f : LandingRecord → LandingRecord) (s : State) : State :=
  { s with landing.records := s.landing.records.map (fun r => if r.callId == id then f r else r) }

/-! ### The commanded position -/

/-- The commanded position brought into the soft limits (R81, R174). -/
def commandWithin (g : Figures) (pan tilt : Int) (s : State) : State :=
  { s with
    planner.pan := clampInt g.panMin g.panMax pan
    planner.tilt := clampInt g.tiltMin g.tiltMax tilt }

/-- The motion stops where it stands (R98). -/
def haltMotion (s : State) : State := { s with planner.motion := none }

/-- A segment of this owner stops where it stands (R98). -/
def stopMotionOf (owner : MotionOwner) (s : State) : State :=
  match s.planner.motion with
  | none => s
  | some m => if m.owner = owner then haltMotion s else s

end Sys2Proof.Machine
end

