-- ==== Sys2Proof/Machine/Power.lean ====
section
/-! DEFINITION. The power share unit (06_the_power_share.md): sums and headroom, the claim round, the claim test, stated
claims, the draw estimate, lowering figures. -/

namespace Sys2Proof.Machine

/-- Total of the granted claims of the own circuit's entries, LIVE and SILENT alike (R102). -/
def State.sumOthers (s : State) : Nat :=
  ((s.clock.peers.filter (fun p => s.isOwnCircuit p.circuit)).map Peer.granted).sum

/-- The headroom of the ladder: the budget less the sum of others (R102), or the solo allowance (R92, R121). -/
def State.headroom (s : State) : Int :=
  if s.soloOn then s.fig.soloAllowance else (s.fig.budget : Int) - s.sumOthers

/-- The idle claim (R90). -/
def State.idleClaim (s : State) : Nat := s.fig.still + emitterClaim s.fig.emitterWatts s.colour.levels

/-- The motion term of the draw estimate (R118). -/
def State.motionTerm (s : State) : Nat :=
  if s.station.mode = .homing then s.fig.holds + s.fig.homingAllowance
  else if s.roleGranted then s.fig.followAllowance
  else
    match s.planner.motion with
    | none => s.fig.holds
    | some m =>
      match m.owner with
      | .call _ => m.claim
      | .follow => s.fig.followAllowance

/-- The draw estimate (R118). -/
def State.drawEstimate (s : State) : Nat :=
  if s.axisEnable then s.fig.baseClaim + s.motionTerm + emitterClaim s.fig.emitterWatts s.colour.bound else 0

/-- The draw estimate with the motion term at the hold watts (R120). -/
def State.stillEstimate (s : State) : Nat :=
  if s.axisEnable then s.fig.still + emitterClaim s.fig.emitterWatts s.colour.bound else 0

/-- The CLAIM frame of a request (R103). -/
def claimFrame (g : Figures) (watts : Nat) (reason : Reason) : ClaimFields :=
  ⟨BitVec.ofNat 8 g.circuit, BitVec.ofNat 16 watts, BitVec.ofNat 8 reason.code⟩

/-- The purposes deferred once a request with a new purpose replaces the round (R103): the replaced purpose joins them,
unless it was a lowering or the same one; the new purpose leaves them. -/
def deferFor (round : Option Round) (purpose : Purpose) (deferred : List Purpose) : List Purpose :=
  let rest := deferred.filter (fun p => p != purpose)
  match round with
  | none => rest
  | some r =>
    if r.purpose = .lowering ∨ r.purpose = purpose ∨ r.purpose ∈ rest then rest else rest ++ [r.purpose]

/-- The round closes as granted: it is NONE, its purpose is to be told of the figure it asked for, and the deferred purposes
ask again (R103, R106, R116). -/
def closeGranted (watts : Nat) (purpose : Purpose) (s : State) : State :=
  { s with
    power.round := none
    power.reclaim := none
    notices := s.notices ++ [.granted purpose watts, .rearm] }

/-- A request decided locally in solo mode (R121). -/
def decideLocally (watts : Nat) (reason : Reason) (purpose : Purpose) (s : State) : State :=
  if purpose = .lowering ∨ watts ≤ s.fig.soloAllowance then
    closeGranted watts purpose { s with power.granted := watts }
  else
    { s with
      power.round := some ⟨true, watts, reason, purpose, false⟩
      power.reclaim := some Config.reclaimTicks
      power.counters.ownRefused := satInc s.power.counters.ownRefused }

/-- A request opens a round and offers its CLAIM, or the view settle timer holds the CLAIM back; a lowering is not held
back (R103, R119). -/
def openRound (watts : Nat) (reason : Reason) (purpose : Purpose) (s : State) : State :=
  let held := s.settling && purpose != .lowering
  let s1 : State :=
    { s with power.round := some ⟨false, watts, reason, purpose, held⟩, power.reclaim := none }
  if held then s1 else offer (.claim (claimFrame s.fig watts reason)) s1

/-- A request (R103, R104): it replaces the round that stands, deferring its purpose, and is decided locally in solo
mode. -/
def request (watts : Nat) (reason : Reason) (purpose : Purpose) (s : State) : State :=
  let s1 : State :=
    { s with power.deferred := deferFor s.power.round purpose s.power.deferred, power.abandoned := false }
  if s.soloOn then decideLocally watts reason purpose s1 else openRound watts reason purpose s1

/-- A request that lowers the own claim to a figure (R113). -/
def requestLowering (watts : Nat) (s : State) : State := request watts .idle .lowering s

/-- The purpose has ended: a round that seeks it is abandoned (R115), and it is deferred no more (R103). -/
def endPurpose (purpose : Purpose) (s : State) : State :=
  let deferred := s.power.deferred.filter (fun p => p != purpose)
  match s.power.round with
  | none => { s with power.deferred := deferred }
  | some r =>
    if r.purpose = purpose then
      { s with power.deferred := deferred, power.round := none, power.reclaim := none, power.abandoned := true }
    else { s with power.deferred := deferred }

/-- The round ends with no verdict and nothing is deferred (R120, R123). -/
def endRound (s : State) : State :=
  { s with power.round := none, power.reclaim := none, power.deferred := [], power.abandoned := false }

/-- A call other than the given one holds a plan (R113, R114). -/
def State.plannedCall (s : State) : Option CallRecord :=
  s.store.calls.find? (fun r => r.plan.isSome && !r.carriedOut)

/-- The lowering at the end of a call, of a role, or at a STOP (R59, R113, R114): to the plan claim of a call that holds a
plan, else to the idle claim. None is made while another call is RUNNING or HOLD_OPEN or the role holds its grant. With no
plan held, a round just abandoned is left to R115, which gives it its figure; with one held, R114 comes first (DEDUCED, log 49).
In HOMING it is made as elsewhere (DESIGN CHOICE, log 13), and in STARTING after a power-on reset it asks for more than the
0 W held, at once (DESIGN CHOICE, log 44). -/
def lowerAfterEnd (s : State) : State :=
  if s.someRunning || s.roleGranted then s
  else
    match s.plannedCall with
    | none => if s.power.abandoned then s else requestLowering s.idleClaim s
    | some r =>
      match r.plan with
      | none => s
      | some p => request p.planClaim .move (.move r.callId) s

/-- The fresh figure of an abandoned round, when no plan was taken in the event (R115). -/
def freshen (s : State) : State :=
  if s.power.abandoned then
    requestLowering (if s.someRunning || s.roleGranted then s.power.granted else s.idleClaim) s
  else s

/-! ### The claim test -/

/-- The verdict of a claim test (R105): at or below the claim held, or within the budget with the others. -/
def claimGranted (budget others held watts : Nat) : Bool := decide (watts ≤ held) || decide (watts + others ≤ budget)

/-- The claim this station's view holds for a sender: that of its entry, or 0 (R105). -/
def State.peerGranted (s : State) (st : Byte) : Nat :=
  match s.clock.peers.find? (fun p => p.station == st) with
  | none => 0
  | some p => p.granted

/-- The sum of the others in the test of a peer's claim: the own circuit's entries but the sender's, and the own granted
claim (R105). -/
def State.othersFor (s : State) (st : Byte) : Nat :=
  ((s.clock.peers.filter (fun p => s.isOwnCircuit p.circuit && p.station != st)).map Peer.granted).sum + s.power.granted

/-- An entry's granted claim is written; a sender with no entry has none to write into (R105, R108). -/
def setPeerGranted (st : Byte) (watts : Nat) (s : State) : State :=
  { s with
    clock.peers := s.clock.peers.map (fun p => if p.station == st then { p with granted := watts } else p) }

/-- The test of a peer's CLAIM on the own circuit (R105). The Bool says that the claim was granted below what the entry
held, a headroom rise (R110). -/
def testPeerClaim (st : Byte) (f : ClaimFields) (s : State) : State × Bool :=
  if !s.station.mode.testsClaims || !s.isOwnCircuit f.circuit.toNat then (s, false)
  else if claimGranted s.fig.budget (s.othersFor st) (s.peerGranted st) f.requested.toNat then
    (setPeerGranted st f.requested.toNat s, decide (f.requested.toNat < s.peerGranted st))
  else ({ s with power.counters.peerRefused := satInc s.power.counters.peerRefused }, false)

/-- A readback carries the round's request and reason, and the round is OPEN with its CLAIM offered (R106). -/
def carriesRound (f : ClaimFields) (r : Round) : Bool :=
  !r.awaiting && !r.held && r.request == f.requested.toNat && r.reason.code == f.reason.toNat

/-- A refused round goes AWAITING (R106, R111). -/
def awaitRound (r : Round) (s : State) : State :=
  { s with power.round := some { r with awaiting := true }, power.reclaim := some Config.reclaimTicks }

/-- What the verdict on an own CLAIM does to the round (R106). -/
def settleRound (f : ClaimFields) (granted : Bool) (s : State) : State :=
  match s.power.round with
  | none => s
  | some r =>
    if carriesRound f r then (if granted then closeGranted r.request r.purpose s else awaitRound r s)
    else if r.request ≤ s.power.granted then closeGranted r.request r.purpose s
    else s

/-- The readback of the own CLAIM: tested while solo mode is OFF (R106), not touched while it is ON (R121). -/
def ownClaimReadback (f : ClaimFields) (s : State) : State :=
  if s.soloOn then s
  else if claimGranted s.fig.budget s.sumOthers s.power.granted f.requested.toNat then
    settleRound f true { s with power.granted := f.requested.toNat }
  else settleRound f false { s with power.counters.ownRefused := satInc s.power.counters.ownRefused }

end Sys2Proof.Machine
end

