-- ==== Sys2Proof/Machine/Ladder.lean ====
section
/-! DEFINITION. Planning a call (R91 to R94): ends, mandatory stretch, the planning ladder, the plan record and its
request. -/

namespace Sys2Proof.Machine

/-! ### Ends of segments (R66, R77) -/

/-- The end of a segment in counts from a reference position, and its class; ANGLES ends pass the limit stage
(R66, R77). With no mount pose the reference stands: no solve is asked for then (R65). -/
def endOf (g : Figures) (pose : Option MountPose) (mode : CallMode) (refPan refTilt : Int) (seg : PoolSegment) :
    (Int × Int) × AimClass :=
  match mode with
  | .point =>
    match pose with
    | none => ((refPan, refTilt), .solved)
    | some p =>
      let r := solve g p refPan refTilt seg.end1 seg.end2 seg.end3
      ((r.pan, r.tilt), r.cls)
  | .angles =>
    let l := limitEnd g seg.end1 seg.end2
    (l.1, if l.2 then .clamped else .solved)
  | .follow => ((refPan, refTilt), .solved)
  | .colour => ((refPan, refTilt), .solved)

/-- The aim counters after an end of a class (R79). -/
def countAim (c : AimClass) (k : AimCounters) : AimCounters :=
  match c with
  | .solved => k
  | .clamped => { k with aimClamped := satInc k.aimClamped }
  | .degenerate => { k with degenerateAim := satInc k.degenerateAim }

/-- The ends of a chain, each from the end before it, and the aim counters after them (R66). -/
def endsOf (g : Figures) (pose : Option MountPose) (mode : CallMode) :
    Int → Int → List PoolSegment → AimCounters → List (Int × Int) × AimCounters
  | _, _, [], k => ([], k)
  | refPan, refTilt, seg :: rest, k =>
    let e := endOf g pose mode refPan refTilt seg
    let r := endsOf g pose mode e.1.1 e.1.2 rest (countAim e.2 k)
    (e.1 :: r.1, r.2)

/-- The base timing of each segment: clamped, then mandatorily stretched from the end before it (R83, R86, R91). -/
def baseSegs (g : Figures) : Int → Int → List ((Int × Int) × PoolSegment) → List SegPlan × Nat
  | _, _, [] => ([], 0)
  | p, t, (e, seg) :: rest =>
    let d := clampD seg.duration
    let w := mandatoryStretch g (travel p t e.1 e.2) d (clampR g d seg.ramp)
    let r := baseSegs g e.1 e.2 rest
    (⟨e.1, e.2, w.d, w.r, w.d, w.r, 0⟩ :: r.1, w.capped + r.2)

/-! ### The ladder (R92, R93) -/

/-- A segment planned from an aim with a timing: its D, R and claim are set (R88, R91). -/
def shapeSegs (g : Figures) (timing : SegPlan → Timing) : Int → Int → List SegPlan → List SegPlan
  | _, _, [] => []
  | p, t, seg :: rest =>
    let w := timing seg
    { seg with d := w.d, r := w.r, claim := segmentClaim g (travel p t seg.endPan seg.endTilt) w.d w.r }
      :: shapeSegs g timing seg.endPan seg.endTilt rest

/-- No segment of a shape fails a velocity check (R92). -/
def shapeVelocityOk (g : Figures) : Int → Int → List SegPlan → Bool
  | _, _, [] => true
  | p, t, seg :: rest =>
    velocitiesOk g (travel p t seg.endPan seg.endTilt) seg.d seg.r && shapeVelocityOk g seg.endPan seg.endTilt rest

/-- Timing of step (a) (R92). -/
def timingA (s : SegPlan) : Timing := ⟨s.baseD, s.baseR, 0⟩

/-- Timing of step (b) (R92). -/
def timingB (s : SegPlan) : Timing := ⟨s.baseD, s.baseD / 2, 0⟩

/-- Timing of step (c) at k (R92), through the planning ceiling (R87). -/
def timingC (k : Nat) (s : SegPlan) : Timing :=
  let d := s.baseD + ceilDiv (k * s.baseD) 8
  capped d (d / 2)

/-- A shape of the ladder: its step, its segments, and how many of them the ceiling capped. -/
structure Shape where
  step : LadderStep
  segs : List SegPlan
  capped : Nat
  deriving DecidableEq, Repr

/-- A shape made with a timing. -/
def makeShape (g : Figures) (p t : Int) (segs : List SegPlan) (step : LadderStep) (timing : SegPlan → Timing) : Shape :=
  ⟨step, shapeSegs g timing p t segs, (segs.map (fun s => (timing s).capped)).sum⟩

/-- The largest k of step (c) for a stretch allowance (R41, R92). -/
def stretchSteps (allowance : Nat) : Nat :=
  match allowance with
  | 0 => 0 | 1 => 2 | 2 => 4 | _ => 8

/-- Steps (b) and (c) in order; a COLOUR call has none (R92). -/
def laterShapes (g : Figures) (p t : Int) (segs : List SegPlan) (allowance : Nat) : List Shape :=
  if segs.isEmpty then []
  else
    makeShape g p t segs .rampRaised timingB
      :: (List.range (stretchSteps allowance)).map (fun i => makeShape g p t segs (.stretched (i + 1)) (timingC (i + 1)))

/-- The motion term of a shape (R89). -/
def motionOf (g : Figures) (segs : List SegPlan) : Nat :=
  if segs.isEmpty then g.holds else (segs.map SegPlan.claim).foldl max 0

/-- What the claims of a plan depend on besides its shape (R89). -/
structure LadderInput where
  colour : Option ColourPart
  bound : List Nat
  floor : Nat
  headroom : Int
  deriving DecidableEq, Repr

/-- The emitter term at a dim scale (R89). -/
def emitterTermAt (g : Figures) (inp : LadderInput) (scale : Nat) : Nat :=
  match inp.colour with
  | none => emitterClaim g.emitterWatts inp.bound
  | some c => emitterClaim g.emitterWatts (maxLevels inp.bound (colourTarget g c scale))

/-- The plan of a shape at a dim scale, with its claims (R89, R91). -/
def planOf (g : Figures) (inp : LadderInput) (p t : Int) (sh : Shape) (step : LadderStep) (scale : Nat) : Plan :=
  let e := emitterTermAt g inp scale
  let c := g.baseClaim + motionOf g sh.segs + e
  ⟨p, t, sh.segs, step, scale, e, c, max c inp.floor⟩

/-- The plan fits the headroom (R92). -/
def Plan.fits (pl : Plan) (h : Int) : Bool := decide ((pl.request : Int) ≤ h)

/-- What trying the shapes gave: a plan that fits, the last shape tried, and the segments the ceiling capped (R92). -/
structure ShapeTrial where
  taken : Option Plan
  last : Shape
  capped : Nat
  deriving DecidableEq, Repr

/-- Tries steps (b) and (c) in order after `last`; a shape that fails a velocity check is skipped (R92). With vmax 1 and an axis
that travels more than 32768 counts, step (c) at k = 8 meets the planning ceiling (R87) and fails that check, where R92 also says
that the candidate is not skipped: the model skips it as any other that fails (DESIGN CHOICE, log 55). -/
def tryShapes (g : Figures) (inp : LadderInput) (p t : Int) : List Shape → Shape → Nat → ShapeTrial
  | [], last, n => ⟨none, last, n⟩
  | sh :: rest, last, n =>
    if shapeVelocityOk g p t sh.segs then
      if (planOf g inp p t sh sh.step Config.fullScale).fits inp.headroom then
        ⟨some (planOf g inp p t sh sh.step Config.fullScale), sh, n + sh.capped⟩
      else tryShapes g inp p t rest sh (n + sh.capped)
    else tryShapes g inp p t rest last (n + sh.capped)

/-- The dim scale of step m (R93). -/
def dimScale (m : Nat) : Nat := Config.fullScale - Config.dimStep * m

/-- Tries the dim steps in order after `last`; when none fits, the last tried is recorded at step (e) (R93). -/
def tryDims (g : Figures) (inp : LadderInput) (p t : Int) (sh : Shape) : List Nat → Plan → Plan
  | [], last => { last with step := .noFit }
  | m :: rest, _ =>
    if (planOf g inp p t sh (.dimmed m) (dimScale m)).fits inp.headroom then planOf g inp p t sh (.dimmed m) (dimScale m)
    else tryDims g inp p t sh rest (planOf g inp p t sh (.dimmed m) (dimScale m))

/-- The dim steps a call has (R93). -/
def dimSteps (g : Figures) (colour : Option ColourPart) : List Nat :=
  if colour.isSome then (List.range (Config.maxDim - g.dimFloor)).map (· + 1) else []

/-- The planning ladder (R92, R93): the plan taken, and how many stretches the ceiling capped. -/
def ladder (g : Figures) (inp : LadderInput) (p t : Int) (segs : List SegPlan) (allowance : Nat) : Plan × Nat :=
  let a := makeShape g p t segs .asRequested timingA
  let pa := planOf g inp p t a .asRequested Config.fullScale
  if pa.fits inp.headroom then (pa, 0)
  else
    let tr := tryShapes g inp p t (laterShapes g p t segs allowance) a 0
    match tr.taken with
    | some pl => (pl, tr.capped)
    | none =>
      (tryDims g inp p t tr.last (dimSteps g inp.colour) (planOf g inp p t tr.last tr.last.step Config.fullScale), tr.capped)

/-! ### Recording a plan -/

/-- The planner counters after a plan is recorded (R99). -/
def countPlan (step : LadderStep) (cap : Nat) (k : PlannerCounters) : PlannerCounters :=
  { k with
    plans := satInc k.plans
    rampRaised := satIf (step == .rampRaised) k.rampRaised
    stretched := satIf (match step with
      | .stretched _ => true
      | .asRequested => false | .rampRaised => false | .dimmed _ => false | .noFit => false) k.stretched
    dimmed := satIf (match step with
      | .dimmed _ => true
      | .asRequested => false | .rampRaised => false | .stretched _ => false | .noFit => false) k.dimmed
    noFit := satIf (step == .noFit) k.noFit
    ceiling := satAdd k.ceiling cap }

/-- The claim a request covers besides the plan's own: the own granted claim while another call runs (R89). -/
def State.requestFloor (s : State) : Nat := if s.someRunning then s.power.granted else 0

/-- What the ladder reads of the state for a call (R89, R92). -/
def State.ladderInput (s : State) (colour : Option ColourPart) : LadderInput :=
  ⟨colour, s.colour.bound, s.requestFloor, s.headroom⟩

/-- The state a call has once it is planned: a PENDING call is CLAIMING, a WAITING one stays WAITING (R49, R91). A PLANNED
call whose restatement round (R114) is dropped or replaced runs the ladder again and is CLAIMING until its grant; no rule
names its state then (DESIGN CHOICE, log 45). In solo mode a PLANNED call planned again is decided at once (R120, R121). -/
def CallState.onPlan : CallState → CallState
  | .pending => .claiming
  | .claiming => .claiming
  | .planned => .claiming
  | .waiting => .waiting
  | .running => .running
  | .holdOpen => .holdOpen

/-- A plan is recorded for a call: it is counted (R99), the landing unit notes its lead (R128), and its claim is
requested (R91, R104). -/
def recordPlan (id : Word16) (pl : Plan) (cap : Nat) (s : State) : State :=
  let s1 := updateCall id (fun r => { r with plan := some pl, state := r.state.onPlan }) s
  let s2 := updateLanding id (fun r => { r with plannedLead := pl.segs.head?.map SegPlan.d }) s1
  let s3 : State := { s2 with planner.counters := countPlan pl.step cap s2.planner.counters }
  request pl.request .move (.move id) s3

/-- Plans a call with the segments it holds, from the commanded position (R91). -/
def planCall (id : Word16) (s : State) : State :=
  match s.findCall id with
  | none => s
  | some r =>
    let e := endsOf s.fig s.aim.pose r.mode s.planner.pan s.planner.tilt r.chain s.aim.counters
    let b := baseSegs s.fig s.planner.pan s.planner.tilt (e.1.zip r.chain)
    let l := ladder s.fig (s.ladderInput r.colour) s.planner.pan s.planner.tilt b.1 r.stretch
    recordPlan id l.1 (b.2 + l.2) { s with aim.counters := e.2 }

/-- Runs the ladder again on a call's plan record, its segments, ends and reference kept (R94). -/
def replanCall (id : Word16) (s : State) : State :=
  match s.findCall id with
  | none => s
  | some r =>
    match r.plan with
    | none => s
    | some pl =>
      let l := ladder s.fig (s.ladderInput r.colour) pl.refPan pl.refTilt pl.segs r.stretch
      recordPlan id l.1 l.2 s

/-- A call is withdrawn from planning: its plan is discarded and it returns to PENDING (R50, R128). -/
def withdrawCall (id : Word16) (s : State) : State :=
  let s1 := updateCall id (fun r => { r with plan := none, state := .pending }) s
  endPurpose (.move id) (updateLanding id (fun r => { r with plannedLead := none }) s1)

/-! ### The next call (R50) -/

/-- A record can be the next call: not FOLLOW, its plan point reached, and not RUNNING or HOLD_OPEN (R50). -/
def CallRecord.canBeNext (now : Word32) (r : CallRecord) : Bool :=
  r.mode != .follow && atOrAfter now (r.goTime - BitVec.ofNat 32 Config.planLead) && !r.carriedOut

/-- The next call (R50). -/
def State.nextCall (s : State) : Option CallRecord := s.store.calls.find? (CallRecord.canBeNext s.clock.linkClock)

/-- A record that is CLAIMING or PLANNED and is not the given call (R50). -/
def CallRecord.outOfTurn (id : Word16) (r : CallRecord) : Bool :=
  (r.state == .claiming || r.state == .planned) && r.callId != id

/-- Every call but this one is withdrawn from planning (R50). -/
def withdrawOthers (id : Word16) (s : State) : State :=
  ((s.store.calls.filter (CallRecord.outOfTurn id)).map CallRecord.callId).foldl (fun s i => withdrawCall i s) s

/-- A PENDING record is offered for planning: a COLOUR call, or a move with a segment held (R50). -/
def CallRecord.plannable (r : CallRecord) : Bool := r.state == .pending && (r.mode == .colour || !r.chain.isEmpty)

/-- The next call is worked out afresh; a former next call is withdrawn, and the next call is offered for planning
(R50). -/
def review (s : State) : State :=
  if !s.station.mode.makesTests then s
  else
    match s.nextCall with
    | none => s
    | some r =>
      let s1 := withdrawOthers r.callId s
      if r.plannable then planCall r.callId s1 else s1

end Sys2Proof.Machine
end

