-- ==== Sys2Proof/Machine/Landing.lean ====
section
/-! DEFINITION. The landing unit (07_landing_agreement.md): landing records, offers, adoption at go, stragglers. -/

namespace Sys2Proof.Machine

/-- The lead of a landing after a go time (R126). -/
def leadOf (goTime landing : Word32) : Nat :=
  if (landing - goTime).toNat < 2 ^ 31 then (landing - goTime).toNat else 0

/-- The cap of a requested D (R126). -/
def capOf (requestedD : Nat) : Nat := 5 * requestedD

/-- A new landing record (R125). -/
def newLanding (r : CallRecord) : LandingRecord := ⟨r.callId, r.scope, r.goTime, none, none, 0, .opened, none⟩

/-- The landing unit is told of a new sync record (R47, R125). -/
def createLanding (r : CallRecord) (s : State) : State :=
  if r.sync then { s with landing.records := s.landing.records ++ [newLanding r] } else s

/-- A call's landing record is discarded (R135). -/
def removeLanding (id : Word16) (s : State) : State :=
  { s with landing.records := s.landing.records.filter (fun r => r.callId != id) }

/-- The requested D of a sync call is recorded when its segment is taken, and the offered lead is clamped (R127). -/
def noteRequested (id : Word16) (duration : Nat) (s : State) : State :=
  match s.findLanding id with
  | none => s
  | some r =>
    let d := clampD duration
    let s1 := updateLanding id
      (fun r => { r with requestedD := some d, offeredLead := min r.offeredLead (capOf d) }) s
    { s1 with landing.counters.offerClamped := satIf (decide (capOf d < r.offeredLead)) s1.landing.counters.offerClamped }

/-- The OFFER frame of a call (R129). -/
def offerFrame (r : LandingRecord) (group lead : Nat) : OfferFields :=
  ⟨r.callId, BitVec.ofNat 8 group, r.goTime + BitVec.ofNat 32 lead⟩

/-- The test at the grant that made a sync call PLANNED (R129): a group call whose plan lands later than asked offers. -/
def offerLanding (id : Word16) (s : State) : State :=
  match s.findLanding id with
  | none => s
  | some r =>
    match r.scope, r.requestedD, r.plannedLead with
    | .group g, some d, some lead =>
      if r.phase == .opened && d < lead then
        offer (.offer (offerFrame r g lead))
          { s with landing.counters.offersMade := satInc s.landing.counters.offersMade }
      else s
    | .group _, none, _ => s
    | .group _, some _, none => s
    | .station _, _, _ => s

/-- A taken OFFER raises the offered lead, clamped to the cap once it is known (R130). -/
def raiseLead (r : LandingRecord) (lead : Nat) : LandingRecord :=
  match r.requestedD with
  | none => { r with offeredLead := max r.offeredLead lead }
  | some d => { r with offeredLead := max r.offeredLead (min lead (capOf d)) }

/-- The lead of an OFFER is above the cap of its call (R130). -/
def aboveCap (r : LandingRecord) (lead : Nat) : Bool :=
  match r.requestedD with
  | none => false
  | some d => decide (capOf d < lead)

/-- What an OFFER does (R130, R131). -/
def takeOffer (f : OfferFields) (s : State) : State :=
  match s.findLanding f.callId with
  | none => { s with landing.counters.lateOffers := satInc s.landing.counters.lateOffers }
  | some r =>
    if r.phase != .opened then { s with landing.counters.lateOffers := satInc s.landing.counters.lateOffers }
    else if r.scope != .group f.group.toNat then
      { s with landing.counters.foreignOffers := satInc s.landing.counters.foreignOffers }
    else
      let lead := leadOf r.goTime f.landing
      let s1 := updateLanding f.callId (fun r => raiseLead r lead) s
      { s1 with landing.counters.offerClamped := satIf (aboveCap r lead) s1.landing.counters.offerClamped }

/-- OFFER frames are taken in STARTING, HOMING, READY and ISOLATED (R125). -/
def applyOffer (f : OfferFields) (s : State) : State :=
  if s.station.mode.takesIntake then takeOffer f s else s

/-- The adopted lead (R132). -/
def adoptedOf (r : LandingRecord) : Option Nat :=
  match r.requestedD with
  | none => none
  | some d => some (min (capOf d) (max d (max (r.plannedLead.getD 0) r.offeredLead)))

/-- The cap lowered the own planned lead (R132). -/
def planAboveCap (r : LandingRecord) : Bool :=
  match r.requestedD with
  | none => false
  | some d => decide (capOf d < r.plannedLead.getD 0)

/-- Adoption at a sync call's go, or the straggler (R132, R134). -/
def landingGo (id : Word16) (planned : Bool) (s : State) : State :=
  match s.findLanding id with
  | none => s
  | some r =>
    let s1 := updateLanding id
      (fun r => { r with adoptedLead := adoptedOf r, phase := if planned then .adopted else .straggler }) s
    { s1 with
      landing.counters.offerClamped := satIf (planAboveCap r) s1.landing.counters.offerClamped
      landing.counters.stragglers := satIf (!planned) s1.landing.counters.stragglers }

/-- The adopted lead a PLANNED sync call runs to (R133). -/
def State.adoptedLead (s : State) (id : Word16) : Option Nat :=
  match s.findLanding id with
  | none => none
  | some r => if r.phase == .adopted then r.adoptedLead else none

/-- The duration a sync call's segment takes at go (R133): the adopted lead when it is above the planned lead. -/
def State.landingTiming (s : State) (id : Word16) : Option Timing :=
  match s.findLanding id with
  | none => none
  | some r =>
    match r.phase, r.adoptedLead with
    | .adopted, some a => if r.plannedLead.getD 0 < a then some (capped a (a / 2)) else none
    | .adopted, none => none
    | .opened, _ => none
    | .straggler, _ => none

end Sys2Proof.Machine
end

