-- ==== Sys2Proof/Machine/CoverOps.lean ====
section
/-! DEFINITION. The cover unit's shared operations (08_follow_cover.md): holder lists, the own role, the take and self-yield
tests, follow segments, the start and the end of a role. -/

namespace Sys2Proof.Machine

/-! ### Holder lists (R144 to R148) -/

/-- The holder list of a target. -/
def State.holders (s : State) (t : Nat) : List Holder := s.cover.lists.getD t []

/-- The holder list of a target is replaced. -/
def setHolders (t : Nat) (l : List Holder) (s : State) : State := { s with cover.lists := s.cover.lists.set t l }

/-- The entry is a HOLDER entry. -/
def Holder.isHolder (h : Holder) : Bool :=
  match h.state with
  | .holder => true
  | .relieved _ _ => false

/-- The entry is RELIEVED with this taker. -/
def Holder.relievedBy (st : Byte) (h : Holder) : Bool :=
  match h.state with
  | .holder => false
  | .relieved k _ => k == st

/-- a ranks above b: higher q, or equal q and lower station number (R144). -/
def Holder.above (a b : Holder) : Bool :=
  decide (b.q < a.q) || (a.q == b.q && decide (a.station.toNat < b.station.toNat))

/-- The HOLDER entries of a list. -/
def holderEntries (l : List Holder) : List Holder := l.filter Holder.isHolder

/-- The entry of lowest rank. -/
def lowestRank : List Holder → Option Holder
  | [] => none
  | h :: rest =>
    match lowestRank rest with
    | none => some h
    | some w => if h.above w then some w else some h

/-- The weakest holder (R144). -/
def weakest (l : List Holder) : Option Holder := lowestRank (holderEntries l)

/-- A list without a station; an entry the station relieved returns to HOLDER (R147). -/
def removeHolder (now : Word32) (st : Byte) (l : List Holder) : List Holder :=
  if l.any (fun h => h.station == st) then
    (l.filter (fun h => h.station != st)).map
      (fun h => if h.relievedBy st then { h with state := .holder, lastStated := now } else h)
  else l

/-- The decision of R145 on a TAKE. -/
inductive TakeResult where
  | restated
  | added
  | relieving (w : Byte)
  | refused
  deriving DecidableEq, Repr

/-- How a TAKE from s is decided: the first case that applies (R145). -/
def takeResult (l : List Holder) (st : Byte) (q count margin : Nat) : TakeResult :=
  match l.find? (fun h => h.station == st) with
  | some h => if h.isHolder then .restated else .refused
  | none =>
    if (holderEntries l).length < count then .added
    else if l.any (fun h => !h.isHolder) then .refused
    else
      match weakest l with
      | none => .refused
      | some w => if l.length < Config.holderCapacity && w.q + margin ≤ q then .relieving w.station else .refused

/-- The list after a TAKE (R145). -/
def applyTake (now : Word32) (st : Byte) (q : Nat) (r : TakeResult) (l : List Holder) : List Holder :=
  match r with
  | .restated => l.map (fun h => if h.station == st then { h with q := q, lastStated := now } else h)
  | .added => l ++ [⟨st, q, .holder, now⟩]
  | .relieving w =>
    l.map (fun h =>
      if h.station == w then { h with state := .relieved st (now + BitVec.ofNat 32 Config.reliefTicks) } else h)
      ++ [⟨st, q, .holder, now⟩]
  | .refused => l

/-- A HOLD finds no room for an absent station (R146). -/
def holdFull (l : List Holder) (st : Byte) : Bool :=
  !l.any (fun h => h.station == st) && decide (Config.holderCapacity ≤ l.length)

/-- The list after a HOLD's statement of q (R146). -/
def statedHold (now : Word32) (st : Byte) (q : Nat) (l : List Holder) : List Holder :=
  if l.any (fun h => h.station == st) then
    l.map (fun h =>
      if h.station == st then { h with q := q, lastStated := if h.isHolder then now else h.lastStated } else h)
  else if l.length < Config.holderCapacity then l ++ [⟨st, q, .holder, now⟩]
  else l

/-- The HOLD completes a relief: on target, from a HOLDER that is the taker of a RELIEVED entry (R146). -/
def completesRelief (st : Byte) (onTarget : Bool) (l : List Holder) : Bool :=
  onTarget && l.any (fun h => h.station == st && h.isHolder) && l.any (Holder.relievedBy st)

/-- The list after a HOLD (R146). -/
def applyHold (now : Word32) (st : Byte) (q : Nat) (onTarget : Bool) (l : List Holder) : List Holder :=
  if completesRelief st onTarget (statedHold now st q l) then
    (statedHold now st q l).filter (fun h => !h.relievedBy st)
  else statedHold now st q l

/-! ### The own entry -/

/-- How the own view lists this station in a holder list. -/
inductive OwnEntry where
  | absent | holder | relieved
  deriving DecidableEq, Repr

/-- The own entry in a list. -/
def ownEntryIn (own : Byte) (l : List Holder) : OwnEntry :=
  match l.find? (fun h => h.station == own) with
  | none => .absent
  | some h => if h.isHolder then .holder else .relieved

/-- The own entry of the role's target; absent with no role. -/
def State.ownEntry (s : State) : OwnEntry :=
  match s.cover.role with
  | none => .absent
  | some r => ownEntryIn s.station.ownStation (s.holders r.target)

/-- The target is that of the own role, and the role holds its grant (R149, R151, R152). -/
def State.roleOn (s : State) (t : Nat) : Bool :=
  match s.cover.role with
  | none => false
  | some r => r.target == t && r.phase.granted

/-! ### Own frames -/

/-- A COVER frame of this station (R24). -/
def coverFrame (s : State) (target action count : Nat) (onTarget : Bool) : CoverFields :=
  ⟨BitVec.ofNat 8 target, BitVec.ofNat 8 action, BitVec.ofNat 16 s.cover.ownQ, BitVec.ofNat 8 count,
    BitVec.ofNat 8 onTarget.toNat⟩

/-- A HOLD is offered and the restate timer restarts (R150, R152). -/
def offerHold (r : Role) (s : State) : State :=
  offer (.cover (coverFrame s r.target 1 r.count s.cover.onTarget))
    { s with cover.restate := some Config.restateTicks }

/-- A YIELD is offered for a target (R150 to R153, log 41). -/
def offerYield (target count : Nat) (s : State) : State := offer (.cover (coverFrame s target 2 count false)) s

/-- The role's phase is set. -/
def setPhase (p : RolePhase) (s : State) : State :=
  match s.cover.role with
  | none => s
  | some r => { s with cover.role := some { r with phase := p } }

/-- The role becomes CANDIDATE: DARK, restate timer STOPPED, on-target cleared (R151, R152). -/
def becomeCandidate (s : State) : State :=
  let s1 := setPhase .candidate (dark s)
  { s1 with cover.restate := none, cover.onTarget := false }

/-- The role follows a change of the own entry (R152). The YIELD of a RELIEVED role whose entry is gone carries the role's C
(DESIGN CHOICE, log 41). A RELIEVED role that is HOLDER again stays lit and starts no fade, as R152 and R163 say; that R160
and the list of steps name a LIT under R152 is set aside (DESIGN CHOICE, log 47). -/
def ownReact (before : OwnEntry) (s : State) : State :=
  match s.cover.role with
  | none => s
  | some r =>
    if !r.phase.granted then s
    else
      match before, s.ownEntry with
      | .holder, .relieved =>
        let s1 := setPhase .relieved s
        { s1 with cover.restate := none }
      | .relieved, .holder => offerHold r (setPhase .holder s)
      | .relieved, .absent => offerYield r.target r.count (becomeCandidate s)
      | .holder, .absent => becomeCandidate s
      | .holder, .holder => s
      | .relieved, .relieved => s
      | .absent, .absent => s
      | .absent, .holder => s
      | .absent, .relieved => s

/-! ### The tests (R149, R151) -/

/-- The own entry ranks below the C-th of more than C HOLDER entries (R151). -/
def ranksBelow (own : Byte) (count : Nat) (l : List Holder) : Bool :=
  match l.find? (fun h => h.station == own) with
  | none => false
  | some e =>
    decide (count < (holderEntries l).length) && decide (count ≤ ((holderEntries l).filter (fun h => h.above e)).length)

/-- The self-yield test (R151). -/
def selfYield (s : State) : State :=
  match s.cover.role with
  | none => s
  | some r =>
    if r.phase == .holder
        && (s.cover.ownQ == 0 || ranksBelow s.station.ownStation r.count (s.holders r.target)) then
      let l := removeHolder s.clock.tickCount s.station.ownStation (s.holders r.target)
      let s1 := offerYield r.target r.count (becomeCandidate (setHolders r.target l s))
      { s1 with cover.counters.selfYields := satInc s1.cover.counters.selfYields }
    else s

/-- The take holdoff lets a TAKE pass (R149). -/
def State.holdoffOver (s : State) : Bool :=
  match s.cover.holdoff with
  | none => true
  | some h => decide (Config.restateTicks ≤ elapsed s.clock.tickCount h)

/-- The track state of a target (R138). -/
def State.trackState (s : State) (t : Nat) : TrackState := (s.cover.tracks.getD t .blank).state

/-- A TAKE of this station would be accepted by the own view (R149). -/
def State.takeWouldPass (s : State) (r : Role) : Bool :=
  takeResult (s.holders r.target) s.station.ownStation s.cover.ownQ r.count s.fig.handoffMargin != .refused

/-- The take test (R149). -/
def takeTest (s : State) : State :=
  match s.cover.role with
  | none => s
  | some r =>
    if r.phase == .candidate && s.trackState r.target == .tracked && decide (0 < s.cover.ownQ)
        && s.holdoffOver && s.takeWouldPass r then
      let s1 : State :=
        { s with
          cover.holdoff := some s.clock.tickCount
          cover.counters.takesMade := satInc s.cover.counters.takesMade }
      offer (.cover (coverFrame s r.target 0 r.count false)) s1
    else s

/-- Both tests, after a solve or a change to the own target's list (R142, R149, R151). -/
def coverTests (s : State) : State := takeTest (selfYield s)

/-- A holder list changes by a frame or an event: the own role follows (R152), then the tests are made (R149, R151). -/
def changeHolders (t : Nat) (l : List Holder) (s : State) : State :=
  if s.roleOn t then
    let s1 := ownReact s.ownEntry (setHolders t l s)
    if l == s.holders t then s1 else coverTests s1
  else setHolders t l s

/-- The list of the own role's target; empty with no role. -/
def State.roleList (s : State) : List Holder :=
  match s.cover.role with
  | none => []
  | some r => s.holders r.target

/-- Every holder list without a station (R148). -/
def dropFromLists (st : Byte) (s : State) : State :=
  { s with cover.lists := s.cover.lists.map (removeHolder s.clock.tickCount st) }

/-- The cover unit is told that a station is no longer heard (R148): it leaves every list, the own role follows (R152), and
the tests are made when the own target's list has changed (R149, R151). -/
def stationGone (st : Byte) (s : State) : State :=
  let s1 := dropFromLists st s
  let s2 := ownReact s.ownEntry s1
  if s1.roleList == s.roleList then s2 else coverTests s2

/-! ### COVER frames (R144 to R147, R150) -/

/-- The readback of an own COVER has added the own entry (R150): the TAKE of a candidate makes the role HOLDER and LIT;
any other is removed again at once, and a YIELD is offered with the C of the frame read back, a role held or not
(DESIGN CHOICE, log 41). -/
def ownAdded (f : CoverFields) (s : State) : State :=
  let t := f.target.toNat
  match s.cover.role with
  | none =>
    offerYield t f.count.toNat
      (setHolders t (removeHolder s.clock.tickCount s.station.ownStation (s.holders t)) s)
  | some r =>
    if r.phase == .candidate && r.target == t && f.action == 0 then
      let s1 := startColour r.colour Config.fullScale .role (setPhase .holder s)
      { s1 with cover.restate := some Config.restateTicks }
    else
      offerYield t f.count.toNat
        (setHolders t (removeHolder s.clock.tickCount s.station.ownStation (s.holders t)) s)

/-- What a COVER counts (R145, R146, R149, R155). -/
def countCover (own : Bool) (f : CoverFields) (r : TakeResult) (full relief : Bool) (k : CoverCounters) :
    CoverCounters :=
  { k with
    takesRefused := satIf (f.action == 0 && r == .refused) k.takesRefused
    ownTakesRefused := satIf (own && f.action == 0 && r == .refused) k.ownTakesRefused
    listFull := satIf (f.action == 1 && full) k.listFull
    reliefsCompleted := satIf (f.action == 1 && relief) k.reliefsCompleted }

/-- The list after a COVER, by its action (R144). -/
def applyAction (now : Word32) (st : Byte) (f : CoverFields) (r : TakeResult) (l : List Holder) : List Holder :=
  if f.action == 0 then applyTake now st f.q.toNat r l
  else if f.action == 1 then applyHold now st f.q.toNat f.onTarget l
  else removeHolder now st l

/-- A good COVER is applied to the list of its target (R144, R154). -/
def applyCover (own : Bool) (st : Byte) (f : CoverFields) (s : State) : State :=
  if !s.station.mode.appliesCover then s
  else
    let t := f.target.toNat
    let l := s.holders t
    let r := takeResult l st f.q.toNat f.count.toNat s.fig.handoffMargin
    let l1 := applyAction s.clock.tickCount st f r l
    let s1 : State :=
      { s with
        cover.counters :=
          countCover own f r (holdFull l st)
            (completesRelief st f.onTarget (statedHold s.clock.tickCount st f.q.toNat l)) s.cover.counters }
    if own && ownEntryIn st l == .absent && ownEntryIn st l1 != .absent then
      let s2 := ownAdded f (setHolders t l1 s1)
      if s2.roleOn t then coverTests s2 else s2
    else changeHolders t l1 s1

/-! ### The role (R140 to R143, R153) -/

/-- The follow claim (R141). -/
def State.followClaim (s : State) (r : Role) : Nat :=
  s.fig.baseClaim + s.fig.followAllowance
    + emitterClaim s.fig.emitterWatts (maxLevels s.colour.bound (colourTarget s.fig r.colour Config.fullScale))

/-- The follow claim is asked for, its figure formed now (R141). -/
def askFollow (s : State) : State :=
  match s.cover.role with
  | none => s
  | some r => request (s.followClaim r) .follow .follow s

/-- A follow role begins (R140). -/
def startRole (id : Word16) (target count : Nat) (c : ColourPart) (s : State) : State :=
  let s1 : State :=
    { s with
      cover.role := some ⟨.claiming, target, id, count, c, 0⟩
      cover.ownQ := 0
      cover.onTarget := false
      cover.followEnd := none
      cover.holdoff := none
      cover.restate := none }
  askFollow (dark s1)

/-- The own entry leaves the own target's list and a YIELD is offered, when it was there (R153), with the role's C
(DESIGN CHOICE, log 41). -/
def giveUpEntry (r : Role) (s : State) : State :=
  if ownEntryIn s.station.ownStation (s.holders r.target) == .absent then s
  else
    offerYield r.target r.count
      (setHolders r.target (removeHolder s.clock.tickCount s.station.ownStation (s.holders r.target)) s)

/-- The role and what goes with it are cleared (R153). -/
def clearRole (s : State) : State :=
  { s with
    cover.role := none
    cover.restate := none
    cover.onTarget := false
    cover.holdoff := none
    cover.followEnd := none }

/-- A follow role ends (R153, R98). -/
def endRole (s : State) : State :=
  match s.cover.role with
  | none => s
  | some r => endPurpose .follow (stopMotionOf .follow (clearRole (dark (giveUpEntry r s))))

/-- The grant of the follow claim makes a CLAIMING role CANDIDATE, which keeps the figure granted to it (R116, R122, R141). -/
def grantRole (watts : Nat) (s : State) : State :=
  match s.cover.role with
  | none => s
  | some r =>
    if r.phase == .claiming then
      { s with cover.role := some { r with phase := .candidate, claim := watts } }
    else s

/-- A follow segment to an aim is handed over and starts at once (R142, R143, R82). -/
def handFollow (pan tilt : Int) (s : State) : State :=
  let g := s.fig
  let v := travel s.planner.pan s.planner.tilt pan tilt
  let found := followDuration g v
  let d := found.getD (8 * g.followLag)
  { s with
    planner.motion :=
      some ⟨s.planner.pan, s.planner.tilt, pan, tilt, d, d / 2, 0, segmentClaim g v d (d / 2), .follow⟩
    cover.followEnd := some (pan, tilt)
    cover.counters.followLimited := satIf found.isNone s.cover.counters.followLimited }

/-- A TRACK for the own role's target is solved and followed (R142). -/
def followTrack (r : Role) (f : TrackFields) (s : State) : State :=
  match s.aim.pose with
  | none => s
  | some p =>
    let a := solve s.fig p s.planner.pan s.planner.tilt f.x.toInt f.y.toInt f.z.toInt
    let s1 : State := { s with cover.ownQ := a.q }
    if r.phase.granted then coverTests (handFollow a.pan a.tilt s1) else s1

/-- The track record of a target takes a TRACK (R138). -/
def recordTrack (f : TrackFields) (s : State) : State :=
  { s with
    cover.tracks := s.cover.tracks.set f.target.toNat ⟨.tracked, f.x, f.y, f.z, f.stamp, s.clock.tickCount⟩ }

/-- A good TRACK (R138, R142, R154). -/
def applyTrack (f : TrackFields) (s : State) : State :=
  if !s.station.mode.appliesCover then s
  else
    let s1 := recordTrack f s
    match s1.cover.role with
    | none => s1
    | some r => if r.target == f.target.toNat then followTrack r f s1 else s1

/-- Both axes' encoders lie within the follow-error limit of an end (R150). -/
def nearEnd (limit : Nat) (enc fin : Int × Int) : Bool :=
  decide ((enc.1 - fin.1).natAbs ≤ limit) && decide ((enc.2 - fin.2).natAbs ≤ limit)

/-- The on-target test at an in-frame (R150). -/
def onTargetTest (enc : Int × Int) (s : State) : State :=
  match s.cover.role, s.cover.followEnd with
  | some r, some fin =>
    if r.phase == .holder && !s.cover.onTarget && nearEnd s.fig.followErrorLimit enc fin then
      offerHold r { s with cover.onTarget := true }
    else s
  | some _, none => s
  | none, _ => s

end Sys2Proof.Machine
end

