-- ==== Sys2Proof/Machine/Calls.lean ====
section
/-! DEFINITION. The call store's shared operations (03_calls_segments_and_the_move_queue.md): the end of a call, the start of
a segment and of a call, telling grants, the close of an event, and go. -/

namespace Sys2Proof.Machine

/-! ### The end of a call (R59) -/

/-- The outcome's counter (R59, R64). -/
def countOutcome (o : CallOutcome) (k : StoreCounters) : StoreCounters :=
  match o with
  | .done => { k with done := satInc k.done }
  | .cut => { k with cut := satInc k.cut }
  | .dropped => { k with dropped := satInc k.dropped }
  | .short => { k with short := satInc k.short }

/-- The role of a FOLLOW call ends with the call (R153). -/
def endRoleOf (id : Word16) (s : State) : State :=
  match s.cover.role with
  | none => s
  | some r => if r.callId = id then endRole s else s

/-- The record leaves the table and its segments the pool's use (R59). -/
def dropRecord (r : CallRecord) (o : CallOutcome) (s : State) : State :=
  { s with
    store.calls := s.store.calls.filter (fun c => c.callId != r.callId)
    store.poolFree := s.store.poolFree + r.chain.length
    store.counters := countOutcome o s.store.counters }

/-- A call ends with an outcome, and the blocks concerned are told (R59). The lowering is `lowerAfterEnd`, made by the
event once every ending of it is done. -/
def endCall (id : Word16) (o : CallOutcome) (s : State) : State :=
  match s.findCall id with
  | none => s
  | some r =>
    endPurpose (.move id)
      (removeLanding id (dropRecord r o (stopFadeOf (.call id) (stopMotionOf (.call id) (endRoleOf id s)))))

/-- Calls end with one outcome, in the order given (R60, R62). -/
def endCalls (o : CallOutcome) (ids : List Word16) (s : State) : State := ids.foldl (fun s id => endCall id o s) s

/-! ### The start of a segment (R95, R96, R97) -/

/-- What a starting segment asks for: its end, the class of an end taken now, and its D and R. -/
structure SegmentAsk where
  pan : Int
  tilt : Int
  cls : AimClass
  timing : Timing
  deriving DecidableEq, Repr

/-- A segment of the plan asks for its planned end, D and R; the landing unit may give a sync call's D at go (R96, R133). -/
def plannedAsk (sp : SegPlan) (landing : Option Timing) : SegmentAsk :=
  ⟨sp.endPan, sp.endTilt, .solved, landing.getD ⟨sp.d, sp.r, 0⟩⟩

/-- A segment taken after planning asks for its end solved or limited now, and its D and R clamped (R66, R83, R96). -/
def lateAsk (s : State) (mode : CallMode) (seg : PoolSegment) : SegmentAsk :=
  let e := endOf s.fig s.aim.pose mode s.planner.pan s.planner.tilt seg
  let d := clampD seg.duration
  ⟨e.1.1, e.1.2, e.2, ⟨d, clampR s.fig d seg.ramp, 0⟩⟩

/-- What the segment of an index asks for when it starts (R96). -/
def segmentAsk (s : State) (r : CallRecord) (seg : PoolSegment) : SegmentAsk :=
  match r.plan with
  | none => lateAsk s r.mode seg
  | some p =>
    match p.segs[seg.index]? with
    | some sp => plannedAsk sp (s.landingTiming r.callId)
    | none => lateAsk s r.mode seg

/-- The fit of a starting segment from the commanded position (R96, R97). -/
def fitAsk (s : State) (r : CallRecord) (a : SegmentAsk) : Fit :=
  fitSegment s.fig ((r.plan.map Plan.emitterTerm).getD 0) s.power.granted
    (travel s.planner.pan s.planner.tilt a.pan a.tilt) a.timing.d a.timing.r

/-- The motion a fitted segment starts; a held one ends where it starts (R82, R97). -/
def motionFor (s : State) (id : Word16) (a : SegmentAsk) (f : Fit) : Motion :=
  let held := f.kind == .held
  ⟨s.planner.pan, s.planner.tilt, if held then s.planner.pan else a.pan, if held then s.planner.tilt else a.tilt,
    f.d, f.r, 0, f.claim, .call id⟩

/-- The planner counters after a segment has started (R96, R97, R99). -/
def countFit (a : SegmentAsk) (f : Fit) (k : PlannerCounters) : PlannerCounters :=
  { k with
    refitStretched := satIf (f.kind == .stretched) k.refitStretched
    refitHeld := satIf (f.kind == .held) k.refitHeld
    ceiling := satAdd k.ceiling (a.timing.capped + f.capped) }

/-- The landing counters after a segment has started (R133). -/
def countLanding (s : State) (id : Word16) (f : Fit) (k : LandingCounters) : LandingCounters :=
  { k with
    stretchedToLand := satIf (s.landingTiming id).isSome k.stretchedToLand
    landingLate := satIf (match s.adoptedLead id with
      | none => false
      | some a => decide (a < f.d)) k.landingLate }

/-- The segment starts: fitted, counted, and under way from the commanded position (R82, R96, R97). -/
def runSegment (r : CallRecord) (seg : PoolSegment) (s : State) : State :=
  let a := segmentAsk s r seg
  let f := fitAsk s r a
  { s with
    planner.motion := some (motionFor s r.callId a f)
    planner.counters := countFit a f s.planner.counters
    aim.counters := countAim a.cls s.aim.counters
    landing.counters := countLanding s r.callId f s.landing.counters }

/-- The segment becomes ACTIVE, and the CONSUMED segments before it return to the free list (R56). -/
def activateSegment (r : CallRecord) (seg : PoolSegment) (s : State) : State :=
  let live := liveSegments (consumeActive r.chain)
  let s1 := updateCall r.callId (fun r => { r with chain := activate seg.index live }) s
  { s1 with store.poolFree := s1.store.poolFree + (r.chain.length - live.length) }

/-- The first QUEUED segment of a call becomes ACTIVE and starts (R56, R57, R95). -/
def beginNext (id : Word16) (s : State) : State :=
  match s.findCall id with
  | none => s
  | some r =>
    match firstQueued r.chain with
    | none => s
    | some seg => runSegment r seg (activateSegment r seg s)

/-! ### The start and the completion of a call (R52, R58, R95) -/

/-- The motion of the call is complete: a COLOUR call has none; any other has a closed chain wholly CONSUMED (R56, R58). -/
def CallRecord.motionDone (r : CallRecord) : Bool :=
  r.mode == .colour || (r.closed && !r.chain.isEmpty && r.chain.all (fun g => g.state == .consumed))

/-- A RUNNING call whose motion and fade are complete ends DONE (R58). The lowering is the event's (`lowerFrom`). -/
def endIfComplete (id : Word16) (s : State) : State :=
  match s.findCall id with
  | none => s
  | some r => if r.state == .running && r.motionDone && !s.fadingFor (.call id) then endCall id .done s else s

/-- Where calls have ended on the way from one state to another, the own claim is lowered (R59, R113, R114). -/
def lowerFrom (s t : State) : State := if t.store.calls.length < s.store.calls.length then lowerAfterEnd t else t

/-- The end of a call that is complete, with its lowering, in an event in which no call starts (R58, R59). -/
def finishIfComplete (id : Word16) (s : State) : State := lowerFrom s (endIfComplete id s)

/-- The call's fade starts at its plan's dim scale (R95, R160). -/
def startCallFade (r : CallRecord) (s : State) : State :=
  match r.colour with
  | none => s
  | some c => startColour c ((r.plan.map Plan.scale).getD Config.fullScale) (.call r.callId) s

/-- A call that holds its grant starts: RUNNING, its fade, its first segment; one that has neither motion nor fade to make
ends DONE at once (R52, R58, R95). -/
def startCall (id : Word16) (s : State) : State :=
  match s.findCall id with
  | none => s
  | some r =>
    endIfComplete id
      (beginNext id (startCallFade r (updateCall id (fun r => { r with state := .running, waitStart := none }) s)))

/-! ### Homing (R174, R179, R189) -/

/-- The commanded position is seeded from the last encoder words, or kept, within the soft limits (R174). -/
def seedPosition (s : State) : State :=
  match s.drive.lastEncoders with
  | some e => commandWithin s.fig e.1 e.2 s
  | none => commandWithin s.fig s.planner.pan s.planner.tilt s

/-- The entry to HOMING: the seed, the axes-on flag, the homing timer, the mode (R174, R179, R189). -/
def enterHoming (s : State) : State :=
  let s1 := seedPosition s
  setMode .homing { s1 with drive.axesOn := true, drive.homing := some 0 }

/-- The homing claim (R188). -/
def State.homingClaim (s : State) : Nat := s.fig.still + s.fig.homingAllowance

/-- The homing claim is asked for (R104, R188). -/
def askHoming (s : State) : State := request s.homingClaim .homing .homing s

/-! ### Grants and the close of an event -/

/-- A MOVE grant reaches its call (R116). -/
def grantCall (id : Word16) (s : State) : State :=
  match s.findCall id with
  | none => s
  | some r =>
    match r.state with
    | .claiming => offerLanding id (updateCall id (fun r => { r with state := .planned }) s)
    | .waiting => startCall id s
    | .pending => s
    | .planned => s
    | .running => s
    | .holdOpen => s

/-- A grant reaches the purpose its round held (R116, R141, R188). -/
def tellGrant (p : Purpose) (watts : Nat) (s : State) : State :=
  match p with
  | .homing => if s.station.mode = .starting then enterHoming s else s
  | .follow => grantRole watts s
  | .lowering => s
  | .move id => grantCall id s

/-- A deferred purpose that still stands makes its request again (R103). The restatement of R114 leaves its call PLANNED, so
that a deferred one may find its call RUNNING or HOLD_OPEN; R103 names no such call, and its purpose is dropped with no
request (DESIGN CHOICE, log 50). -/
def askAgain (p : Purpose) (s : State) : State :=
  match p with
  | .homing => if s.station.mode = .starting then askHoming s else s
  | .follow =>
    match s.cover.role with
    | none => s
    | some r => if r.phase = .claiming then askFollow s else s
  | .lowering => s
  | .move id =>
    match s.findCall id with
    | none => s
    | some r => if r.state = .claiming ∨ r.state = .waiting ∨ r.state = .planned then replanCall id s else s

/-- The round has returned to NONE: the deferred purposes ask again, in the order they were deferred (R103). -/
def rearm (s : State) : State :=
  match s.power.round with
  | some _ => s
  | none => s.power.deferred.foldl (fun s p => askAgain p s) { s with power.deferred := [] }

/-- One notice is told. -/
def tell (n : Notice) (s : State) : State :=
  match n with
  | .granted p watts => tellGrant p watts s
  | .rearm => rearm s

/-- Tells the notices of the event in order, giving an abandoned round its fresh figure first, and lowering the own claim
where a call that started ended DONE at once (R58, R59, R103, R115, R116). No event that a run reaches tells as many as `settleFuel`; nothing is left to tell after it (log 12). -/
def settle : Nat → State → State
  | 0, s => { s with notices := [], power.abandoned := false }
  | n + 1, s =>
    if s.power.abandoned then settle n (freshen s)
    else
      match s.notices with
      | [] => s
      | x :: rest => settle n (lowerFrom s (tell x { s with notices := rest }))

/-- The most tellings of one event. -/
def settleFuel : Nat := 256

/-- Tells the notices so far in the middle of an event, as R121 grants in the event of the request; the fresh figure of an
abandoned round waits for the event's end (R115). -/
def tellSoFar : Nat → State → State
  | 0, s => s
  | n + 1, s =>
    match s.notices with
    | [] => s
    | x :: rest => tellSoFar n (tell x { s with notices := rest })

/-- The close of an event: every grant is told and every deferred purpose has asked again; where a call has ended in the
telling, the next call is worked out afresh (R50, R58). -/
def conclude (s : State) : State :=
  let t := settle settleFuel s
  if t.store.calls.length < s.store.calls.length then settle settleFuel (review t) else t

/-- The close of an event that may have changed the next call (R50). -/
def closeEvent (s : State) : State := conclude (review s)

/-! ### Go (R51 to R55) -/

/-- The call has passed its go time by more than 2 ms (R51). -/
def CallRecord.lateAt (now : Word32) (r : CallRecord) : Bool :=
  decide (Config.lateStartSlack < (now - r.goTime).toNat)

/-- The record has not reached go and its go time is at or before the clock (R51). -/
def CallRecord.due (now : Word32) (r : CallRecord) : Bool := !r.reachedGo && atOrAfter now r.goTime

/-- The calls a go preempts: every other that has reached go (R53). -/
def State.preempted (s : State) (id : Word16) : List Word16 :=
  (s.store.calls.filter (fun c => c.reachedGo && c.callId != id)).map CallRecord.callId

/-- The call waits from this tick (R52). -/
def enterWaiting (id : Word16) (s : State) : State :=
  updateCall id (fun r => { r with state := .waiting, waitStart := some s.clock.tickCount }) s

/-- A FOLLOW call runs and its role begins (R52, R140). -/
def startFollow (r : CallRecord) (s : State) : State :=
  let s1 := updateCall r.callId (fun r => { r with state := .running }) s
  match r.colour with
  | none => s1
  | some c => startRole r.callId r.target r.count c s1

/-- The call becomes the next call and is planned at once (R50, R52). -/
def planAtGo (id : Word16) (s : State) : State := planCall id (withdrawOthers id (enterWaiting id s))

/-- What a call does at its go, by its state (R52). -/
def goEffect (r : CallRecord) (s : State) : State :=
  match r.state with
  | .planned => startCall r.callId s
  | .claiming => enterWaiting r.callId s
  | .pending =>
    match r.mode with
    | .follow => startFollow r s
    | .colour => planAtGo r.callId s
    | .angles => if r.chain.isEmpty then enterWaiting r.callId s else planAtGo r.callId s
    | .point => if r.chain.isEmpty then enterWaiting r.callId s else planAtGo r.callId s
  | .waiting => s
  | .running => s
  | .holdOpen => s

/-- A call is marked as having reached go, and a late start is counted (R51). -/
def markGo (r : CallRecord) (s : State) : State :=
  let s1 := updateCall r.callId (fun r => { r with reachedGo := true }) s
  { s1 with store.counters.lateStart := satIf (r.lateAt s.clock.linkClock) s1.store.counters.lateStart }

/-- The calls a go preempts end CUT (R53); the own claim is lowered then where `lowers` says so (R59, R113). -/
def preempt (lowers : Bool) (id : Word16) (s : State) : State :=
  let s1 := endCalls .cut (s.preempted id) s
  if lowers then lowerAfterEnd s1 else s1

/-- A call of the table goes: marked, preempting, then by its state (R51, R52, R53, R132). A local grant of its request is
told at once (R121). -/
def passGo (lowers : Bool) (r : CallRecord) (s : State) : State :=
  tellSoFar settleFuel (goEffect r (landingGo r.callId (r.state == .planned) (preempt lowers r.callId (markGo r s))))

/-- A call reaches go with no lowering made for the calls that end in it: the trial by which `startsAmong` looks ahead. -/
def tryGo (id : Word16) (s : State) : State :=
  match s.findCall id with
  | none => s
  | some r => passGo false r s

/-- The call starts in its go: it is carried out after it, or has ended DONE at once (R52, R58, R121). -/
def State.startsAtGo (s : State) (id : Word16) : Bool :=
  match s.findCall id with
  | none => false
  | some r => !r.carriedOut && ((tryGo id s).findCall id).all CallRecord.carriedOut

/-- One of the calls starts as they reach go one after another (R55, R59). -/
def startsAmong : List Word16 → State → Bool
  | [], _ => false
  | id :: rest, s => s.startsAtGo id || startsAmong rest (tryGo id s)

/-- One call reaches go, the rest of its event's still to come. R59 makes no lowering for a call that ends where another call
starts in the same event. So the calls it preempts lower nothing when it starts or a later one does, and its own end, when
it is DONE at once, lowers nothing when a later one starts (DEDUCED, logs 14 and 54). -/
def goOne (rest : List Word16) (id : Word16) (s : State) : State :=
  match s.findCall id with
  | none => s
  | some r =>
    let t := passGo (!(s.preempted id).isEmpty && !startsAmong (id :: rest) s) r s
    if (t.findCall id).isNone && !startsAmong rest t then lowerAfterEnd t else t

/-- The calls reach go one after another (R55). -/
def goAll : List Word16 → State → State
  | [], s => s
  | id :: rest, s => goAll rest (goOne rest id s)

/-- The calls that are due, in table order (R51). -/
def State.dueCalls (s : State) : List Word16 :=
  (s.store.calls.filter (CallRecord.due s.clock.linkClock)).map CallRecord.callId

/-- Every call that is due reaches go, in table order, each by the state it then has; the next call is worked out once all
have (R50, R51, R55). -/
def goTests (s : State) : State := goAll s.dueCalls s

/-- The go tests and the plan-point test, in the modes that make them (R28, R43, R50, R51). -/
def clockTests (s : State) : State := if s.station.mode.makesTests then closeEvent (goTests s) else s

/-! ### The chain moves on (R56, R57, R58) -/

/-- The call enters HOLD_OPEN (R57). -/
def enterHoldOpen (id : Word16) (s : State) : State :=
  updateCall id (fun r => { r with state := .holdOpen, holdStart := some s.clock.tickCount }) s

/-- The ACTIVE segment of a call has ended: the first case of R56 that applies. -/
def chainOn (id : Word16) (s : State) : State :=
  match s.findCall id with
  | none => haltMotion s
  | some r =>
    if (firstQueued r.chain).isSome then beginNext id s
    else
      let s1 := updateCall id (fun r => { r with chain := consumeActive r.chain }) (haltMotion s)
      if r.closed then finishIfComplete id s1 else enterHoldOpen id s1

/-! ### Waits of the claim round (R110, R111) -/

/-- A re-claim is counted (R111, R124). -/
def countReclaim (s : State) : State :=
  { s with power.counters.reclaims := satInc s.power.counters.reclaims }

/-- The wait of an AWAITING round ends and its figure is offered again (R111). The call of a dropped restatement (R114) may
be RUNNING or HOLD_OPEN by then, and no rule names that state: by R111's letter the ladder runs for it too, its plan replaces
the one it runs by, and the call itself is the running call of R89 (DESIGN CHOICE, log 51). -/
def endWait (s : State) : State :=
  match s.power.round with
  | none => s
  | some r =>
    if !r.awaiting then s
    else
      match r.purpose with
      | .move id => replanCall id (countReclaim s)
      | .follow => askFollow (countReclaim s)
      | .homing => askHoming (countReclaim s)
      | .lowering => requestLowering r.request s

/-- A headroom rise (R110). -/
def headroomRise (s : State) : State :=
  match s.power.round with
  | none => s
  | some r => if r.awaiting && r.purpose != .homing then endWait s else s

end Sys2Proof.Machine
end

