-- ==== Sys2Proof/Machine/Station.lean ====
section
/-! DEFINITION. Station control's shared operations (11_station_control.md): entering READY, ISOLATED and FAULTED, leaving
ISOLATED, the link-lost condition, the configuration read and RESTART. -/

namespace Sys2Proof.Machine

/-! ### Solo mode and ISOLATED (R120, R122, R189) -/

/-- The still claim at a solo dim step (R120). -/
def soloClaim (g : Figures) (levels : List Nat) (m : Nat) : Nat :=
  g.still + emitterClaim g.emitterWatts (scaleLevels (dimScale m) levels)

/-- The least dim step in 1..16 whose claim is within the solo allowance; 16 always is (R120, R100). -/
def soloStep (g : Figures) (levels : List Nat) : Nat :=
  (leastFrom (fun m => decide (soloClaim g levels m ≤ g.soloAllowance)) Config.maxDim 1).getD Config.maxDim

/-- The own claim is fitted to the solo allowance and solo mode is ON (R120, R165). -/
def enterSolo (s : State) : State :=
  if s.stillEstimate ≤ s.fig.soloAllowance then
    { s with power.granted := s.stillEstimate, power.solo := some 0 }
  else
    let m := soloStep s.fig s.colour.levels
    { s with
      power.granted := s.fig.soloAllowance
      power.solo := some m
      power.counters.soloDims := satInc s.power.counters.soloDims
      colour.levels := scaleLevels (dimScale m) s.colour.levels }

/-- The ids of the calls that a predicate picks, in table order. -/
def State.callIds (s : State) (p : CallRecord → Bool) : List Word16 := (s.store.calls.filter p).map CallRecord.callId

/-- Every call that holds a plan is planned again (R120). -/
def planAgain (s : State) : State := (s.callIds (fun r => r.plan.isSome)).foldl (fun s id => planCall id s) s

/-- The mode becomes ISOLATED with fault code 9 (R189). -/
def isolatedMode (s : State) : State := setMode .isolated { s with station.faultCode := 9 }

/-- READY to ISOLATED: the running call ends CUT, solo mode is ON, the planned calls are planned again
(R62, R120, R121, R189). The BEACON of the change stands before the YIELD of a role that ends (DESIGN CHOICE, log 40). -/
def enterIsolated (s : State) : State :=
  let s1 := isolatedMode s
  let s2 := endCalls .cut (s1.callIds CallRecord.carriedOut) s1
  closeEvent (planAgain (enterSolo (endRound s2)))

/-- The plan claims of calls that hold a grant (R122). -/
def State.heldPlanClaims (s : State) : List Nat :=
  (s.store.calls.filter (fun r => r.state == .planned || r.carriedOut)).map (fun r => (r.plan.map Plan.planClaim).getD 0)

/-- The follow claim of a role that holds its grant, or 0 (R122). -/
def State.heldFollowClaim (s : State) : Nat :=
  match s.cover.role with
  | none => 0
  | some r => if r.phase.granted then r.claim else 0

/-- The own granted claim at leaving solo mode (R122). -/
def State.soloLeaveClaim (s : State) : Nat := s.heldPlanClaims.foldl max (max s.drawEstimate s.heldFollowClaim)

/-- An AWAITING round has its wait ended at once (R122). -/
def endWaitNow (s : State) : State :=
  match s.power.round with
  | none => s
  | some r => if r.awaiting then endWait s else s

/-- ISOLATED to READY (R122, R184). -/
def leaveIsolated (s : State) : State :=
  let s1 := setMode .ready { s with power.granted := s.soloLeaveClaim, power.solo := none }
  closeEvent (endWaitNow s1)

/-! ### Entering READY (R113, R184, R188, R189) -/

/-- READY from STARTING or HOMING: the lowering to the idle claim, the mode, the tests, and ISOLATED when the link is
lost (R43, R113, R179, R184, R188, R189). -/
def enterReady (s : State) : State :=
  let s1 : State := { s with drive.homing := none }
  let s2 := setMode .ready (requestLowering s1.idleClaim s1)
  let s3 := closeEvent (goTests s2)
  if s3.link.linkLost then enterIsolated s3 else s3

/-! ### FAULTED (R190) -/

/-- The power share unit at an entry to FAULTED: the round is ended and the lowering made; from ISOLATED solo mode goes
OFF and the claim is the lowering's figure at once (R113, R122, R123). From STARTING after a power-on reset 0 W is held
and the figure is above it, where R113 and R119 say that a lowering asks for no more than is held: the model asks for the
figure all the same, at once and not held back by the view settle timer (DESIGN CHOICE, log 56). -/
def faultPower (s : State) : State :=
  let s1 := endRound s
  requestLowering s1.fig.still
    { s1 with power.solo := none, power.granted := if s1.soloOn then s1.fig.still else s1.power.granted }

/-- The drive port at an entry to FAULTED (R176, R180). -/
def faultDrive (s : State) : State :=
  { s with drive.absentCount := 0, drive.panRun := 0, drive.tiltRun := 0, drive.homing := none }

/-- A reported fault: its code is written, and in a monitored mode the station enters FAULTED, the blocks acting in the
order of R190. That order does not place the BEACON of the change of mode (R38, R184): the model offers it with the change
itself, before the YIELD and the lowering (DESIGN CHOICE, log 40). -/
def enterFault (code : Nat) (s : State) : State :=
  if s.station.mode.monitored then
    let s1 := haltMotion (dark (setMode .faulted { s with station.faultCode := code }))
    conclude (faultDrive (faultPower (endCalls .cut (s1.callIds (fun _ => true)) s1)))
  else { s with station.faultCode := code }

/-! ### Link loss (R20, R21, R22) -/

/-- The link-lost condition is set, if it is CLEAR; READY goes to ISOLATED (R20, R21, R22, R184). -/
def loseLink (s : State) : State :=
  if s.link.linkLost then s
  else
    let s1 : State :=
      { s with
        link.linkLost := true
        link.receiveMark := false
        link.sendMark := false
        link.counters.linkLostCount := satInc s.link.counters.linkLostCount }
    if s1.station.mode = .ready then enterIsolated s1 else s1

/-- With both marks set the condition is CLEAR again, and ISOLATED goes to READY (R22, R184). -/
def checkMarks (s : State) : State :=
  if s.link.linkLost && s.link.receiveMark && s.link.sendMark then
    let s1 : State := { s with link.linkLost := false, link.receiveMark := false, link.sendMark := false }
    if s1.station.mode = .isolated then leaveIsolated s1 else s1
  else s

/-- The receive mark, kept while the condition is SET (R22). -/
def markReceive (s : State) : State :=
  checkMarks { s with link.receiveMark := s.link.linkLost || s.link.receiveMark }

/-- The send mark, kept while the condition is SET (R22). -/
def markSend (s : State) : State :=
  checkMarks { s with link.sendMark := s.link.linkLost || s.link.sendMark }

/-! ### The configuration read (R186, R187, R188, R191) -/

/-- What the two stages of the check find (R186): the fault code of the first that fails. -/
def recordFault (rec : List Byte) : Option Nat :=
  if !checksumOk rec then some 1 else if !recordRangeOk rec then some 2 else none

/-- Homing is not needed when the axes-on flag is SET and the homed record holds both axes homed (R181). -/
def State.needsHoming (s : State) : Bool := !(s.drive.axesOn && s.drive.panHomed && s.drive.tiltHomed)

/-- The record fails: UNCONFIGURED with the fault code, nothing held and the axes out of service
(R172, R186, R187, R191). A record held from before a RESTART is dropped too (DESIGN CHOICE, log 48). -/
def failRead (code : Nat) (s : State) : State :=
  setMode .unconfigured
    { s with
      station.faultCode := code
      station.record := none
      station.figures := none
      station.restarted := false
      station.homingNeeded := true
      aim.pose := none
      drive.axesOn := false
      power.granted := 0
      power.settle := none }

/-- The blocks take their figures from a record that passes (R65, R80, R100, R137, R156, R172, R186, R191). After a RESTART
the own granted claim becomes base claim and both hold watts, and the commanded position comes within the new limits
(R81, R101, R123). The view settle timer starts (R119). -/
def takeRecord (rec : List Byte) (s : State) : State :=
  let g := parseFigures rec
  let s1 : State :=
    { s with
      station.record := some rec
      station.figures := some g
      station.homingNeeded := s.needsHoming
      aim.pose := some g.pose
      power.settle := some Config.settleTicks }
  if s.station.restarted then
    commandWithin g s1.planner.pan s1.planner.tilt
      { s1 with power.granted := g.still, station.restarted := false }
  else s1

/-- The record passes: STARTING, where the homing claim is asked for when homing is needed (R186, R188). -/
def passRead (rec : List Byte) (s : State) : State :=
  let s1 := setMode .starting (takeRecord rec s)
  conclude (if s1.station.homingNeeded then askHoming s1 else s1)

/-- The end of the configuration read (R186, R187). -/
def endRead (rec : List Byte) (s : State) : State :=
  let s1 : State := { s with station.ownStation := ownNumberOf rec }
  match recordFault rec with
  | some code => failRead code s1
  | none => passRead rec s1

/-! ### RESTART (R191) -/

/-- The link controller after a RESTART (R3, R14, R20). -/
def restartLink (k : LinkState) : LinkState :=
  { k with
    rxBuffer := []
    rxBits := []
    txFrame := none
    queue := []
    failures := 0
    linkLost := false
    receiveMark := false
    sendMark := false }

/-- The power share unit after a RESTART: figures and the own granted claim are kept through CONFIG (R103, R123, R191). -/
def restartPower (p : PowerState) : PowerState :=
  { p with round := none, deferred := [], abandoned := false, reclaim := none, settle := none, solo := none }

/-- The cover unit after a RESTART (R138, R144, R154). -/
def restartCover (c : CoverState) : CoverState :=
  { c with
    tracks := List.replicate Config.targets .blank
    lists := List.replicate Config.targets []
    role := none
    ownQ := 0
    onTarget := false
    followEnd := none
    holdoff := none
    restate := none }

/-- A RESTART: CONFIG, every block at its RESTART values (R191). -/
def performRestart (s : State) : State :=
  let s1 := setMode .config (dark (haltMotion s))
  { s1 with
    link := restartLink s1.link
    clock.peers := []
    store.calls := []
    store.poolFree := Config.poolSize
    store.intake := .opened
    landing.records := []
    aim.pose := none
    power := restartPower s1.power
    cover := restartCover s1.cover
    drive.absentCount := 0
    drive.panRun := 0
    drive.tiltRun := 0
    drive.homing := none
    station.faultCode := 0
    station.snapshot := none
    station.restarted := true
    notices := [] }

end Sys2Proof.Machine
end

