-- ==== Sys2Proof/Machine/Peers.lean ====
section
/-! DEFINITION. The clock and peer unit's shared operations (02_link_clock_and_peer_table.md): the clock step, the peer-entry
stage of dispatch, eviction, removal, and the BEACON this part composes. -/

namespace Sys2Proof.Machine

/-! ### The peer table (R30 to R36) -/

/-- The entry of a station (R30). -/
def State.findPeer (s : State) (st : Byte) : Option Peer := s.clock.peers.find? (fun p => p.station == st)

/-- The entry of a station is changed; the others stand. -/
def updatePeer (st : Byte) (f : Peer → Peer) (s : State) : State :=
  { s with clock.peers := s.clock.peers.map (fun p => if p.station == st then f p else p) }

/-- The table with an entry placed in station order (R30, R32). -/
def insertPeer (p : Peer) : List Peer → List Peer
  | [] => [p]
  | q :: rest => if p.station.toNat < q.station.toNat then p :: q :: rest else q :: insertPeer p rest

/-- The table without a station. -/
def dropPeer (st : Byte) (l : List Peer) : List Peer := l.filter (fun p => p.station != st)

/-- The silence of an entry (R29). -/
def Peer.silence (now : Word32) (p : Peer) : Nat := elapsed now p.lastHeard

/-- The entry of longest silence; in a table in station order, the lowest station of those that share it (R36). -/
def oldestPeer (now : Word32) : List Peer → Option Peer
  | [] => none
  | p :: rest =>
    match oldestPeer now rest with
    | none => some p
    | some q => if q.silence now ≤ p.silence now then some p else some q

/-- The entry to evict: the oldest heard of those not on the own circuit (R36). -/
def State.evictee (s : State) : Option Peer :=
  oldestPeer s.clock.tickCount (s.clock.peers.filter (fun p => !s.isOwnCircuit p.circuit))

/-- An entry is evicted and another takes its room; the cover unit is told when the evicted entry was LIVE (R36). -/
def evictFor (p old : Peer) (s : State) : State :=
  let s1 : State :=
    { s with
      clock.peers := insertPeer p (dropPeer old.station s.clock.peers)
      clock.counters.peersEvicted := satInc s.clock.counters.peersEvicted }
  if old.state = .live then stationGone old.station s1 else s1

/-- A new station is not entered (R36). -/
def peerTableFull (s : State) : State :=
  { s with clock.counters.peerTableFull := satInc s.clock.counters.peerTableFull }

/-- An entry is created, through the eviction when the table is full (R32, R36). -/
def createPeer (p : Peer) (s : State) : State :=
  if s.clock.peers.length < Config.peerCapacity then { s with clock.peers := insertPeer p s.clock.peers }
  else if s.isOwnCircuit p.circuit then
    match s.evictee with
    | some old => evictFor p old s
    | none => peerTableFull s
  else peerTableFull s

/-- The entry a BEACON creates (R32). -/
def peerOfBeacon (st : Byte) (f : BeaconFields) (now : Word32) : Peer :=
  ⟨st, stationKindOf f.stationKind, f.circuit.toNat, f.groupMask, 0, .live, now⟩

/-- The entry a CLAIM creates (R32). -/
def peerOfClaim (st : Byte) (f : ClaimFields) (now : Word32) : Peer := ⟨st, .other, f.circuit.toNat, 0, 0, .live, now⟩

/-- A refreshed entry (R31). -/
def Peer.heard (now : Word32) (p : Peer) : Peer := { p with state := .live, lastHeard := now }

/-- A circuit written into an entry; a change zeroes its granted claim (R33). -/
def Peer.onCircuit (c : Nat) (p : Peer) : Peer :=
  { p with circuit := c, granted := if c = p.circuit then p.granted else 0 }

/-- A BEACON's fields written into an entry (R33). -/
def Peer.withBeacon (f : BeaconFields) (p : Peer) : Peer :=
  { p.onCircuit f.circuit.toNat with kind := stationKindOf f.stationKind, groupMask := f.groupMask }

/-- The entry leaves the own circuit while it held a claim (R110). -/
def State.leavesCircuit (s : State) (c : Nat) (p : Peer) : Bool :=
  s.isOwnCircuit p.circuit && p.circuit != c && decide (0 < p.granted)

/-- The peer-entry stage for a kind that creates no entry (R31). -/
def refreshPeer (st : Byte) (s : State) : State := updatePeer st (Peer.heard s.clock.tickCount) s

/-- The peer-entry stage for a BEACON, and the writes of R33 (R31, R32, R33, log 17). -/
def beaconPeer (st : Byte) (f : BeaconFields) (s : State) : State :=
  match s.findPeer st with
  | none => createPeer (peerOfBeacon st f s.clock.tickCount) s
  | some p =>
    let s1 := updatePeer st (fun p => (p.heard s.clock.tickCount).withBeacon f) s
    if s.leavesCircuit f.circuit.toNat p then headroomRise s1 else s1

/-- The peer-entry stage for a CLAIM, and the write of R33 (R31, R32, R33). -/
def claimPeer (st : Byte) (f : ClaimFields) (s : State) : State :=
  match s.findPeer st with
  | none => createPeer (peerOfClaim st f s.clock.tickCount) s
  | some p =>
    let s1 := updatePeer st (fun p => (p.heard s.clock.tickCount).onCircuit f.circuit.toNat) s
    if s.leavesCircuit f.circuit.toNat p then headroomRise s1 else s1

/-- The peer-entry stage of dispatch (R12, R31, R32, R33). -/
def peerStage (fr : Frame) (s : State) : State :=
  match fr.body with
  | .beacon f => beaconPeer fr.station f s
  | .claim f => claimPeer fr.station f s
  | .stop _ => refreshPeer fr.station s
  | .track _ => refreshPeer fr.station s
  | .cover _ => refreshPeer fr.station s
  | .offer _ => refreshPeer fr.station s
  | .call _ => refreshPeer fr.station s
  | .segment _ => refreshPeer fr.station s
  | .probe _ => refreshPeer fr.station s
  | .report _ => refreshPeer fr.station s

/-! ### The clock step (R27, R28) -/

/-- The link clock steps forward to a BEACON's stamp plus one when that is after it (R27). -/
def stepClock (f : BeaconFields) (s : State) : State :=
  { s with
    clock.linkClock := f.linkClock + 1
    clock.counters.clockSteps := satInc s.clock.counters.clockSteps }

/-- The step test of a BEACON, and the tests of the call store at the step (R27, R28). -/
def clockStep (f : BeaconFields) (s : State) : State :=
  if isAfter (f.linkClock + 1) s.clock.linkClock then clockTests (stepClock f s) else s

/-! ### The stated claim (R108) -/

/-- A BEACON's granted claim is written untested into the sender's entry (R108, R110). `existed` says that the entry stood
before this BEACON. -/
def statedClaim (st : Byte) (f : BeaconFields) (existed : Bool) (s : State) : State :=
  match s.findPeer st with
  | none => s
  | some p =>
    let w := f.granted.toNat
    let s1 := setPeerGranted st w s
    let s2 : State :=
      { s1 with power.counters.statedOverride := satIf (existed && p.granted != w) s1.power.counters.statedOverride }
    if s.isOwnCircuit p.circuit && decide (w < p.granted) then headroomRise s2 else s2

/-! ### The own BEACON (R26, R39) -/

/-- The payload of a BEACON composed now (R26, R39). -/
def State.composeBeacon (s : State) : BeaconFields where
  stationKind := 0
  mode := BitVec.ofNat 8 s.station.mode.code
  circuit := match s.station.figures with
    | none => 0
    | some g => BitVec.ofNat 8 g.circuit
  groupMask := match s.station.figures with
    | none => 0
    | some g => g.groupMask
  granted := BitVec.ofNat 16 s.power.granted
  linkClock := s.clock.linkClock - 1
  poolFree := BitVec.ofNat 8 s.poolCredit
  callFree := BitVec.ofNat 8 s.callCredit
  faultCode := BitVec.ofNat 8 s.station.faultCode
  heldTarget := BitVec.ofNat 8 s.heldTarget

/-- The frame of a queue entry, a BEACON composed now (R17, R19). -/
def State.frameOf (s : State) (b : TxBody) : Frame :=
  ⟨s.station.ownStation,
    match b with
    | .claim f => .claim f
    | .cover f => .cover f
    | .offer f => .offer f
    | .beacon => .beacon s.composeBeacon
    | .report f => .report f⟩

end Sys2Proof.Machine
end

