-- ==== Sys2Proof/WellFormed.lean ====
section
/-! DEFINITION. Which commands are well formed: a frame carries a station number and fields with accepted values
(R5, R6), a REPORT carries 47 bytes of contents, a configuration read has 256 bytes (R186), an arbitration loss falls
in a data bit of bytes 0 and 1 (R8), and targets and stations lie in their ranges. -/

namespace Sys2Proof

/-- A bit time of a data bit of byte 0 or byte 1, where arbitration is decided (R8). -/
def arbitrationBit (p : Nat) : Bool := (1 ≤ p && p ≤ 8) || (11 ≤ p && p ≤ 18)

/-- A frame that can arrive as a good frame (R5, R6). -/
def Frame.wf (fr : Frame) : Bool :=
  stationOk fr.station && fr.body.fieldsOk && fr.body.bytes.length == payloadLength fr.body.kind

/-- The command is well formed. -/
def Instr.wf : Instr → Bool
  | .configurationReadEnd bytes => bytes.length == 256
  | .arbitrationLost p => arbitrationBit p
  | .clash p => p < 530
  | .frameDiscard bytes _ => bytes.length ≤ 53
  | .stop st f => Frame.wf ⟨st, .stop f⟩
  | .claim st f => Frame.wf ⟨st, .claim f⟩
  | .track st f => Frame.wf ⟨st, .track f⟩
  | .cover st f => Frame.wf ⟨st, .cover f⟩
  | .offer st f => Frame.wf ⟨st, .offer f⟩
  | .call st f => Frame.wf ⟨st, .call f⟩
  | .segment st f => Frame.wf ⟨st, .segment f⟩
  | .beacon st f => Frame.wf ⟨st, .beacon f⟩
  | .probe st f => Frame.wf ⟨st, .probe f⟩
  | .report st f => Frame.wf ⟨st, .report f⟩
  | .peerSilent st => stationOk st
  | .peerRemoved st => stationOk st
  | .trackTimeout t => t.toNat ≤ 15
  | .reliefDeadline t => t.toNat ≤ 15
  | .holderLapse t st => t.toNat ≤ 15 && stationOk st
  | .powerOnReset => true
  | .tick => true
  | .lineIdle => true
  | .startOpportunity => true
  | .transmissionSuccess => true
  | .stuckLine => true
  | .beaconTimer => true
  | .planPoint => true
  | .go => true
  | .waitingLimit => true
  | .holdOpenLimit => true
  | .segmentEnd => true
  | .fadeComplete => true
  | .reclaimTimer => true
  | .viewSettleEnd => true
  | .restateTimer => true
  | .takeHoldoffEnd => true
  | .inFrame _ _ _ _ => true
  | .homingTimeout => true
  | .resetAsserted => true
  | .frameStartBit => true

end Sys2Proof
end

