-- ==== Sys2Proof/Machine/Link.lean ====
section
/-! DEFINITION. The link controller's shared operations (01_the_truss_link.md): the end of a frame on the line, the receive
path, the outcomes of an attempt, and the dispatch of the own frame. -/

namespace Sys2Proof.Machine

/-! ### Receiving (R3 to R7, R12, R13) -/

/-- The counter of a discard (R5, R23). -/
def countDiscard (r : DiscardReason) (k : LinkCounters) : LinkCounters :=
  match r with
  | .symbolError => { k with symbolError := satInc k.symbolError }
  | .unknownKind => { k with unknownKind := satInc k.unknownKind }
  | .badStation => { k with badStation := satInc k.badStation }
  | .badLength => { k with badLength := satInc k.badLength }
  | .badCrc => { k with badCrc := satInc k.badCrc }
  | .badField => { k with badField := satInc k.badField }
  | .ownNumber => { k with ownNumberHeard := satInc k.ownNumberHeard }

/-- The recessive run after these levels: it starts anew at a dominant bit only, so that without one the run that stood
before them goes on (R2). -/
def recessiveAfter (run : Nat) (levels : List Bool) : Nat :=
  if levels.all id then run + levels.length else trailingRun true levels

/-- The recessive run that stood before the frame whose bits are on the line, so long as none of them was dominant (R2). -/
def LinkState.runBefore (k : LinkState) : Nat := k.recessiveRun - k.rxBits.length

/-- The line goes to WAIT_IDLE after the levels given, the buffer emptied (R3). -/
def toWaitIdle (levels : List Bool) (k : LinkState) : LinkState :=
  { k with
    lineState := .waitIdle
    rxBuffer := []
    rxBits := []
    txFrame := none
    recessiveRun := recessiveAfter k.runBefore levels
    dominantRun := trailingRun false levels }

/-- What was sampled so far begins a frame of these bytes, with the symbol error after them if there was one: its bytes
begin them, and its bits the symbol that follows (R4, R8, R9). -/
def LinkState.begins (k : LinkState) (bytes : List Byte) (fault : Option SymbolFault) : Bool :=
  k.rxBuffer.isPrefixOf bytes
    && k.rxBits.isPrefixOf (lineLevels (bytes.drop k.rxBuffer.length) ++ faultLevels fault)

/-- A frame of these bytes can be the one being received (R4, log 6). -/
def State.receives (s : State) (bytes : List Byte) (fault : Option SymbolFault) : Bool :=
  s.link.lineState == .receiving && s.link.begins bytes fault

/-- What the checks of R5 to R7 find in a frame that came whole with a right check value. -/
def verdictOf (own : Byte) (fr : Frame) : Option DiscardReason :=
  if !stationOk fr.station then some .badStation
  else if fr.body.bytes.length != payloadLength fr.body.kind then some .badLength
  else if !fr.body.fieldsOk then some .badField
  else if fr.station == own then some .ownNumber
  else none

/-- A frame is discarded and counted (R5). -/
def discardFrame (r : DiscardReason) (levels : List Bool) (s : State) : State :=
  let k := toWaitIdle levels s.link
  { s with link := { k with counters := countDiscard r k.counters } }

/-- A good frame from another station is counted at its arrival (R5, R13). -/
def countReceived (levels : List Bool) (s : State) : State :=
  let k := toWaitIdle levels s.link
  { s with link := { k with counters.framesReceived := satInc k.counters.framesReceived } }

/-- The arrival of a frame from another station: the checks, the receive mark, the peer-entry stage, then the blocks of its
kind (R5, R12, R13, R22, log 7). -/
def receiveFrame (fr : Frame) (act : State → State) (s : State) : State :=
  if s.receives fr.bytes none then
    match verdictOf s.station.ownStation fr with
    | some r => discardFrame r (lineLevels fr.bytes) s
    | none => conclude (act (peerStage fr (markReceive (countReceived (lineLevels fr.bytes) s))))
  else s

/-! ### Blocks that own frame kinds and stand above the call store -/

/-- The power share unit on a CLAIM from another station (R105, R110). -/
def applyClaim (st : Byte) (f : ClaimFields) (s : State) : State :=
  let t := testPeerClaim st f s
  if t.2 then headroomRise t.1 else t.1

/-- The clock and peer unit and the power share unit on a BEACON from another station; `existed` says that the sender had
an entry before it (R27, R108). -/
def applyBeacon (st : Byte) (f : BeaconFields) (existed : Bool) (s : State) : State :=
  statedClaim st f existed (clockStep f s)

/-! ### The own attempt (R8, R9, R10, R18, R20) -/

/-- A drop after the fourth clash is counted, and raises the consecutive-failure count up to 8 (R18, R20). -/
def countDrop (s : State) : State :=
  { s with
    link.counters.transmitDropped := satInc s.link.counters.transmitDropped
    link.failures := min Config.failureLimit (s.link.failures + 1) }

/-- What follows a drop after the fourth clash: the offering block is told, and the link is lost when the count reaches 8
(R16, R18, R20, log 27). -/
def afterDrop (b : TxBody) (s : State) : State :=
  let s1 := toldDrop b (countDrop s)
  if s.link.failures < Config.failureLimit ∧ s1.link.failures = Config.failureLimit then loseLink s1 else s1

/-- The levels sampled when the bit at p differs from the one driven. -/
def sampledLevels (own : List Bool) (p : Nat) : List Bool := own.take p ++ [!own.getD p true]

/-- The own attempt ends at a bit time by the part's own reading of the line: RECEIVING with the bytes sampled whole and the
bits of the symbol under way, the differing one last, as the start of the frame received (R8, R9). A start bit sampled
recessive is the next bit of the recessive run (R2). -/
def fallToReceiving (fr : Frame) (p : Nat) (k : LinkState) : LinkState :=
  let levels := sampledLevels (lineLevels fr.bytes) p
  { k with
    lineState := .receiving
    rxBuffer := fr.bytes.take (p / 10)
    rxBits := levels.drop (10 * (p / 10))
    txFrame := none
    recessiveRun := recessiveAfter k.recessiveRun levels
    dominantRun := trailingRun false levels }

/-- The stop bit of byte 1 is read back correctly: ARBITRATING becomes SENDING (R3, log 5). -/
def passByteOne (k : LinkState) : LinkState :=
  if k.lineState = .arbitrating then { k with lineState := .sending } else k

/-- The own frame reaches the blocks of its kind, skipping the peer-entry stage (R10, R12). -/
def dispatchOwn (fr : Frame) (s : State) : State :=
  match fr.body with
  | .claim f => ownClaimReadback f s
  | .cover f => applyCover true fr.station f s
  | .offer f => applyOffer f s
  | .beacon f => clockStep f s
  | .report _ => s
  | .stop _ => s
  | .track _ => s
  | .call _ => s
  | .segment _ => s
  | .probe _ => s

/-- The link controller at a transmission success, the attempt having passed through SENDING (R3, R10, R18, R20). -/
def sentLink (levels : List Bool) (k : LinkState) : LinkState :=
  let k1 := toWaitIdle levels (passByteOne k)
  { k1 with
    failures := 0
    queue := queueSuccess k1.queue
    counters := { k1.counters with framesSent := satInc k1.counters.framesSent } }

/-- The own frame's readback is checked as any frame's, but for the own number (R10). -/
def readbackOwn (fr : Frame) (s : State) : State :=
  if fr.body.fieldsOk then dispatchOwn fr s
  else { s with link.counters.badField := satInc s.link.counters.badField }

end Sys2Proof.Machine
end

