-- ==== Sys2Proof/Machine/CallEvents.lean ====
section
/-! DEFINITION. The call store's own events: PLAN_POINT, GO, WAITING_LIMIT, HOLD_OPEN_LIMIT, SEGMENT_END, FADE_COMPLETE. -/

namespace Sys2Proof.Machine

/-- PLAN_POINT (R50): the next call is worked out, in the modes that make the test. -/
def execPlanPoint (s : State) : Host.Outcome State Fault Refusal :=
  .next (if s.station.mode.makesTests then closeEvent s else s)

/-- GO (R51, R52, R55), in the modes that make the test. -/
def execGo (s : State) : Host.Outcome State Fault Refusal := .next (clockTests s)

/-- A WAITING call has waited its limit (R54). -/
def CallRecord.waitOver (now : Word32) (r : CallRecord) : Bool :=
  r.state == .waiting &&
    match r.waitStart with
    | none => false
    | some w => decide (Config.waitingLimit ≤ elapsed now w)

/-- A HOLD_OPEN call has held its limit (R57). -/
def CallRecord.holdOver (now : Word32) (r : CallRecord) : Bool :=
  r.state == .holdOpen &&
    match r.holdStart with
    | none => false
    | some w => decide (Config.holdOpenLimit ≤ elapsed now w)

/-- A call ends of itself: its outcome, the lowering, the next call (R59, R113, R50). -/
def expireCall (o : CallOutcome) (r : CallRecord) (s : State) : State :=
  closeEvent (lowerAfterEnd (endCall r.callId o s))

/-- WAITING_LIMIT (R54). -/
def execWaitingLimit (s : State) : Host.Outcome State Fault Refusal :=
  .next
    (match s.store.calls.find? (CallRecord.waitOver s.clock.tickCount) with
    | none => s
    | some r => expireCall .dropped r s)

/-- HOLD_OPEN_LIMIT (R57). -/
def execHoldOpenLimit (s : State) : Host.Outcome State Fault Refusal :=
  .next
    (match s.store.calls.find? (CallRecord.holdOver s.clock.tickCount) with
    | none => s
    | some r => expireCall .short r s)

/-- The segment under way has reached its D (R56, R82). -/
def segmentOver (m : Motion) (s : State) : State :=
  match m.owner with
  | .follow => haltMotion s
  | .call id => closeEvent (chainOn id s)

/-- SEGMENT_END (R56). -/
def execSegmentEnd (s : State) : Host.Outcome State Fault Refusal :=
  .next
    (match s.planner.motion with
    | none => s
    | some m => if m.d ≤ m.t then segmentOver m s else s)

/-- The fade takes its last step: every level equals its target, the fade is IDLE, and the call store is told when the owner
is a call (R58, R161). -/
def fadeOver (f : Fade) (s : State) : State :=
  let s1 : State := { s with colour.levels := f.target, colour.fade := none }
  match f.owner with
  | .role => s1
  | .call id => closeEvent (finishIfComplete id s1)

/-- FADE_COMPLETE (R161). -/
def execFadeComplete (s : State) : Host.Outcome State Fault Refusal :=
  .next
    (match s.colour.fade with
    | none => s
    | some f => if f.due then fadeOver f s else s)

end Sys2Proof.Machine
end

