-- ==== Sys2Proof/Machine/CoverEvents.lean ====
section
/-! DEFINITION. The cover unit's own events: TRACK_TIMEOUT, RELIEF_DEADLINE, HOLDER_LAPSE, RESTATE_TIMER,
TAKE_HOLDOFF_END. -/

namespace Sys2Proof.Machine

/-- The track record of a target (R138). -/
def State.trackOf (s : State) (t : Nat) : TrackRecord := s.cover.tracks.getD t .blank

/-- A TRACKED record whose arrival lies a track timeout or more in the past (R139). -/
def State.trackDue (s : State) (t : Nat) : Bool :=
  (s.trackOf t).state == .tracked && decide (s.fig.trackTimeout ≤ elapsed s.clock.tickCount (s.trackOf t).arrival)

/-- The record becomes COASTING (R139). -/
def loseTrack (t : Nat) (s : State) : State :=
  { s with
    cover.tracks := s.cover.tracks.set t { s.trackOf t with state := .coasting }
    cover.counters.tracksLost := satInc s.cover.counters.tracksLost }

/-- TRACK_TIMEOUT (R139) for one target. -/
def execTrackTimeout (t : Byte) (s : State) : Host.Outcome State Fault Refusal :=
  .next (if s.trackDue t.toNat then loseTrack t.toNat s else s)

/-- The taker of a RELIEVED entry whose deadline is reached (R148). -/
def Holder.expiredTaker (now : Word32) (h : Holder) : Option Byte :=
  match h.state with
  | .holder => none
  | .relieved k d => if atOrAfter now d then some k else none

/-- The relief ends: the taker is removed and the relieved entry returns to HOLDER (R148). -/
def expireRelief (t : Nat) (taker : Byte) (s : State) : State :=
  changeHolders t (removeHolder s.clock.tickCount taker (s.holders t))
    { s with cover.counters.reliefsExpired := satInc s.cover.counters.reliefsExpired }

/-- RELIEF_DEADLINE (R148) for one target. -/
def execReliefDeadline (t : Byte) (s : State) : Host.Outcome State Fault Refusal :=
  .next
    (match (s.holders t.toNat).findSome? (Holder.expiredTaker s.clock.tickCount) with
    | none => s
    | some k => expireRelief t.toNat k s)

/-- A HOLDER entry last stated 1000 ticks in the past (R148). -/
def Holder.lapsed (now : Word32) (h : Holder) : Bool := h.isHolder && decide (Config.reliefTicks ≤ elapsed now h.lastStated)

/-- The entry is removed, returning any entry it relieved (R148). -/
def lapseHolder (t : Nat) (st : Byte) (s : State) : State :=
  changeHolders t (removeHolder s.clock.tickCount st (s.holders t))
    { s with cover.counters.holdersLapsed := satInc s.cover.counters.holdersLapsed }

/-- HOLDER_LAPSE (R148) for one holder of one target. -/
def execHolderLapse (t : Byte) (st : Byte) (s : State) : Host.Outcome State Fault Refusal :=
  .next
    (match (s.holders t.toNat).find? (fun h => h.station == st) with
    | none => s
    | some h => if h.lapsed s.clock.tickCount then lapseHolder t.toNat st s else s)

/-- The restatement (R150). -/
def restate (s : State) : State :=
  match s.cover.role with
  | none => { s with cover.restate := none }
  | some r => if r.phase = .holder then offerHold r s else { s with cover.restate := none }

/-- RESTATE_TIMER (R150). -/
def execRestateTimer (s : State) : Host.Outcome State Fault Refusal :=
  .next (if s.cover.restate = some 0 then restate s else s)

/-- TAKE_HOLDOFF_END (R149): 200 ticks have passed since the take holdoff was set (log 25). -/
def execTakeHoldoffEnd (s : State) : Host.Outcome State Fault Refusal :=
  .next (if s.cover.holdoff.isSome && s.holdoffOver then takeTest s else s)

end Sys2Proof.Machine
end

