-- ==== Sys2Proof/Machine/DriveEvents.lean ====
section
/-! DEFINITION. The drive port's events: IN_FRAME, HOMING_TIMEOUT. -/

namespace Sys2Proof.Machine

/-! ### An absent in-frame (R175) -/

/-- An absent in-frame: counted, and in a monitored mode the tenth in a row is a driver link loss (R175, R176). -/
def absentFrame (s : State) : State :=
  let s1 : State := { s with drive.counters.absentFrames := satInc s.drive.counters.absentFrames }
  if s.station.mode.monitored then
    if Config.absentLimit ≤ s.drive.absentCount + 1 then
      enterFault 6
        { s1 with
          drive.absentCount := Config.absentLimit
          drive.counters.linkLosses := satInc s1.drive.counters.linkLosses }
    else { s1 with drive.absentCount := s.drive.absentCount + 1 }
  else { s1 with drive.absentCount := 0 }

/-! ### A present in-frame (R175 to R181) -/

/-- A homed bit falls in READY or ISOLATED (R181). -/
def homedFell (m : StationMode) (was now : Bool) : Bool := m.makesTests && was && !now

/-- The words of a present in-frame are recorded (R175, R181). -/
def recordFrame (status : Slot) (enc : Int × Int) (s : State) : State :=
  { s with
    drive.absentCount := 0
    drive.lastStatus := some (status &&& statusMask)
    drive.lastEncoders := some enc
    drive.panHomed := statusPanHomed status
    drive.tiltHomed := statusTiltHomed status
    drive.counters.homingLost :=
      satIf (homedFell s.station.mode s.drive.tiltHomed (statusTiltHomed status))
        (satIf (homedFell s.station.mode s.drive.panHomed (statusPanHomed status)) s.drive.counters.homingLost) }

/-- The temperature word reaches the colour engine, which may report a thermal shutdown (R166, R167, R175). A shutdown
enters FAULTED before the frame's other words are acted on; no rule orders them (log 18). -/
def handTemperature (tau : Int) (s : State) : State :=
  if reportsShutdown tau s then enterFault 7 (takeTemperature tau s) else takeTemperature tau s

/-- While HOMING the commanded position follows the encoders (R81, R175). -/
def followEncoders (enc : Int × Int) (s : State) : State :=
  if s.station.mode = .homing then commandWithin s.fig enc.1 enc.2 s else s

/-- Homing is complete when the record holds both axes homed (R179). -/
def homingCheck (s : State) : State :=
  if s.station.mode = .homing ∧ s.drive.panHomed = true ∧ s.drive.tiltHomed = true then enterReady s else s

/-- The follow-error run of an axis after a present in-frame (R178). -/
def runNext (running : Bool) (limit : Nat) (command enc : Int) (run : Nat) : Nat :=
  if running && decide (limit < (command - enc).natAbs) then min Config.runLimit (run + 1) else 0

/-- The monitor of R178 runs: the mode at the arrival lets it, and the out-frame of the tick carried axis enable. The in-frame
that completes homing arrives in HOMING and its checks follow in READY (R175, R176); the spec does not say by which of the two
modes the monitor goes on that frame, and the model takes the mode at the arrival, so that both runs are 0 (DESIGN CHOICE,
log 53). -/
def State.monitorRuns (s : State) (m : StationMode) : Bool := m.followsError && s.drive.outFrame.axisEnable

/-- The first fault that the checks find, in their order (R176). -/
def firstFault (status : Slot) (panRun tiltRun : Nat) : Option Nat :=
  if statusAnyFault status then some 5
  else if Config.runLimit ≤ panRun then some 3
  else if Config.runLimit ≤ tiltRun then some 4
  else none

/-- The fault checks on a present in-frame, every one made and counted (R176, R177, R178). `m` is the mode at the
arrival. -/
def driveChecks (m : StationMode) (status : Slot) (enc : Int × Int) (s : State) : State :=
  if s.station.mode.monitored then
    let pan := runNext (s.monitorRuns m) s.fig.followErrorLimit s.drive.outFrame.pan enc.1 s.drive.panRun
    let tilt := runNext (s.monitorRuns m) s.fig.followErrorLimit s.drive.outFrame.tilt enc.2 s.drive.tiltRun
    let s1 : State :=
      { s with
        drive.panRun := pan
        drive.tiltRun := tilt
        drive.counters.driverFaults := satIf (statusAnyFault status) s.drive.counters.driverFaults
        drive.counters.panFollowErrors := satIf (decide (Config.runLimit ≤ pan)) s.drive.counters.panFollowErrors
        drive.counters.tiltFollowErrors := satIf (decide (Config.runLimit ≤ tilt)) s.drive.counters.tiltFollowErrors }
    match firstFault status pan tilt with
    | some code => enterFault code s1
    | none => s1
  else { s with drive.absentCount := 0, drive.panRun := 0, drive.tiltRun := 0 }

/-- A present in-frame: recorded, handed over, homing, then the fault checks (R175, R176, R179). Its temperature is handed
over first: with a thermal shutdown in the same frame the mode is FAULTED before the encoders are followed, the on-target
test is made and homing is judged, so none of these happens (DESIGN CHOICE, log 18). -/
def presentFrame (status : Slot) (enc : Int × Int) (tau : Int) (s : State) : State :=
  let s1 := handTemperature tau (recordFrame status enc s)
  let s2 := onTargetTest enc (followEncoders enc s1)
  driveChecks s.station.mode status enc (homingCheck s2)

/-- IN_FRAME (R175). None arrives in RESET (R171). -/
def execInFrame (status pan tilt temperature : Slot) (s : State) : Host.Outcome State Fault Refusal :=
  .next
    (if s.station.mode = .reset then s
    else if statusPresent status then presentFrame status (pan.toInt, tilt.toInt) temperature.toInt s
    else absentFrame s)

/-- The homing timer has reached its limit with homing not complete (R180). -/
def homingTooLong (s : State) : State :=
  enterFault 8
    { s with drive.homing := none, drive.counters.homingTimeouts := satInc s.drive.counters.homingTimeouts }

/-- HOMING_TIMEOUT (R180). -/
def execHomingTimeout (s : State) : Host.Outcome State Fault Refusal :=
  .next (if s.station.mode = .homing ∧ s.drive.homing = some Config.homingTicks then homingTooLong s else s)

end Sys2Proof.Machine
end

