-- ==== Sys2Proof/Machine/Reports.lean ====
section
/-! DEFINITION. The report pages of station control (R193, R194): the bytes of each page, its parts, its counters. -/

namespace Sys2Proof.Machine

/-- Counters as page bytes, 16 bits each (R194). -/
def counterBytes (l : List Nat) : List Byte := (l.map (natBytes 2)).flatten

/-- One byte of a page. -/
def one (n : Nat) : List Byte := natBytes 1 n

/-! ### Counters in report order -/

/-- The link counters in R23's order. -/
def LinkCounters.values (k : LinkCounters) : List Nat :=
  [k.framesReceived, k.framesSent, k.arbitrationLost, k.clash, k.transmitDropped, k.queueFull, k.symbolError,
    k.unknownKind, k.badStation, k.badLength, k.badCrc, k.badField, k.ownNumberHeard, k.linkLostCount]

/-- The clock and peer counters in R40's order. -/
def ClockCounters.values (k : ClockCounters) : List Nat := [k.clockSteps, k.peersRemoved, k.peersEvicted, k.peerTableFull]

/-- The call store counters in R64's order. -/
def StoreCounters.values (k : StoreCounters) : List Nat :=
  [k.superseded, k.callTableFull, k.badCall, k.badSyncCall, k.intakeHeld, k.lateCall, k.lateStart, k.orphan, k.duplicate,
    k.excess, k.gap, k.poolEmpty, k.done, k.cut, k.dropped, k.short]

/-- The aim counters in R79's order. -/
def AimCounters.values (k : AimCounters) : List Nat := [k.degenerateAim, k.aimClamped]

/-- The planner counters in R99's order. -/
def PlannerCounters.values (k : PlannerCounters) : List Nat :=
  [k.plans, k.rampRaised, k.stretched, k.dimmed, k.noFit, k.refitStretched, k.refitHeld, k.ceiling]

/-- The power counters in R124's order. -/
def PowerCounters.values (k : PowerCounters) : List Nat :=
  [k.ownRefused, k.peerRefused, k.statedOverride, k.reclaims, k.claimsDropped, k.soloDims]

/-- The landing counters in R136's order. -/
def LandingCounters.values (k : LandingCounters) : List Nat :=
  [k.offersMade, k.offersLost, k.offerClamped, k.lateOffers, k.foreignOffers, k.stretchedToLand, k.landingLate,
    k.stragglers]

/-- The cover counters in R155's order. -/
def CoverCounters.values (k : CoverCounters) : List Nat :=
  [k.tracksLost, k.followLimited, k.takesMade, k.takesRefused, k.ownTakesRefused, k.reliefsCompleted, k.reliefsExpired,
    k.holdersLapsed, k.selfYields, k.listFull, k.coverFramesLost]

/-- The colour counters in R170's order. -/
def ColourCounters.values (k : ColourCounters) : List Nat := [k.blackouts, k.derates, k.thermalShutdowns]

/-- The drive counters in R182's order. -/
def DriveCounters.values (k : DriveCounters) : List Nat :=
  [k.absentFrames, k.linkLosses, k.driverFaults, k.panFollowErrors, k.tiltFollowErrors, k.homingTimeouts, k.homingLost]

/-! ### Codes of report fields (R194) -/

def ThermalState.code : ThermalState → Nat
  | .normal => 0 | .derated => 1 | .shutdown => 2

def TrackState.code : TrackState → Nat
  | .none => 0 | .tracked => 1 | .coasting => 2

def RolePhase.code : RolePhase → Nat
  | .claiming => 1 | .candidate => 2 | .holder => 3 | .relieved => 4

/-! ### The pages -/

/-- The own circuit, or 0 when absent. -/
def State.circuitByte (s : State) : Nat := s.fig.circuit

/-- The own group mask of the record, or 0 when absent. -/
def State.reportedMask (s : State) : Nat :=
  match s.station.figures with
  | none => 0
  | some g => g.groupMask.toNat

/-- The last temperature as page 0 carries it. -/
def temperatureField : Option Int → Int
  | none => -32768
  | some t => clampInt (-32767) 32767 t

/-- Page 0: identity, mode, colour view, drive view (R170, R182, R194). -/
def page0 (s : State) : List Byte :=
  one s.station.mode.code ++ one s.station.faultCode ++ one s.circuitByte ++ one s.station.statusAsserted.toNat
    ++ natBytes 4 s.reportedMask
    ++ counterBytes s.colour.counters.values ++ counterBytes s.drive.counters.values
    ++ one s.colour.thermal.code ++ intBytes 2 (temperatureField s.colour.lastTemp)
    ++ one s.colour.fade.isSome.toNat
    ++ natBytes 2 ((s.colour.fade.map Fade.t).getD 0) ++ natBytes 2 ((s.colour.fade.map Fade.length).getD 0)
    ++ counterBytes s.colour.levels
    ++ one ((s.drive.lastStatus.map BitVec.toNat).getD 0)
    ++ intBytes 3 ((s.drive.lastEncoders.map Prod.fst).getD 0) ++ intBytes 3 ((s.drive.lastEncoders.map Prod.snd).getD 0)
    ++ intBytes 2 s.planner.pan ++ intBytes 2 s.planner.tilt
    ++ one (s.drive.axesOn.toNat + 2 * s.drive.panHomed.toNat + 4 * s.drive.tiltHomed.toNat)
    ++ one s.drive.absentCount ++ one s.drive.panRun ++ one s.drive.tiltRun
    ++ natBytes 2 (s.drive.homing.getD 65535)

/-- Page 1: the link counters (R23, R194). -/
def page1 (s : State) : List Byte := counterBytes s.link.counters.values

/-- Page 2: the move counters (R64, R194). -/
def page2 (s : State) : List Byte :=
  counterBytes s.store.counters.values ++ counterBytes s.aim.counters.values ++ counterBytes s.planner.counters.values
    ++ counterBytes s.landing.counters.values

/-- How many entries of the peer table meet a test (R40). -/
def State.countPeers (s : State) (p : Peer → Bool) : Nat := (s.clock.peers.filter p).length

/-- An entry shares a group other than group 0 with this station (R40). -/
def sharesGroup (mask : Nat) (p : Peer) : Bool := (p.groupMask.toNat &&& mask) / 2 != 0

/-- Round state, request and reason (R194). -/
def roundBytes : Option Round → List Byte
  | none => one 0 ++ natBytes 2 0 ++ one 0
  | some r => one (if r.awaiting then 2 else 1) ++ natBytes 2 r.request ++ one r.reason.code

/-- The power view of page 3; its headroom is the H of R102, the budget less the sum of others (R102, R124, R194). -/
def page3Power (s : State) : List Byte :=
  one s.circuitByte ++ natBytes 2 s.fig.budget ++ natBytes 2 s.power.granted ++ natBytes 3 s.sumOthers
    ++ intBytes 4 ((s.fig.budget : Int) - s.sumOthers) ++ natBytes 2 s.drawEstimate ++ roundBytes s.power.round
    ++ one (s.power.solo.getD 255)

/-- Page 3: clock, peer and power counters, the peer summary and the power view (R40, R124, R194). -/
def page3 (s : State) : List Byte :=
  counterBytes s.clock.counters.values ++ counterBytes s.power.counters.values
    ++ one s.clock.peers.length ++ one (s.countPeers (fun p => p.state == .live))
    ++ one (s.countPeers (fun p => p.state == .silent))
    ++ one (s.countPeers (fun p => p.kind == .fixture)) ++ one (s.countPeers (fun p => p.kind == .console))
    ++ one (s.countPeers (fun p => p.kind == .tracker)) ++ one (s.countPeers (fun p => p.kind == .other))
    ++ one (s.countPeers (fun p => s.isOwnCircuit p.circuit)) ++ one (s.countPeers (sharesGroup s.reportedMask))
    ++ page3Power s

/-- An entry goes before another in page 4's order: HOLDER entries by rank, RELIEVED last (R194). -/
def Holder.reportsBefore (a b : Holder) : Bool :=
  (a.isHolder && !b.isHolder) || (a.isHolder == b.isHolder && a.above b)

/-- Holder entries in page 4's order. -/
def insertHolder (h : Holder) : List Holder → List Holder
  | [] => [h]
  | x :: rest => if h.reportsBefore x then h :: x :: rest else x :: insertHolder h rest

/-- One holder entry of page 4: station, q, state, taker, ticks to deadline (R194). -/
def holderBytes (now : Word32) (h : Holder) : List Byte :=
  [h.station] ++ natBytes 2 h.q ++
    match h.state with
    | .holder => one 0 ++ [0] ++ natBytes 2 0
    | .relieved k d => one 1 ++ [k] ++ natBytes 2 (d - now).toNat

/-- The track record of the role's target as page 4 carries it; nothing recorded with no role. -/
def trackBytes (now : Word32) (t : TrackRecord) : List Byte :=
  one t.state.code ++ be32 t.stamp
    ++ natBytes 2 (match t.state with
      | .none => 0
      | .tracked => min 65535 (elapsed now t.arrival)
      | .coasting => min 65535 (elapsed now t.arrival))

/-- Five holder entries of page 4, zeros beyond the list (R194). -/
def listBytes (now : Word32) (l : List Holder) : List Byte :=
  let bytes := (l.foldr insertHolder []).flatMap (holderBytes now)
  one l.length ++ bytes ++ List.replicate (35 - bytes.length) 0

/-- The role's part of page 4 (R194). -/
def page4Role (s : State) : List Byte :=
  match s.cover.role with
  | none =>
    one 0 ++ one 255 ++ natBytes 2 0 ++ one 0 ++ natBytes 2 s.cover.ownQ ++ one s.cover.onTarget.toNat
      ++ trackBytes s.clock.tickCount .blank ++ listBytes s.clock.tickCount []
  | some r =>
    one r.phase.code ++ one r.target ++ be16 r.callId ++ one r.count ++ natBytes 2 s.cover.ownQ
      ++ one s.cover.onTarget.toNat ++ trackBytes s.clock.tickCount (s.cover.tracks.getD r.target .blank)
      ++ listBytes s.clock.tickCount (s.holders r.target)

/-- Page 4: the cover counters and the role's view (R155, R194). -/
def page4 (s : State) : List Byte := counterBytes s.cover.counters.values ++ page4Role s

/-- The bytes of a page (R194). -/
def pageBytes (page : Nat) (s : State) : List Byte :=
  match page with
  | 0 => page0 s
  | 1 => page1 s
  | 2 => page2 s
  | 3 => page3 s
  | _ => page4 s

/-- The counters of a page are zeroed (R193). -/
def clearPage (page : Nat) (s : State) : State :=
  match page with
  | 0 => { s with colour.counters := {}, drive.counters := {} }
  | 1 => { s with link.counters := {} }
  | 2 => { s with store.counters := {}, aim.counters := {}, planner.counters := {}, landing.counters := {} }
  | 3 => { s with clock.counters := {}, power.counters := {} }
  | _ => { s with cover.counters := {} }

/-! ### Parts (R193, R194) -/

/-- The number of parts of a page (R193). -/
def partCount (bytes : List Byte) : Nat := ceilDiv bytes.length Config.reportPartBytes

/-- The page bytes of one part, zeros beyond the page's end (R194). -/
def partBytes (bytes : List Byte) (k : Nat) : List Byte :=
  let b := (bytes.drop (Config.reportPartBytes * k)).take Config.reportPartBytes
  b ++ List.replicate (Config.reportPartBytes - b.length) 0

/-- The REPORT of one part of a snapshot (R194). -/
def reportFrame (page : Nat) (bytes : List Byte) (k : Nat) : ReportFields :=
  ⟨BitVec.ofNat 8 page, BitVec.ofNat 8 k :: BitVec.ofNat 8 (partCount bytes) :: partBytes bytes k⟩

/-- The next part of a snapshot is offered (R193). -/
def offerPart (n : Snapshot) (s : State) : State :=
  offer (.report (reportFrame n.page n.bytes n.next)) { s with station.snapshot := some { n with next := n.next + 1 } }

/-- A new snapshot is composed, its part 0 offered, and the page's counters then zeroed when the PROBE asks for it (R193): a
"queue full" that the offer itself counts is zeroed with them. -/
def newSnapshot (page : Nat) (clear : Bool) (s : State) : State :=
  let s1 := offerPart ⟨page, pageBytes page s, 0⟩ s
  if clear then clearPage page s1 else s1

/-- The modes in which PROBEs are answered (R193). -/
def StationMode.answers (m : StationMode) : Bool := !m.linkOff

/-- A PROBE to this station (R193). -/
def applyProbe (f : ProbeFields) (s : State) : State :=
  if !s.station.mode.answers || f.station != s.station.ownStation then s
  else
    match s.station.snapshot with
    | none => newSnapshot f.page.toNat f.clear s
    | some n =>
      if n.page = f.page.toNat ∧ n.next < partCount n.bytes then offerPart n s
      else newSnapshot f.page.toNat f.clear s

end Sys2Proof.Machine
end

