-- ==== Sys2Proof/Machine/Frames.lean ====
section
/-! DEFINITION. The commands that are arrivals of another station's good frame: STOP, CLAIM, TRACK, COVER, OFFER, CALL,
SEGMENT, BEACON, PROBE, REPORT. -/

namespace Sys2Proof.Machine

/-! ### STOP (R60, R61, R164, R191) -/

/-- BLACKOUT (R164). -/
def blackout (s : State) : State :=
  let s1 := dark s
  { s1 with colour.counters.blackouts := satInc s1.colour.counters.blackouts }

/-- The calls a STOP ends: all of them, in a mode that takes intake (R43, R60). -/
def State.stopped (s : State) : List Word16 := if s.station.mode.takesIntake then s.callIds (fun _ => true) else []

/-- An addressed STOP: the calls end, the intake condition follows FREEZE, BLACKOUT, the lowering in a mode that takes
intake, whether calls ended or none was held (DEDUCED, log 15), then RESTART (R60, R61, R113, R164, R191). A round the STOP
abandoned has its fresh figure before the RESTART ends every round: in solo mode that figure is granted in this event
(R115, R121, R123). -/
def stopStation (f : StopFields) (s : State) : State :=
  let s1 := endCalls .cut s.stopped s
  let s2 : State := { s1 with store.intake := if f.freeze then .held else .opened }
  let s3 := if f.blackout then blackout s2 else s2
  let s4 := if s.station.mode.takesIntake then lowerAfterEnd s3 else s3
  if f.restart then performRestart (freshen s4) else s4

/-- A STOP acts when its scope includes this station (R45, R60). -/
def applyStop (f : StopFields) (s : State) : State := if s.inScope f.scope then stopStation f s else s

/-- STOP (R60). -/
def execStop (st : Byte) (f : StopFields) (s : State) : Host.Outcome State Fault Refusal :=
  .next (receiveFrame ⟨st, .stop f⟩ (applyStop f) s)

/-- CLAIM (R105). -/
def execClaim (st : Byte) (f : ClaimFields) (s : State) : Host.Outcome State Fault Refusal :=
  .next (receiveFrame ⟨st, .claim f⟩ (applyClaim st f) s)

/-- TRACK (R138). -/
def execTrack (st : Byte) (f : TrackFields) (s : State) : Host.Outcome State Fault Refusal :=
  .next (receiveFrame ⟨st, .track f⟩ (applyTrack f) s)

/-- COVER (R144). -/
def execCover (st : Byte) (f : CoverFields) (s : State) : Host.Outcome State Fault Refusal :=
  .next (receiveFrame ⟨st, .cover f⟩ (applyCover false st f) s)

/-- OFFER (R130). -/
def execOffer (st : Byte) (f : OfferFields) (s : State) : Host.Outcome State Fault Refusal :=
  .next (receiveFrame ⟨st, .offer f⟩ (applyOffer f) s)

/-! ### CALL (R44 to R47) -/

/-- How a CALL is decided: the first check of R44 that applies. -/
inductive CallVerdict where
  | ignored
  | intakeHeld
  | badCall
  | badSyncCall
  | supersedes (old : CallRecord)
  | tableFull
  | fresh
  deriving DecidableEq, Repr

/-- The checks of R44 in order. -/
def judgeCall (f : CallFields) (s : State) : CallVerdict :=
  if !s.station.mode.takesIntake || !s.inScope f.scope then .ignored
  else if s.store.intake = .held then .intakeHeld
  else if !f.countOk then .badCall
  else if f.sync && f.segmentCount != 1 then .badSyncCall
  else
    match s.findCall f.callId with
    | some old => .supersedes old
    | none => if Config.callCapacity ≤ s.store.calls.length then .tableFull else .fresh

/-- The record a CALL makes (R47). -/
def newCall (f : CallFields) (arrival : Nat) : CallRecord where
  callId := f.callId
  scope := f.scope
  mode := f.callMode
  goTime := f.goTime
  sync := f.sync
  stretch := f.stretch
  expected := f.segmentCount.toNat
  colour := f.colourPart
  target := f.target.toNat
  count := f.count.toNat
  chain := []
  received := 0
  closed := false
  state := .pending
  plan := none
  waitStart := none
  holdStart := none
  reachedGo := false
  arrival := arrival

/-- The go time is at or before the clock as the CALL arrives (R47). -/
def State.isLate (s : State) (f : CallFields) : Bool := atOrAfter s.clock.linkClock f.goTime

/-- A record joins the table (R41, R47, R125). -/
def addCall (f : CallFields) (arrival : Nat) (s : State) : State :=
  let r := newCall f arrival
  createLanding r
    { s with
      store.calls := placeCall r s.store.calls
      store.counters.lateCall := satIf (s.isLate f) s.store.counters.lateCall }

/-- A late call reaches go in its arrival, in a mode that makes the tests (R47, R51). -/
def lateTests (f : CallFields) (s : State) : State :=
  if s.isLate f && s.station.mode.makesTests then goTests s else s

/-- A new call is accepted (R47). -/
def acceptCall (f : CallFields) (s : State) : State :=
  closeEvent (lateTests f (addCall f s.store.nextArrival { s with store.nextArrival := s.store.nextArrival + 1 }))

/-- A call starts in the event of a late CALL's arrival, as the calls that are due reach go (R47, R59, logs 14 and 54). -/
def State.startsOnArrival (s : State) (f : CallFields) : Bool :=
  s.isLate f && s.station.mode.makesTests && startsAmong s.dueCalls s

/-- A CALL supersedes the record of its id, which ends CUT (R46, R47, R59, R113). -/
def supersedeCall (f : CallFields) (old : CallRecord) (s : State) : State :=
  let s1 := endCall f.callId .cut s
  let s2 := addCall f old.arrival { s1 with store.counters.superseded := satInc s1.store.counters.superseded }
  closeEvent (lateTests f (if s2.startsOnArrival f then s2 else lowerAfterEnd s2))

/-- The call store on a CALL (R44). -/
def applyCall (f : CallFields) (s : State) : State :=
  match judgeCall f s with
  | .ignored => s
  | .intakeHeld => { s with store.counters.intakeHeld := satInc s.store.counters.intakeHeld }
  | .badCall => { s with store.counters.badCall := satInc s.store.counters.badCall }
  | .badSyncCall => { s with store.counters.badSyncCall := satInc s.store.counters.badSyncCall }
  | .tableFull => { s with store.counters.callTableFull := satInc s.store.counters.callTableFull }
  | .supersedes old => supersedeCall f old s
  | .fresh => acceptCall f s

/-- CALL (R44). -/
def execCall (st : Byte) (f : CallFields) (s : State) : Host.Outcome State Fault Refusal :=
  .next (receiveFrame ⟨st, .call f⟩ (applyCall f) s)

/-! ### SEGMENT (R48, R49) -/

/-- How a SEGMENT is decided: the first check of R48 that applies. -/
inductive SegmentVerdict where
  | ignored
  | orphan
  | duplicate
  | excess
  | gap
  | poolEmpty
  | taken (r : CallRecord)
  deriving DecidableEq, Repr

/-- The checks of R48 in order. -/
def judgeSegment (f : SegmentFields) (s : State) : SegmentVerdict :=
  if !s.station.mode.takesIntake then .ignored
  else
    match s.findCall f.callId with
    | none => .orphan
    | some r =>
      if f.index.toNat < r.received then .duplicate
      else if r.closed || decide (r.expected ≤ f.index.toNat) then .excess
      else if r.received < f.index.toNat then .gap
      else if s.store.poolFree = 0 then .poolEmpty
      else .taken r

/-- The record with a taken segment (R48). -/
def CallRecord.withSegment (f : SegmentFields) (r : CallRecord) : CallRecord :=
  { r with
    chain := r.chain ++ [f.poolSegment]
    received := r.received + 1
    closed := r.closed || f.last || f.index.toNat + 1 == r.expected }

/-- The segment is chained (R48, R127). -/
def chainSegment (f : SegmentFields) (s : State) : State :=
  let s1 := updateCall f.callId (CallRecord.withSegment f) s
  noteRequested f.callId f.duration.toNat { s1 with store.poolFree := s1.store.poolFree - 1 }

/-- A HOLD_OPEN call resumes (R57). -/
def resumeCall (id : Word16) (s : State) : State :=
  beginNext id (updateCall id (fun r => { r with state := .running, holdStart := none }) s)

/-- What a taken segment does next, by the state its call was in (R49). A PENDING call is offered by the review that
closes the event (R50). -/
def segmentEffect (r : CallRecord) (s : State) : State :=
  match r.state with
  | .waiting => if r.chain.isEmpty then planCall r.callId s else s
  | .holdOpen => resumeCall r.callId s
  | .pending => s
  | .claiming => s
  | .planned => s
  | .running => s

/-- The call store on a SEGMENT (R48, R49). -/
def applySegment (f : SegmentFields) (s : State) : State :=
  match judgeSegment f s with
  | .ignored => s
  | .orphan => { s with store.counters.orphan := satInc s.store.counters.orphan }
  | .duplicate => { s with store.counters.duplicate := satInc s.store.counters.duplicate }
  | .excess => { s with store.counters.excess := satInc s.store.counters.excess }
  | .gap => { s with store.counters.gap := satInc s.store.counters.gap }
  | .poolEmpty => { s with store.counters.poolEmpty := satInc s.store.counters.poolEmpty }
  | .taken r => closeEvent (segmentEffect r (chainSegment f s))

/-- SEGMENT (R48). -/
def execSegment (st : Byte) (f : SegmentFields) (s : State) : Host.Outcome State Fault Refusal :=
  .next (receiveFrame ⟨st, .segment f⟩ (applySegment f) s)

/-! ### BEACON, PROBE, REPORT -/

/-- BEACON (R27, R33, R108). -/
def execBeacon (st : Byte) (f : BeaconFields) (s : State) : Host.Outcome State Fault Refusal :=
  .next (receiveFrame ⟨st, .beacon f⟩ (applyBeacon st f (s.findPeer st).isSome) s)

/-- PROBE (R193). -/
def execProbe (st : Byte) (f : ProbeFields) (s : State) : Host.Outcome State Fault Refusal :=
  .next (receiveFrame ⟨st, .probe f⟩ (applyProbe f) s)

/-- REPORT (R12, R31): the peer-entry stage alone. -/
def execReport (st : Byte) (f : ReportFields) (s : State) : Host.Outcome State Fault Refusal :=
  .next (receiveFrame ⟨st, .report f⟩ (fun s => s) s)

end Sys2Proof.Machine
end

