-- ==== Sys2Proof/Machine/LineEvents.lean ====
section
/-! DEFINITION. The commands of the line: LINE_IDLE, START_OPPORTUNITY, FRAME_START_BIT, ARBITRATION_LOST, CLASH,
TRANSMISSION_SUCCESS, STUCK_LINE, FRAME_DISCARD. -/

namespace Sys2Proof.Machine

/-- LINE_IDLE (R2, R3): the recessive run has reached 12. A run that stood past 12 already goes on from there, a start bit
read back recessive being no dominant bit (R2, R9). -/
def execLineIdle (s : State) : Host.Outcome State Fault Refusal :=
  .next
    (if s.link.lineState = .waitIdle then
      { s with
        link.lineState := .idle
        link.recessiveRun := max Config.idleRun s.link.recessiveRun
        link.dominantRun := 0 }
    else s)

/-- The line is idle: a start opportunity can come (R2). -/
def LinkState.atOpportunity (k : LinkState) : Bool :=
  k.lineState == .idle && decide (Config.idleRun ≤ k.recessiveRun)

/-- The run at the next start opportunity: the multiple of 12 at or after it (R2). -/
def opportunityRun (run : Nat) : Nat := Config.idleRun * ((run + (Config.idleRun - 1)) / Config.idleRun)

/-- The selected entry is IN_FLIGHT and its frame driven (R2, R3, R17, R19). Its start bit falls in the bit time after the
opportunity, so the recessive run stands at the opportunity's, as the bit that reads it back finds it (R2, log 5). -/
def startAttempt (b : TxBody) (s : State) : State :=
  { s with
    link.queue := markInFlight s.link.queue b
    link.txFrame := some (s.frameOf b)
    link.lineState := .arbitrating }

/-- The run reaches the start opportunity (R2). -/
def reachOpportunity (s : State) : State := { s with link.recessiveRun := opportunityRun s.link.recessiveRun }

/-- An opportunity at which nothing waits: the run goes on to the next one (R2, log 5). -/
def passOpportunity (s : State) : State := { s with link.recessiveRun := s.link.recessiveRun + Config.idleRun }

/-- START_OPPORTUNITY (R2, R17). -/
def execStartOpportunity (s : State) : Host.Outcome State Fault Refusal :=
  .next
    (if s.link.atOpportunity then
      match selectEntry s.link.queue with
      | some e => startAttempt e.body (reachOpportunity s)
      | none => passOpportunity (reachOpportunity s)
    else s)

/-- FRAME_START_BIT (R3): the dominant start bit of another station's frame. -/
def execFrameStartBit (s : State) : Host.Outcome State Fault Refusal :=
  .next
    (if s.link.lineState = .idle then
      { s with link.lineState := .receiving, link.rxBuffer := [], link.rxBits := [], link.recessiveRun := 0,
               link.dominantRun := 1 }
    else s)

/-- An attempt is on the line (R3). -/
def LinkState.onLine (k : LinkState) : Bool := k.lineState == .arbitrating || k.lineState == .sending

/-- At this bit time of a frame an attempt can lose arbitration: a data bit of byte 0 or 1 driven recessive (R8). -/
def losesAt (fr : Frame) (p : Nat) : Bool := arbitrationBit p && (lineLevels fr.bytes).getD p false

/-- Arbitration is lost at a bit time (R8, R18). -/
def loseArbitration (fr : Frame) (p : Nat) (s : State) : State :=
  let k := fallToReceiving fr p s.link
  { s with
    link :=
      { k with
        queue := queueArbLost k.queue
        counters := { k.counters with arbitrationLost := satInc k.counters.arbitrationLost } } }

/-- ARBITRATION_LOST (R8) at a bit time of the own frame. -/
def execArbitrationLost (p : Nat) (s : State) : Host.Outcome State Fault Refusal :=
  .next
    (match s.link.txFrame with
    | none => s
    | some fr => if s.link.lineState = .arbitrating ∧ losesAt fr p then loseArbitration fr p s else s)

/-- A bit time of a frame at which a difference is a clash (R9). -/
def clashesAt (fr : Frame) (p : Nat) : Bool := decide (p < (lineLevels fr.bytes).length) && !losesAt fr p

/-- The attempt at a bit time of its frame: from bit time 20 on it is SENDING (R3). -/
def attemptAt (p : Nat) (k : LinkState) : LinkState := if 20 ≤ p then passByteOne k else k

/-- The link controller at a clash; the queue is as R18 gives it (R9, R18). -/
def clashLink (fr : Frame) (p : Nat) (queue : List TxEntry) (k : LinkState) : LinkState :=
  let k1 := fallToReceiving fr p (attemptAt p k)
  { k1 with queue := queue, counters := { k1.counters with clash := satInc k1.counters.clash } }

/-- A clash at a bit time (R9, R16, R18, R20). -/
def clashAt (fr : Frame) (p : Nat) (s : State) : State :=
  let q := queueClash s.link.queue
  let s1 : State := { s with link := clashLink fr p q.1 s.link }
  match q.2 with
  | none => s1
  | some b => conclude (afterDrop b s1)

/-- CLASH (R9) at a bit time of the own frame. -/
def execClash (p : Nat) (s : State) : Host.Outcome State Fault Refusal :=
  .next
    (match s.link.txFrame with
    | none => s
    | some fr => if s.link.onLine ∧ clashesAt fr p then clashAt fr p s else s)

/-- TRANSMISSION_SUCCESS (R10, R13, R18, R20, R22). -/
def execTransmissionSuccess (s : State) : Host.Outcome State Fault Refusal :=
  .next
    (match s.link.txFrame with
    | none => s
    | some fr =>
      if s.link.onLine then
        conclude (readbackOwn fr (markSend { s with link := sentLink (lineLevels fr.bytes) s.link }))
      else s)

/-- What passes on the line while no command waits: an own attempt that has neither lost arbitration nor clashed has byte 1
read back, and is SENDING (R3, log 5). -/
def lineIdles (s : State) : State := { s with link := passByteOne s.link }

/-- STUCK_LINE (R21): the dominant run reaches 2000, in any line state but OFF. -/
def execStuckLine (s : State) : Host.Outcome State Fault Refusal :=
  .next
    (if s.link.lineState = .off then s
    else conclude (loseLink { s with link.dominantRun := Config.stuckRun, link.recessiveRun := 0 }))

/-- The levels seen by the end of a discarded frame (R4, R5). -/
def discardLevels (r : DiscardReason) (n : Nat) (bytes : List Byte) (fault : Option SymbolFault) : List Bool :=
  if r = .symbolError then lineLevels bytes ++ faultLevels fault else lineLevels (bytes.take n)

/-- FRAME_DISCARD (R4, R5, R6, R7): the first check that fails counts its counter. -/
def execFrameDiscard (bytes : List Byte) (fault : Option SymbolFault) (s : State) :
    Host.Outcome State Fault Refusal :=
  .next
    (if s.receives bytes fault then
      match judge s.station.ownStation bytes fault with
      | .discard r n => discardFrame r (discardLevels r n bytes fault) s
      | .good _ => s
      | .incomplete => s
    else s)

end Sys2Proof.Machine
end

