-- ==== Sys2Proof/Machine/PowerEvents.lean ====
section
/-! DEFINITION. The power share unit's own events: RECLAIM_TIMER, VIEW_SETTLE_END. -/

namespace Sys2Proof.Machine

/-- RECLAIM_TIMER (R111): the timer of an AWAITING round has run out. -/
def execReclaimTimer (s : State) : Host.Outcome State Fault Refusal :=
  .next (if s.power.reclaim = some 0 then conclude (endWait { s with power.reclaim := none }) else s)

/-- A CLAIM that the view settle timer held back is offered (R119). -/
def offerHeld (s : State) : State :=
  match s.power.round with
  | none => s
  | some r =>
    if r.held then
      offer (.claim (claimFrame s.fig r.request r.reason)) { s with power.round := some { r with held := false } }
    else s

/-- The view settle timer has reached 0: a held CLAIM is offered, and STARTING without homing goes to READY
(R119, R188). -/
def settleOver (s : State) : State :=
  let s1 := offerHeld { s with power.settle := none }
  if s1.station.mode = .starting ∧ s1.station.homingNeeded = false then enterReady s1 else s1

/-- VIEW_SETTLE_END (R119). -/
def execViewSettleEnd (s : State) : Host.Outcome State Fault Refusal :=
  .next (if s.power.settle = some 0 then settleOver s else s)

end Sys2Proof.Machine
end

