-- ==== Sys2Proof/Machine/Resets.lean ====
section
/-! DEFINITION. The commands of resets and of the configuration read: POWER_ON_RESET, RESET_ASSERTED,
CONFIGURATION_READ_END. -/

namespace Sys2Proof.Machine

/-- POWER_ON_RESET (R185): at the release every block takes its values for a power-on reset, and CONFIG begins. -/
def execPowerOnReset (s : State) : Host.Outcome State Fault Refusal :=
  .next { State.reset with pending := s.pending }

/-- The station held in RESET (R184, R185, R192): no line, no drive frames, no role; the rest waits for the release
(log 29). -/
def holdReset (s : State) : State :=
  let s1 := setMode .reset s
  { s1 with
    link.rxBuffer := []
    link.rxBits := []
    link.txFrame := none
    aim.pose := none
    cover.role := none
    drive.outFrame := .zero
    notices := [] }

/-- RESET_ASSERTED (R185). -/
def execResetAsserted (s : State) : Host.Outcome State Fault Refusal := .next (holdReset s)

/-- CONFIGURATION_READ_END (R186, R187, R191): the 256th byte has been taken. It has no meaning while the memory is not selected. -/
def execConfigurationReadEnd (bytes : List Byte) (s : State) : Host.Outcome State Fault Refusal :=
  .next (if s.memorySelect then endRead (recordBytes bytes) s else s)

end Sys2Proof.Machine
end

