-- ==== Sys2Proof/Machine/Ticks.lean ====
section
/-! DEFINITION. The commands of the clock and peer unit's time: TICK, BEACON_TIMER, PEER_SILENT, PEER_REMOVED. -/

namespace Sys2Proof.Machine

/-- The profile step: t rises by one and the commanded position follows (R82, R84). A segment at D waits for SEGMENT_END
(log 9). -/
def profileTick (s : State) : State :=
  match s.planner.motion with
  | none => s
  | some m =>
    if m.t < m.d then
      { s with
        planner.pan := profilePosition m.startPan m.endPan m.d m.r (m.t + 1)
        planner.tilt := profilePosition m.startTilt m.endTilt m.d m.r (m.t + 1)
        planner.motion := some { m with t := m.t + 1 } }
    else s

/-- The link clock and the tick count advance (R25, R29). -/
def advanceClocks (s : State) : State :=
  { s with clock.linkClock := s.clock.linkClock + 1, clock.tickCount := s.clock.tickCount + 1 }

/-- The homing timer advances, up to its limit (R180). -/
def homingTick : Option Nat → Option Nat
  | none => none
  | some n => some (min Config.homingTicks (n + 1))

/-- The timers count (R38, R111, R119, R150, R180). One at its end waits for its command (log 9). -/
def timersTick (s : State) : State :=
  { s with
    clock.beaconTimer := countDown s.clock.beaconTimer
    clock.beaconDue := s.clock.beaconDue || countDown s.clock.beaconTimer == some 0
    power.reclaim := countDown s.power.reclaim
    power.settle := countDown s.power.settle
    cover.restate := countDown s.cover.restate
    drive.homing := homingTick s.drive.homing }

/-- The frame sync: the out-frame is composed from the values that stand (R171, R173). -/
def frameSync (s : State) : State := { s with drive.outFrame := s.composeOut }

/-- The per-tick work, in the order of 95_what_each_step_holds.md (log 8). -/
def tickWork (s : State) : State := timersTick (fadeTick (profileTick (frameSync (advanceClocks s))))

/-- TICK (R25): nothing runs while the station is held in RESET (log 37). -/
def execTick (s : State) : Host.Outcome State Fault Refusal :=
  .next (if s.station.mode = .reset then s else tickWork s)

/-- BEACON_TIMER (R38): the timer, not STOPPED, has run out. A change of mode in that tick may have restarted it already; the
BEACON of the run-out is offered all the same, and the timer restarts from the later of the two. -/
def execBeaconTimer (s : State) : Host.Outcome State Fault Refusal :=
  .next (if s.clock.beaconTimer.isSome && s.clock.beaconDue then beaconNow { s with clock.beaconDue := false } else s)

/-- A LIVE entry whose silence has reached the aging time (R34). -/
def State.silentDue (s : State) (p : Peer) : Bool :=
  p.state == .live && decide (s.aging ≤ p.silence s.clock.tickCount)

/-- The entry becomes SILENT, and the cover unit is told (R34). -/
def silencePeer (st : Byte) (s : State) : State := stationGone st (updatePeer st (fun p => { p with state := .silent }) s)

/-- PEER_SILENT (R34) for one station. -/
def execPeerSilent (st : Byte) (s : State) : Host.Outcome State Fault Refusal :=
  .next
    (match s.findPeer st with
    | none => s
    | some p => if s.silentDue p then silencePeer st s else s)

/-- A SILENT entry whose silence has reached twice the aging time (R35). -/
def State.removalDue (s : State) (p : Peer) : Bool :=
  p.state == .silent && decide (2 * s.aging ≤ p.silence s.clock.tickCount)

/-- The entry is removed; on the own circuit the headroom rises (R35, R110). -/
def removePeer (p : Peer) (s : State) : State :=
  let s1 : State :=
    { s with
      clock.peers := dropPeer p.station s.clock.peers
      clock.counters.peersRemoved := satInc s.clock.counters.peersRemoved }
  if s.isOwnCircuit p.circuit then conclude (headroomRise s1) else s1

/-- PEER_REMOVED (R35) for one station. -/
def execPeerRemoved (st : Byte) (s : State) : Host.Outcome State Fault Refusal :=
  .next
    (match s.findPeer st with
    | none => s
    | some p => if s.removalDue p then removePeer p s else s)

end Sys2Proof.Machine
end

