-- ==== Sys2Proof/Machine/Dispatch.lean ====
section
/-! DEFINITION. The dispatch: one arm per command, each one direct call of its meaning. -/

namespace Sys2Proof.Machine

/-- The effect of a command on everything but the queue of commands that wait. -/
def exec (i : Instr) (s : State) : Host.Outcome State Fault Refusal :=
  match i with
  | .powerOnReset => Sys2Proof.Machine.execPowerOnReset s
  | .configurationReadEnd bytes => Sys2Proof.Machine.execConfigurationReadEnd bytes s
  | .tick => Sys2Proof.Machine.execTick s
  | .lineIdle => Sys2Proof.Machine.execLineIdle s
  | .startOpportunity => Sys2Proof.Machine.execStartOpportunity s
  | .arbitrationLost p => Sys2Proof.Machine.execArbitrationLost p s
  | .clash p => Sys2Proof.Machine.execClash p s
  | .transmissionSuccess => Sys2Proof.Machine.execTransmissionSuccess s
  | .stuckLine => Sys2Proof.Machine.execStuckLine s
  | .frameDiscard bytes fault => Sys2Proof.Machine.execFrameDiscard bytes fault s
  | .stop st f => Sys2Proof.Machine.execStop st f s
  | .claim st f => Sys2Proof.Machine.execClaim st f s
  | .track st f => Sys2Proof.Machine.execTrack st f s
  | .cover st f => Sys2Proof.Machine.execCover st f s
  | .offer st f => Sys2Proof.Machine.execOffer st f s
  | .call st f => Sys2Proof.Machine.execCall st f s
  | .segment st f => Sys2Proof.Machine.execSegment st f s
  | .beacon st f => Sys2Proof.Machine.execBeacon st f s
  | .probe st f => Sys2Proof.Machine.execProbe st f s
  | .report st f => Sys2Proof.Machine.execReport st f s
  | .peerSilent st => Sys2Proof.Machine.execPeerSilent st s
  | .peerRemoved st => Sys2Proof.Machine.execPeerRemoved st s
  | .beaconTimer => Sys2Proof.Machine.execBeaconTimer s
  | .planPoint => Sys2Proof.Machine.execPlanPoint s
  | .go => Sys2Proof.Machine.execGo s
  | .waitingLimit => Sys2Proof.Machine.execWaitingLimit s
  | .holdOpenLimit => Sys2Proof.Machine.execHoldOpenLimit s
  | .segmentEnd => Sys2Proof.Machine.execSegmentEnd s
  | .fadeComplete => Sys2Proof.Machine.execFadeComplete s
  | .reclaimTimer => Sys2Proof.Machine.execReclaimTimer s
  | .viewSettleEnd => Sys2Proof.Machine.execViewSettleEnd s
  | .trackTimeout t => Sys2Proof.Machine.execTrackTimeout t s
  | .reliefDeadline t => Sys2Proof.Machine.execReliefDeadline t s
  | .holderLapse t st => Sys2Proof.Machine.execHolderLapse t st s
  | .restateTimer => Sys2Proof.Machine.execRestateTimer s
  | .takeHoldoffEnd => Sys2Proof.Machine.execTakeHoldoffEnd s
  | .inFrame status pan tilt temperature => Sys2Proof.Machine.execInFrame status pan tilt temperature s
  | .homingTimeout => Sys2Proof.Machine.execHomingTimeout s
  | .resetAsserted => Sys2Proof.Machine.execResetAsserted s
  | .frameStartBit => Sys2Proof.Machine.execFrameStartBit s

end Sys2Proof.Machine
end

