-- ==== Sys2Proof/Safety.lean ====
section
/-! DEFINITION. What counts as a safe run: the invariants that every command keeps, and the terms in which statements about
arrivals, quiet states and the plan that the ladder takes are made. -/

namespace Sys2Proof.Machine

/-! ### Quiet states and arrivals -/

/-- Nothing is left to tell from an earlier event: the state between two commands of a run (R103, R115, R116). -/
def Quiet (s : State) : Prop := s.notices = [] ∧ s.power.abandoned = false

/-- The bytes and bits on the line so far may be the start of this frame (R3, R4, R8, R9). -/
def Listening (fr : Frame) (s : State) : Prop :=
  s.link.lineState = .receiving ∧ s.link.begins fr.bytes none = true

/-- A good frame from another station arrives at a state between two commands, and its receive mark does not end a
link-lost condition (R5, R22). -/
def Arrives (fr : Frame) (s : State) : Prop :=
  Quiet s ∧ Listening fr s ∧ fr.wf = true ∧ fr.station ≠ s.station.ownStation
    ∧ (s.link.linkLost = false ∨ s.link.sendMark = false)

/-- The link controller after the arrival of a good frame from another station (R3, R5, R22; its runs are those of the
frame's last levels, log 5). -/
def arrivedLink (fr : Frame) (k : LinkState) : LinkState :=
  { k with
    lineState := .waitIdle
    rxBuffer := []
    rxBits := []
    txFrame := none
    recessiveRun := trailingRun true (lineLevels fr.bytes)
    dominantRun := trailingRun false (lineLevels fr.bytes)
    receiveMark := k.linkLost || k.receiveMark
    counters := { k.counters with framesReceived := satInc k.counters.framesReceived } }

/-- The peer table after a good frame that creates no entry (R31). -/
def heardPeers (st : Byte) (now : Word32) (l : List Peer) : List Peer :=
  l.map (fun p => if p.station == st then { p with state := .live, lastHeard := now } else p)

/-- The state as the blocks of its kind find it, for a good frame that creates no peer entry and writes none of its
fields: heard, and nothing else (R5, R12, R31). -/
def arrived (fr : Frame) (s : State) : State :=
  { s with
    link := arrivedLink fr s.link
    clock := { s.clock with peers := heardPeers fr.station s.clock.tickCount s.clock.peers } }

/-- The claims this station's view holds on the own circuit, but for one sender's (R102, R105). -/
def othersOn (g : Figures) (st : Byte) (l : List Peer) : Nat :=
  ((l.filter (fun p => p.circuit == g.circuit && p.station != st)).map Peer.granted).sum

/-- A transmit queue that takes a new entry of this kind and subject at its end (R15). -/
def HasRoom (b : TxBody) (q : List TxEntry) : Prop :=
  q.length < Config.queueCapacity ∧ ∀ e ∈ q, e.body.same b = false

/-- The queue with a new WAITING entry at its end (R15). -/
def queued (b : TxBody) (q : List TxEntry) : List TxEntry := q ++ [⟨b, 0, false, none⟩]

/-! ### The planning ladder -/

/-- The candidates of the planning ladder in order (R92, R93): the plan as requested, with the ramps raised and at each stretch,
those that fail a velocity check left out, then the last of these at each dim step. -/
def ladderPlans (g : Figures) (inp : LadderInput) (x y : Int) (segs : List SegPlan) (stretch : Nat) : List Plan :=
  let first := makeShape g x y segs .asRequested timingA
  let later := (laterShapes g x y segs stretch).filter (fun sh => shapeVelocityOk g x y sh.segs)
  (first :: later).map (fun sh => planOf g inp x y sh sh.step 65536)
    ++ (dimSteps g inp.colour).map (fun m => planOf g inp x y (later.getLastD first) (.dimmed m) (65536 - 4096 * m))

/-- The plan that the ladder takes of its candidates: the first whose request is at or below the headroom, and with none such
the last, its step noFit (R92, R93). -/
def TakenOf (plans : List Plan) (headroom : Int) (pl : Plan) : Prop :=
  (∀ c, plans.find? (fun c => decide ((c.request : Int) ≤ headroom)) = some c → pl = c)
    ∧ ((∀ c ∈ plans, headroom < (c.request : Int)) → ∀ c, plans.getLast? = some c → pl = { c with step := .noFit })
    ∧ (pl.step = .noFit ↔ headroom < (pl.request : Int))

/-- The queue offers this payload: an entry carries it, or holds it as its newer one (R14, R15). -/
def Offered (b : TxBody) (q : List TxEntry) : Prop := ∃ e ∈ q, e.body = b ∨ e.next = some b

/-! ### Invariants -/

/-- The status line, the line state and the beacon timer follow the station mode (R3, R38, R192). -/
def ModeInv (s : State) : Prop :=
  s.station.statusAsserted = s.station.mode.asserts
    ∧ (s.link.lineState = .off ↔ s.station.mode.linkOff = true)
    ∧ (s.clock.beaconTimer = none ↔ s.station.mode.linkOff = true)

/-- A queue entry's held payload is of its own kind and subject (R14, R15). -/
def TxEntry.heldOk (e : TxEntry) : Prop :=
  match e.next with
  | none => True
  | some b => b.same e.body = true

/-- At most 12 entries, no two of one kind and subject, attempts 0..3 (R14). -/
def QueueInv (s : State) : Prop :=
  s.link.queue.length ≤ Config.queueCapacity
    ∧ s.link.queue.Pairwise (fun a b => a.body.same b.body = false)
    ∧ ∀ e ∈ s.link.queue, e.heldOk ∧ e.attempts ≤ Config.maxAttempts

/-- The segments chained to the calls of a table. -/
def chained (calls : List CallRecord) : Nat := (calls.map (fun r => r.chain.length)).sum

/-- At most 8 records, no two of one call id; the free segments and those chained are 64 together (R41, R42). -/
def StoreInv (s : State) : Prop :=
  s.store.calls.length ≤ Config.callCapacity
    ∧ s.store.calls.Pairwise (fun a b => a.callId ≠ b.callId)
    ∧ s.store.poolFree + chained s.store.calls = Config.poolSize

/-- At most 96 entries in ascending order of station, none for the own station; none in CONFIG (R30). -/
def PeerInv (s : State) : Prop :=
  s.clock.peers.length ≤ Config.peerCapacity
    ∧ s.clock.peers.Pairwise (fun a b => a.station.toNat < b.station.toNat)
    ∧ (∀ p ∈ s.clock.peers, p.station ≠ s.station.ownStation)
    ∧ (s.station.mode = .config → s.clock.peers = [])

/-- A holder list has at most 5 entries, no two of one station, at most one RELIEVED (R144). -/
def HolderListOk (l : List Holder) : Prop :=
  l.length ≤ Config.holderCapacity
    ∧ l.Pairwise (fun a b => a.station ≠ b.station)
    ∧ (l.filter (fun h => !h.isHolder)).length ≤ 1

/-- Sixteen track records and sixteen holder lists, each list within its bounds (R138, R144). -/
def CoverInv (s : State) : Prop :=
  s.cover.tracks.length = Config.targets
    ∧ s.cover.lists.length = Config.targets
    ∧ ∀ l ∈ s.cover.lists, HolderListOk l

/-- Solo mode is ON only in ISOLATED (R120, R122); a reset pin held there leaves it to the release (R185, log 29). -/
def SoloInv (s : State) : Prop := s.power.solo.isSome = true → s.station.mode = .isolated ∨ s.station.mode = .reset

/-- A call of the table has this id. -/
def holdsCall (id : Word16) (calls : List CallRecord) : Prop := ∃ r ∈ calls, r.callId = id

/-- Whoever owns the segment under way is there (R82): a call is held in the table, the follow role is not NONE. -/
def ownerStands (s : State) : MotionOwner → Prop
  | .call id => holdsCall id s.store.calls
  | .follow => s.cover.role.isSome = true ∨ s.station.mode = .reset

/-- The segment under way has its owner, and the follow role its call (R82, R140, R153); a reset pin held leaves the
segment to the release (R185, log 29). -/
def OwnerInv (s : State) : Prop :=
  (∀ m, s.planner.motion = some m → ownerStands s m.owner)
    ∧ ∀ r, s.cover.role = some r → holdsCall r.callId s.store.calls

/-- Every counter of the part, block by block (R23, R40, R64, R79, R99, R124, R136, R155, R170, R182). -/
def State.counts (s : State) : List Nat :=
  s.link.counters.values ++ s.clock.counters.values ++ s.store.counters.values ++ s.aim.counters.values
    ++ s.planner.counters.values ++ s.power.counters.values ++ s.landing.counters.values ++ s.cover.counters.values
    ++ s.colour.counters.values ++ s.drive.counters.values

/-- Every counter is within its 16 bits (R23). -/
def CountInv (s : State) : Prop := ∀ n ∈ s.counts, n ≤ 65535

/-- The invariants together: what holds between two commands of every run from State.reset. -/
def Safe (s : State) : Prop :=
  Quiet s ∧ ModeInv s ∧ QueueInv s ∧ StoreInv s ∧ PeerInv s ∧ CoverInv s ∧ SoloInv s ∧ OwnerInv s ∧ CountInv s

end Sys2Proof.Machine
end

