-- ==== Sys2Proof/Certificates/Slice0/Obligations.lean ====
section
/-! DEFINITION. The statements of this model for the provers. -/

open Sys2Proof Sys2Proof.Machine

/-! ### The queue of commands, resets, the configuration read -/

/-- The step takes the command at the front of the queue and runs it with the queue's rest; on an empty queue the block
idles, an own attempt on the line passing from ARBITRATING to SENDING and nothing else changing (the queue, its idling and
that passing are the model's choice, log 2 and log 5). -/
def Obligations.StepRunsFrontCommand : Prop :=
  (∀ (s : State) (c : Instr) (rest : List Instr), s.pending = c :: rest → step s = exec c { s with pending := rest })
    ∧ ∀ s : State, s.pending = [] →
      step s = .next
        { s with
          link := { s.link with lineState := if s.link.lineState = .arbitrating then .sending else s.link.lineState } }

/-- POWER_ON_RESET: every block at its power-on values, the station in CONFIG with the configuration memory selected, read
command and address sent (R185, R186). RESET_ASSERTED: RESET with the status line ASSERTED, the line OFF, the output line
at 0 and no role; that the other state waits for the release as it stands is the model's choice (log 29). -/
def Obligations.ResetsSetTheBlock : Prop :=
  (∀ s : State, ∃ t : State, exec .powerOnReset s = .next t
    ∧ t.pending = s.pending ∧ t.memorySelect = true ∧ t.memorySent = [0x03, 0x00, 0x00, 0x00]
    ∧ t.station.mode = .config ∧ t.station.statusAsserted = true ∧ t.station.faultCode = 0
    ∧ t.station.record = none ∧ t.station.figures = none ∧ t.station.snapshot = none
    ∧ t.clock.linkClock = 0 ∧ t.clock.tickCount = 0 ∧ t.clock.peers = [] ∧ t.clock.beaconTimer = none
    ∧ t.clock.beaconDue = false ∧ t.link.lineState = .off ∧ t.link.queue = [] ∧ t.link.rxBuffer = [] ∧ t.link.rxBits = [] ∧ t.link.failures = 0
    ∧ t.link.linkLost = false ∧ t.link.recessiveRun = 0 ∧ t.link.dominantRun = 0
    ∧ t.store.calls = [] ∧ t.store.poolFree = 64 ∧ t.store.intake = .opened
    ∧ t.planner.pan = 0 ∧ t.planner.tilt = 0 ∧ t.planner.motion = none ∧ t.aim.pose = none
    ∧ t.power.granted = 0 ∧ t.power.round = none ∧ t.power.deferred = [] ∧ t.power.reclaim = none
    ∧ t.power.settle = none ∧ t.power.solo = none
    ∧ t.landing.records = [] ∧ t.cover.ownQ = 0 ∧ t.cover.onTarget = false ∧ t.cover.role = none
    ∧ t.cover.restate = none ∧ t.cover.holdoff = none
    ∧ (∀ l ∈ t.cover.lists, l = []) ∧ (∀ r ∈ t.cover.tracks, r.state = .none)
    ∧ t.colour.levels = [0, 0, 0, 0, 0, 0] ∧ t.colour.fade = none ∧ t.colour.thermal = .normal
    ∧ t.colour.lastTemp = none
    ∧ t.drive.axesOn = false ∧ t.drive.lastStatus = none ∧ t.drive.lastEncoders = none
    ∧ t.drive.panHomed = false ∧ t.drive.tiltHomed = false ∧ t.drive.absentCount = 0 ∧ t.drive.panRun = 0
    ∧ t.drive.tiltRun = 0 ∧ t.drive.homing = none
    ∧ t.link.counters = {} ∧ t.clock.counters = {} ∧ t.store.counters = {} ∧ t.aim.counters = {}
    ∧ t.planner.counters = {} ∧ t.power.counters = {} ∧ t.landing.counters = {} ∧ t.cover.counters = {}
    ∧ t.colour.counters = {} ∧ t.drive.counters = {})
    ∧ ∀ s : State, ∃ t : State, exec .resetAsserted s = .next t
    ∧ t.station.mode = .reset ∧ t.station.statusAsserted = true
    ∧ t.link.lineState = .off ∧ t.clock.beaconTimer = none ∧ t.clock.beaconDue = false ∧ t.drive.outFrame = .zero
    ∧ t.outLine = List.replicate 384 false
    ∧ t.cover.role = none ∧ t.aim.pose = none
    ∧ t.pending = s.pending ∧ t.store = s.store ∧ t.planner = s.planner ∧ t.power = s.power ∧ t.landing = s.landing
    ∧ t.colour = s.colour ∧ t.clock.linkClock = s.clock.linkClock ∧ t.clock.tickCount = s.clock.tickCount
    ∧ t.clock.peers = s.clock.peers ∧ t.link.queue = s.link.queue ∧ t.link.counters = s.link.counters

/-- CONFIGURATION_READ_END with a record that fails a stage: UNCONFIGURED, fault code 1 for the checksum and 2 for the
range, the axes out of service, no grant, no figures (R186, R187, R191). That no record is held then, after the read of a
RESTART too, is the model's choice (log 48): R186 says what becomes of a record that passes. -/
def Obligations.FailedReadUnconfigures : Prop :=
  ∀ (s : State) (bytes : List Byte), s.station.mode = .config →
    (checksumOk (recordBytes bytes) = false ∨ recordRangeOk (recordBytes bytes) = false) →
    ∃ t : State, exec (.configurationReadEnd bytes) s = .next t
      ∧ t.station.mode = .unconfigured
      ∧ t.station.faultCode = (if checksumOk (recordBytes bytes) then 2 else 1)
      ∧ t.station.statusAsserted = true ∧ t.station.record = none ∧ t.station.figures = none
      ∧ t.station.ownStation = (if 1 ≤ ((recordBytes bytes).getD 0 0).toNat ∧ ((recordBytes bytes).getD 0 0).toNat ≤ 254
          then (recordBytes bytes).getD 0 0 else 254)
      ∧ t.drive.axesOn = false ∧ t.power.granted = 0 ∧ t.power.settle = none ∧ t.aim.pose = none
      ∧ t.clock.beaconTimer = some 200 ∧ t.link.lineState ≠ .off
      ∧ t.clock.linkClock = s.clock.linkClock ∧ t.clock.tickCount = s.clock.tickCount ∧ t.clock.peers = s.clock.peers
      ∧ t.store = s.store ∧ t.planner = s.planner ∧ t.colour = s.colour ∧ t.pending = s.pending

/-- CONFIGURATION_READ_END after a power-on reset with a record that passes: STARTING, the figures taken, the view settle
timer at 250, and the homing claim's round OPEN with its CLAIM held back (R119, R186, R188). -/
def Obligations.PassedReadStarts : Prop :=
  ∀ (s : State) (bytes : List Byte), s.station.mode = .config → s.station.restarted = false → s.drive.axesOn = false →
    s.power.round = none → s.power.deferred = [] → s.power.solo = none → Quiet s →
    checksumOk (recordBytes bytes) = true → recordRangeOk (recordBytes bytes) = true →
    ∃ t : State, exec (.configurationReadEnd bytes) s = .next t
      ∧ t.station.mode = .starting ∧ t.station.statusAsserted = false
      ∧ t.station.record = some (recordBytes bytes)
      ∧ t.station.figures = some (parseFigures (recordBytes bytes))
      ∧ t.aim.pose = some (parseFigures (recordBytes bytes)).pose
      ∧ t.station.ownStation = (recordBytes bytes).getD 0 0
      ∧ t.power.settle = some 250
      ∧ t.power.round = some ⟨false, (parseFigures (recordBytes bytes)).baseClaim
          + ((parseFigures (recordBytes bytes)).pan.hold + (parseFigures (recordBytes bytes)).tilt.hold)
          + (parseFigures (recordBytes bytes)).homingAllowance, .homing, .homing, true⟩
      ∧ t.power.granted = s.power.granted ∧ t.drive = s.drive ∧ t.planner = s.planner ∧ t.colour = s.colour
      ∧ t.store = s.store ∧ t.cover = s.cover ∧ t.landing = s.landing ∧ t.clock.linkClock = s.clock.linkClock
      ∧ t.clock.tickCount = s.clock.tickCount ∧ t.clock.peers = s.clock.peers ∧ t.pending = s.pending

/-- CONFIGURATION_READ_END after a RESTART with the axes in service and homed: the own granted claim is base claim and both
hold watts, the commanded position of each axis is kept within the new soft limits and goes to the nearer of them from outside,
and no homing claim is asked for (R81, R123, R181, R188). -/
def Obligations.RestartedReadKeepsAxes : Prop :=
  ∀ (s : State) (bytes : List Byte), s.station.mode = .config → s.station.restarted = true → s.drive.axesOn = true →
    s.drive.panHomed = true → s.drive.tiltHomed = true → s.power.round = none → Quiet s →
    checksumOk (recordBytes bytes) = true → recordRangeOk (recordBytes bytes) = true →
    let nearest := fun (least most : Nat) (before after : Int) =>
      (least : Int) ≤ after ∧ after ≤ most ∧ ((least : Int) ≤ before → before ≤ most → after = before)
        ∧ (before < least → after = least) ∧ ((most : Int) < before → after = most)
    ∃ t : State, exec (.configurationReadEnd bytes) s = .next t
      ∧ t.station.mode = .starting ∧ t.station.homingNeeded = false ∧ t.drive = s.drive
      ∧ t.power.granted = (parseFigures (recordBytes bytes)).baseClaim
          + ((parseFigures (recordBytes bytes)).pan.hold + (parseFigures (recordBytes bytes)).tilt.hold)
      ∧ t.power.round = none ∧ t.power.settle = some 250
      ∧ nearest (parseFigures (recordBytes bytes)).panMin (parseFigures (recordBytes bytes)).panMax s.planner.pan t.planner.pan
      ∧ nearest (parseFigures (recordBytes bytes)).tiltMin (parseFigures (recordBytes bytes)).tiltMax s.planner.tilt
          t.planner.tilt
      ∧ t.colour = s.colour ∧ t.store = s.store ∧ t.pending = s.pending

/-! ### The tick -/

/-- TICK outside RESET: the link clock and the tick count advance by one, and the out-frame carries the enables, the
commanded position and the outputs that stood before the tick's own profile and fade steps: in READY and ISOLATED the
levels times the thermal scale over 65536, with emitter enable while that scale is above 0; elsewhere 0. The beacon,
re-claim, view settle and restate timers count down by one, and the homing timer counts up by one (R25, R29, R38, R111,
R119, R150, R166, R168, R171, R173, R180; that the sync comes first within the tick is log 8, that a timer stands at 0, and
the homing timer at 20000, until its command is taken is log 9). In RESET nothing changes (log 37). -/
def Obligations.TickAdvances : Prop :=
  (∀ s : State, s.station.mode = .reset → exec .tick s = .next s)
    ∧ ∀ s : State, s.station.mode ≠ .reset → ∃ t : State, exec .tick s = .next t
      ∧ t.clock.linkClock = s.clock.linkClock + 1 ∧ t.clock.tickCount = s.clock.tickCount + 1
      ∧ t.drive.outFrame.axisEnable = (s.drive.axesOn && decide (0 < s.power.granted))
      ∧ (t.drive.outFrame.homeRequest = true ↔
          s.station.mode = .homing ∧ ¬(s.drive.panHomed = true ∧ s.drive.tiltHomed = true))
      ∧ t.drive.outFrame.pan = s.planner.pan ∧ t.drive.outFrame.tilt = s.planner.tilt
      ∧ (s.station.mode = .ready ∨ s.station.mode = .isolated →
          (t.drive.outFrame.emitterEnable = true ↔ s.colour.thermal ≠ .shutdown)
            ∧ t.drive.outFrame.emitters = s.colour.levels.map (fun l =>
                l * (match s.colour.thermal with
                  | .normal => 65536
                  | .derated => 32768
                  | .shutdown => 0) / 65536))
      ∧ (s.station.mode ≠ .ready → s.station.mode ≠ .isolated →
          t.drive.outFrame.emitterEnable = false ∧ t.drive.outFrame.emitters.length = s.colour.levels.length
            ∧ ∀ e ∈ t.drive.outFrame.emitters, e = 0)
      ∧ t.clock.beaconTimer = s.clock.beaconTimer.map (fun n => n - 1)
      ∧ (t.clock.beaconDue = true ↔ s.clock.beaconDue = true ∨ t.clock.beaconTimer = some 0)
      ∧ t.power.reclaim = s.power.reclaim.map (fun n => n - 1)
      ∧ t.power.settle = s.power.settle.map (fun n => n - 1)
      ∧ t.cover.restate = s.cover.restate.map (fun n => n - 1)
      ∧ t.drive.homing = s.drive.homing.map (fun n => min 20000 (n + 1))
      ∧ (s.planner.motion = none → t.planner = s.planner)
      ∧ (s.colour.fade = none → t.colour = s.colour)
      ∧ t.link = s.link ∧ t.clock.peers = s.clock.peers ∧ t.clock.counters = s.clock.counters ∧ t.store = s.store
      ∧ t.aim = s.aim ∧ t.landing = s.landing ∧ t.station = s.station
      ∧ t.power = { s.power with reclaim := t.power.reclaim, settle := t.power.settle }
      ∧ t.cover = { s.cover with restate := t.cover.restate }
      ∧ t.drive = { s.drive with outFrame := t.drive.outFrame, homing := t.drive.homing }
      ∧ t.notices = s.notices ∧ t.pending = s.pending

/-- The per-tick steps under way, outside RESET. With a segment under way, its t rises by one and the commanded position
becomes the profile's; at D it stands there until SEGMENT_END (log 9). With a fade under way short of its last step, its t
rises by one and each level becomes old + trunc((target - old) × t / F); the last step is marked due and left to
FADE_COMPLETE, the levels standing one tick short (log 9; R82, R84, R161, R162). -/
def Obligations.TickMovesMotionAndFade : Prop :=
  (∀ (s : State) (m : Motion), s.station.mode ≠ .reset → s.planner.motion = some m → m.t < m.d →
      ∃ t : State, exec .tick s = .next t
        ∧ t.planner = { s.planner with
            motion := some { m with t := m.t + 1 }
            pan := profilePosition m.startPan m.endPan m.d m.r (m.t + 1)
            tilt := profilePosition m.startTilt m.endTilt m.d m.r (m.t + 1) })
    ∧ (∀ (s : State) (m : Motion), s.station.mode ≠ .reset → s.planner.motion = some m → m.d ≤ m.t →
      ∃ t : State, exec .tick s = .next t ∧ t.planner = s.planner)
    ∧ (∀ (s : State) (f : Fade), s.station.mode ≠ .reset → s.colour.fade = some f → f.t + 1 < f.length →
      f.old.length = f.target.length →
      ∃ t : State, exec .tick s = .next t
        ∧ t.colour = { s.colour with fade := some { f with t := f.t + 1 }, levels := t.colour.levels }
        ∧ t.colour.levels.length = f.target.length
        ∧ ∀ (i : Nat) (o g : Nat), f.old[i]? = some o → f.target[i]? = some g →
            (t.colour.levels[i]?).map (fun (l : Nat) => (l : Int))
              = some ((o : Int) + (((g : Int) - o) * ((f.t : Int) + 1)).tdiv f.length))
    ∧ ∀ (s : State) (f : Fade), s.station.mode ≠ .reset → s.colour.fade = some f → f.length ≤ f.t + 1 →
      ∃ t : State, exec .tick s = .next t ∧ t.colour = { s.colour with fade := some { f with due := true } }

/-- The profile of one axis starts at the start, ends at the end, and never leaves the stretch between them (R84). -/
def Obligations.ProfileStaysBetweenEnds : Prop :=
  ∀ (a b : Int) (d r t : Nat), 1 ≤ r → 2 * r ≤ d → t ≤ d →
    profilePosition a b d r 0 = a ∧ profilePosition a b d r d = b
      ∧ min a b ≤ profilePosition a b d r t ∧ profilePosition a b d r t ≤ max a b

/-! ### The line -/

/-- LINE_IDLE takes WAIT_IDLE to IDLE with the recessive run at 12, or as it stands when it has passed 12 already;
FRAME_START_BIT takes IDLE to RECEIVING; each touches nothing else (R2, R3; the runs kept at the line's events are log 5).
START_OPPORTUNITY, on an idle line, comes at the next multiple of 12 of the recessive run: the WAITING entry of lowest kind,
earliest in the order of entry, becomes IN_FLIGHT and its frame is the one driven; with no WAITING entry the run goes on to
the opportunity after it (R2, R14, R17, R19, log 5). In another line state each has no effect: that a command whose condition
is not met leaves the state as it stands is the model's choice (log 1). -/
def Obligations.IdleLineStartsFrames : Prop :=
  (∀ s : State, exec .lineIdle s = .next
    (if s.link.lineState = .waitIdle then
      { s with link := { s.link with lineState := .idle, recessiveRun := max 12 s.link.recessiveRun, dominantRun := 0 } }
    else s))
    ∧ (∀ s : State, exec .frameStartBit s = .next
      (if s.link.lineState = .idle then
        { s with
          link := { s.link with
            lineState := .receiving
            rxBuffer := []
            rxBits := []
            recessiveRun := 0
            dominantRun := 1 } }
      else s))
    ∧ (∀ s : State, s.link.lineState ≠ .idle → exec .startOpportunity s = .next s)
    ∧ ∀ (s : State) (n : Nat), s.link.lineState = .idle → 12 ≤ s.link.recessiveRun →
      s.link.recessiveRun ≤ 12 * n → 12 * n < s.link.recessiveRun + 12 →
      (∀ (before after : List TxEntry) (e : TxEntry), QueueInv s →
        s.link.queue = before ++ e :: after → e.inFlight = false →
        (∀ x ∈ before, x.inFlight = false → e.body.kind < x.body.kind) →
        (∀ x ∈ after, x.inFlight = false → e.body.kind ≤ x.body.kind) →
        exec .startOpportunity s = .next
          { s with
            link := { s.link with
              queue := before ++ { e with inFlight := true } :: after
              txFrame := some (s.frameOf e.body)
              lineState := .arbitrating
              recessiveRun := 12 * n } })
      ∧ ((∀ e ∈ s.link.queue, e.inFlight = true) →
        exec .startOpportunity s = .next { s with link := { s.link with recessiveRun := 12 * n + 12 } })

/-- ARBITRATION_LOST: RECEIVING with the bytes and bits sampled, the entry WAITING again with its attempts unchanged, the
loss counted, the consecutive-failure count untouched (R8, R18; that the bits of the byte under way stand beside the buffer
is log 5). -/
def Obligations.ArbitrationLossReturnsEntry : Prop :=
  ∀ (s : State) (fr : Frame) (p : Nat) (before after : List TxEntry) (e : TxEntry),
    s.link.lineState = .arbitrating → s.link.txFrame = some fr →
    arbitrationBit p = true → (lineLevels fr.bytes)[p]? = some true →
    s.link.queue = before ++ e :: after → (∀ x ∈ before ++ after, x.inFlight = false) → e.inFlight = true →
    ∃ t : State, exec (.arbitrationLost p) s = .next t
      ∧ t = { s with link := t.link }
      ∧ t.link.lineState = .receiving ∧ t.link.txFrame = none
      ∧ t.link.rxBuffer = fr.bytes.take (p / 10)
      ∧ t.link.rxBits = ((lineLevels fr.bytes).take p ++ [false]).drop (10 * (p / 10))
      ∧ t.link.queue = before ++ (match e.next with
          | none => { e with inFlight := false }
          | some b => ⟨b, 0, false, none⟩) :: after
      ∧ t.link.counters = { s.link.counters with arbitrationLost := satInc s.link.counters.arbitrationLost }
      ∧ t.link.failures = s.link.failures ∧ t.link.linkLost = s.link.linkLost
      ∧ t.link.receiveMark = s.link.receiveMark ∧ t.link.sendMark = s.link.sendMark

/-- CLASH in an attempt that does not drop its entry: with fewer than three clashed attempts before it and no newer payload
held the attempts rise by one and the entry is WAITING; with a newer payload held, whatever the attempts, that payload is the
entry's, WAITING with attempts 0. The clash is counted, and the line is RECEIVING with the bytes and bits sampled. A start
bit of byte 0 sampled recessive lengthens the recessive run by one; after any other clash the run is that of the levels
sampled (R2, R9, R18; that the bits of the byte under way stand beside the buffer is log 5). -/
def Obligations.ClashRetries : Prop :=
  ∀ (s : State) (fr : Frame) (p : Nat) (before after : List TxEntry) (e : TxEntry),
    (s.link.lineState = .arbitrating ∨ s.link.lineState = .sending) → s.link.txFrame = some fr →
    p < (lineLevels fr.bytes).length → ¬(arbitrationBit p = true ∧ (lineLevels fr.bytes)[p]? = some true) →
    s.link.queue = before ++ e :: after → (∀ x ∈ before, x.inFlight = false) → e.inFlight = true →
    (e.next = none → e.attempts < 3) →
    ∃ t : State, exec (.clash p) s = .next t
      ∧ t = { s with link := t.link }
      ∧ t.link.lineState = .receiving ∧ t.link.txFrame = none ∧ t.link.rxBuffer = fr.bytes.take (p / 10)
      ∧ t.link.rxBits
          = ((lineLevels fr.bytes).take p ++ [!(lineLevels fr.bytes).getD p true]).drop (10 * (p / 10))
      ∧ t.link.queue = before ++ (match e.next with
          | none => { e with attempts := e.attempts + 1, inFlight := false }
          | some b => ⟨b, 0, false, none⟩) :: after
      ∧ t.link.recessiveRun = (if p = 0 then s.link.recessiveRun + 1
          else trailingRun true ((lineLevels fr.bytes).take p ++ [!(lineLevels fr.bytes).getD p true]))
      ∧ t.link.counters = { s.link.counters with clash := satInc s.link.counters.clash }
      ∧ t.link.failures = s.link.failures ∧ t.link.linkLost = s.link.linkLost

/-- TRANSMISSION_SUCCESS of an attempt on the line: the line is WAIT_IDLE with nothing received, the consecutive-failure
count is 0, and the frame is counted sent. With a REPORT sent and the link not lost, its entry leaves the queue, or takes the
newer payload it held and is WAITING with attempts 0, and nothing else changes. With a COVER TAKE of this station sent, its
role a CANDIDATE for that target with a quality above 0, and fewer than C HOLDER entries in a list without this station: the
own entry joins the list, the role is HOLDER, the fade to its colour at scale 65536 starts, and the restate timer has 200
ticks to run (R3, R10, R18, R145, R150, R160; the runs are those of the frame's last levels, log 5). -/
def Obligations.SuccessRemovesEntry : Prop :=
  ∀ (s : State) (fr : Frame),
    (s.link.lineState = .arbitrating ∨ s.link.lineState = .sending) → s.link.txFrame = some fr →
    (∃ t : State, exec .transmissionSuccess s = .next t
      ∧ t.link.lineState = .waitIdle ∧ t.link.txFrame = none ∧ t.link.rxBuffer = [] ∧ t.link.failures = 0
      ∧ t.link.counters.framesSent = satInc s.link.counters.framesSent
      ∧ t.clock.tickCount = s.clock.tickCount ∧ t.pending = s.pending)
      ∧ ∀ (before after : List TxEntry) (e : TxEntry), Quiet s → s.link.linkLost = false →
        s.link.queue = before ++ e :: after → (∀ x ∈ before, x.inFlight = false) → e.inFlight = true →
        let sent : LinkState :=
          { s.link with
            lineState := .waitIdle
            recessiveRun := trailingRun true (lineLevels fr.bytes)
            dominantRun := trailingRun false (lineLevels fr.bytes)
            rxBuffer := []
            rxBits := []
            txFrame := none
            failures := 0
            queue := before ++ (match e.next with
              | none => after
              | some b => ⟨b, 0, false, none⟩ :: after)
            counters := { s.link.counters with framesSent := satInc s.link.counters.framesSent } }
        (∀ f : ReportFields, fr.body = .report f → exec .transmissionSuccess s = .next { s with link := sent })
          ∧ ∀ (g : Figures) (f : CoverFields) (r : Role) (l : List Holder),
            fr = ⟨s.station.ownStation, .cover f⟩ → fr.wf = true → f.action = 0 → s.station.mode.appliesCover = true →
            s.station.figures = some g → s.cover.role = some r → r.phase = .candidate → r.target = f.target.toNat →
            r.count = f.count.toNat → 0 < s.cover.ownQ → s.cover.lists[r.target]? = some l →
            (∀ x ∈ l, x.station ≠ s.station.ownStation) → (l.filter Holder.isHolder).length < r.count →
            exec .transmissionSuccess s = .next
              { s with
                link := sent
                cover := { s.cover with
                  role := some { r with phase := .holder }
                  lists := s.cover.lists.set r.target
                    (l ++ [⟨s.station.ownStation, f.q.toNat, .holder, s.clock.tickCount⟩])
                  restate := some 200 }
                colour :=
                  if r.colour.fade = 0 then
                    { s.colour with levels := colourTarget g r.colour 65536, fade := none }
                  else
                    { s.colour with
                      fade := some ⟨s.colour.levels, colourTarget g r.colour 65536, r.colour.fade, 0, false, 65536, .role⟩ } }

/-- The readback of the own CLAIM that carries the request of an OPEN round, with solo mode OFF, the link not lost and
nothing deferred. Refused, the round goes AWAITING for 200 ticks, the refusal is counted, and every other block stands.
Granted, the round is NONE, the own granted claim is the request, and the round's purpose moves: a CLAIMING call is PLANNED,
and for a sync call of a group whose planned lead exceeds its requested D an OFFER with that landing joins the queue, counted;
a WAITING COLOUR call runs with its fade at the plan's dim scale; a WAITING move runs with its first segment started; a
CLAIMING role is CANDIDATE with that follow claim; STARTING goes to HOMING, the position seeded from the encoders within
the soft limits, the axes in service, the homing timer at 0 (R52, R95, R106, R116, R122, R129, R141, R174, R188; the counter of a
starting segment stands within its 16 bits, as CountsKept keeps it). -/
def Obligations.RoundsReachTheirPurpose : Prop :=
  ∀ (s : State) (g : Figures) (st : Byte) (f : ClaimFields) (r : Round),
    Quiet s → (s.link.lineState = .arbitrating ∨ s.link.lineState = .sending) →
    s.link.txFrame = some ⟨st, .claim f⟩ → Frame.wf ⟨st, .claim f⟩ = true → s.link.linkLost = false →
    s.power.solo = none → s.power.deferred = [] → s.station.figures = some g →
    s.power.round = some r → r.awaiting = false → r.held = false →
    r.request = f.requested.toNat → r.reason.code = f.reason.toNat →
    let w := f.requested.toNat
    let granted := w ≤ s.power.granted
      ∨ w + ((s.clock.peers.filter (fun p => p.circuit == g.circuit)).map Peer.granted).sum ≤ g.budget
    let power : PowerState := { s.power with granted := w, round := none, reclaim := none }
    ∃ t : State, exec .transmissionSuccess s = .next t
      ∧ (¬granted →
          t = { s with
            link := t.link
            power := { s.power with
              round := some { r with awaiting := true }
              reclaim := some 200
              counters := { s.power.counters with ownRefused := satInc s.power.counters.ownRefused } } })
      ∧ (∀ c : CallRecord, granted → r.purpose = .move c.callId → s.store.calls = [c] → c.state = .claiming →
          s.landing.records = [] →
          t = { s with
            link := t.link
            power := power
            store := { s.store with calls := [{ c with state := .planned }] } })
      ∧ (∀ (c : CallRecord) (l : LandingRecord) (grp d lead n : Nat) (rest : List TxEntry), granted →
          r.purpose = .move c.callId → s.store.calls = [c] → c.state = .claiming → s.landing.records = [l] →
          l.callId = c.callId → l.phase = .opened → l.requestedD = some d → l.plannedLead = some lead →
          s.link.queue = ⟨.claim f, n, true, none⟩ :: rest →
          let body := TxBody.offer ⟨c.callId, BitVec.ofNat 8 grp, l.goTime + BitVec.ofNat 32 lead⟩
          let k := s.landing.counters
          let offers := decide (l.scope = .group grp ∧ d < lead)
          (∀ x, l.scope = .group x → x = grp) → HasRoom body rest →
          t = { s with
            link := t.link
            power := power
            landing := { s.landing with counters := if offers then { k with offersMade := satInc k.offersMade } else k }
            store := { s.store with calls := [{ c with state := .planned }] } }
          ∧ t.link.queue = if offers then queued body rest else rest)
      ∧ (∀ (c : CallRecord) (k : ColourPart) (pl : Plan), granted → r.purpose = .move c.callId → s.store.calls = [c] →
          c.state = .waiting → c.mode = .colour → c.colour = some k → 0 < k.fade → c.plan = some pl → c.chain = [] →
          t = { s with
            link := t.link
            power := power
            store := { s.store with calls := [{ c with state := .running, waitStart := none }] }
            colour := { s.colour with
              fade := some ⟨s.colour.levels, colourTarget g k pl.scale, k.fade, 0, false, pl.scale, .call c.callId⟩ } })
      ∧ (∀ (c : CallRecord) (seg : PoolSegment) (pl : Plan) (sp : SegPlan), granted → r.purpose = .move c.callId →
          s.store.calls = [c] → s.landing.records = [] → c.state = .waiting → c.mode = .angles → c.colour = none →
          c.chain = [seg] → seg.state = .queued → seg.index = 0 → c.plan = some pl → pl.segs = [sp] →
          let v := travel s.planner.pan s.planner.tilt sp.endPan sp.endTilt
          checksOk g v sp.d sp.r = true → g.baseClaim + segmentClaim g v sp.d sp.r + pl.emitterTerm ≤ w →
          s.planner.counters.ceiling ≤ 65535 →
          t = { s with
            link := t.link
            power := power
            store := { s.store with
              calls := [{ c with state := .running, waitStart := none, chain := [{ seg with state := .active }] }] }
            planner := { s.planner with
              motion := some ⟨s.planner.pan, s.planner.tilt, sp.endPan, sp.endTilt, sp.d, sp.r, 0,
                segmentClaim g v sp.d sp.r, .call c.callId⟩ } })
      ∧ (∀ ro : Role, granted → r.purpose = .follow → s.cover.role = some ro → ro.phase = .claiming →
          t = { s with
            link := t.link
            power := power
            cover := { s.cover with role := some { ro with phase := .candidate, claim := w } } })
      ∧ (granted → r.purpose = .homing → s.station.mode = .starting →
          t = { s with
            link := t.link
            power := power
            clock := { s.clock with beaconTimer := some 200 }
            planner := { s.planner with
              pan := clampInt g.panMin g.panMax ((s.drive.lastEncoders.map Prod.fst).getD s.planner.pan)
              tilt := clampInt g.tiltMin g.tiltMax ((s.drive.lastEncoders.map Prod.snd).getD s.planner.tilt) }
            drive := { s.drive with axesOn := true, homing := some 0 }
            station := { s.station with mode := .homing, statusAsserted := false } })

/-- The link-lost condition. A drop that raises the consecutive-failure count from 7 to 8 sets it, counted once, and takes
READY to ISOLATED with fault code 9 and solo mode ON; a drop at 8 with the condition SET counts no loss. While it is SET, a
REPORT from another station sets the receive mark and a transmission success the send mark, and the second of the two ends
it. Ended in ISOLATED, the station is READY with solo mode OFF and the own granted claim at the larger of the draw estimate
and the plan claim of a PLANNED call, or the follow claim granted to a role; elsewhere no other block is touched
(R18, R20, R22, R118, R122, R184, R189). -/
def Obligations.LinkLostAndRecovered : Prop :=
  (∀ (s : State) (fr : Frame) (p : Nat) (before after : List TxEntry) (e : TxEntry), Quiet s →
      (s.link.lineState = .arbitrating ∨ s.link.lineState = .sending) → s.link.txFrame = some fr →
      p < (lineLevels fr.bytes).length → ¬(arbitrationBit p = true ∧ (lineLevels fr.bytes)[p]? = some true) →
      s.link.queue = before ++ e :: after → (∀ x ∈ before, x.inFlight = false) → e.inFlight = true →
      e.next = none → e.attempts = 3 →
      ∃ t : State, exec (.clash p) s = .next t
        ∧ (s.link.failures = 7 → s.link.linkLost = false →
            t.link.failures = 8 ∧ t.link.linkLost = true
              ∧ t.link.counters.linkLostCount = satInc s.link.counters.linkLostCount
              ∧ (s.station.mode = .ready → t.station.mode = .isolated ∧ t.station.faultCode = 9
                  ∧ t.station.statusAsserted = false ∧ t.power.solo.isSome = true)
              ∧ (s.station.mode ≠ .ready →
                  t.station = s.station ∧ t.store = s.store ∧ t.clock = s.clock ∧ t.planner = s.planner))
        ∧ (s.link.failures = 8 → s.link.linkLost = true →
            t.link.failures = 8 ∧ t.link.linkLost = true
              ∧ t.link.counters.linkLostCount = s.link.counters.linkLostCount))
    ∧ (∀ (s : State) (st : Byte) (f : ReportFields), Quiet s → Listening ⟨st, .report f⟩ s →
      Frame.wf ⟨st, .report f⟩ = true → st ≠ s.station.ownStation → s.link.linkLost = true →
      let a := arrived ⟨st, .report f⟩ s
      (s.link.sendMark = false →
          exec (.report st f) s = .next { a with link := { a.link with linkLost := true, receiveMark := true } })
        ∧ (s.link.sendMark = true → s.station.mode ≠ .isolated →
          exec (.report st f) s = .next
            { a with link := { a.link with linkLost := false, receiveMark := false, sendMark := false } }))
    ∧ (∀ (s : State) (st : Byte) (f : ReportFields), Quiet s →
      (s.link.lineState = .arbitrating ∨ s.link.lineState = .sending) → s.link.txFrame = some ⟨st, .report f⟩ →
      s.link.linkLost = true →
      ∃ t : State, exec .transmissionSuccess s = .next t
        ∧ (s.link.receiveMark = false → t.link.linkLost = true ∧ t.link.sendMark = true ∧ t.station.mode = s.station.mode)
        ∧ (s.link.receiveMark = true → t.link.linkLost = false ∧ t.link.receiveMark = false ∧ t.link.sendMark = false
            ∧ (s.station.mode = .isolated → t.station.mode = .ready)))
    ∧ ∀ (s : State) (g : Figures) (st : Byte) (f : ReportFields), Quiet s → Listening ⟨st, .report f⟩ s →
      Frame.wf ⟨st, .report f⟩ = true → st ≠ s.station.ownStation → s.link.linkLost = true → s.link.sendMark = true →
      s.station.mode = .isolated → s.station.figures = some g → s.power.round = none → s.planner.motion = none →
      s.colour.fade = none → s.drive.axesOn = true → 0 < s.power.granted →
      let w := emitterClaim g.emitterWatts s.colour.levels
      let still := g.baseClaim + (g.pan.hold + g.tilt.hold) + w
      ∃ t : State, exec (.report st f) s = .next t
        ∧ t.station = { s.station with mode := .ready, statusAsserted := false } ∧ t.power.solo = none
        ∧ t.link.linkLost = false ∧ t.clock.beaconTimer = some 200 ∧ t.colour = s.colour ∧ t.drive = s.drive
        ∧ (s.store.calls = [] → s.cover.role = none → t.power.granted = still)
        ∧ (∀ (c : CallRecord) (pl : Plan), s.store.calls = [c] → c.state = .planned → c.plan = some pl →
            s.cover.role = none → t.power.granted = max still pl.planClaim ∧ t.store = s.store)
        ∧ ∀ (c : CallRecord) (ro : Role), s.store.calls = [c] → c.mode = .follow → c.state = .running →
            c.plan = none → s.cover.role = some ro → ro.phase ≠ .claiming →
            t.power.granted = max (g.baseClaim + g.followAllowance + w) ro.claim ∧ t.cover = s.cover

/-- CLASH with three clashed attempts before it and no newer payload held: the entry is removed, the drop counted, the
consecutive-failure count raised; a dropped CLAIM that carries the request of an OPEN round puts it AWAITING for 200 ticks
(R18, R20, R112). -/
def Obligations.FourthClashDrops : Prop :=
  ∀ (s : State) (fr : Frame) (p : Nat) (before after : List TxEntry) (e : TxEntry),
    Quiet s → (s.link.lineState = .arbitrating ∨ s.link.lineState = .sending) → s.link.txFrame = some fr →
    p < (lineLevels fr.bytes).length → ¬(arbitrationBit p = true ∧ (lineLevels fr.bytes)[p]? = some true) →
    s.link.queue = before ++ e :: after → (∀ x ∈ before, x.inFlight = false) → e.inFlight = true →
    e.next = none → e.attempts = 3 → s.link.failures < 7 →
    ∃ t : State, exec (.clash p) s = .next t
      ∧ t.link.queue = before ++ after ∧ t.link.failures = s.link.failures + 1
      ∧ t.link.linkLost = s.link.linkLost ∧ t.link.lineState = .receiving
      ∧ t.link.counters = { s.link.counters with
          clash := satInc s.link.counters.clash, transmitDropped := satInc s.link.counters.transmitDropped }
      ∧ (∀ (f : ClaimFields) (r : Round), e.body = .claim f → s.power.round = some r → r.awaiting = false →
          r.held = false → r.request = f.requested.toNat → r.reason.code = f.reason.toNat →
          t.power.round = some { r with awaiting := true } ∧ t.power.reclaim = some 200
            ∧ t.power.granted = s.power.granted)
      ∧ ((∀ f, e.body ≠ .claim f) → t.power = s.power)
      ∧ t.clock = s.clock ∧ t.store = s.store ∧ t.planner = s.planner ∧ t.colour = s.colour ∧ t.drive = s.drive
      ∧ t.station = s.station ∧ t.pending = s.pending

/-- The readback of the own CLAIM while solo mode is OFF: at or below the own granted claim, or within the budget with the
others on the own circuit, it sets the own granted claim; refused, it leaves it and counts, and an OPEN round that it
carries goes AWAITING for 200 ticks (R105, R106). -/
def Obligations.OwnClaimReadback : Prop :=
  ∀ (s : State) (g : Figures) (st : Byte) (f : ClaimFields) (r : Round),
    Quiet s → (s.link.lineState = .arbitrating ∨ s.link.lineState = .sending) →
    s.link.txFrame = some ⟨st, .claim f⟩ → Frame.wf ⟨st, .claim f⟩ = true → s.link.linkLost = false →
    s.power.solo = none → s.power.deferred = [] → s.station.figures = some g →
    s.power.round = some r → r.awaiting = false → r.held = false → r.purpose = .lowering →
    r.request = f.requested.toNat → r.reason.code = f.reason.toNat →
    ∃ t : State, exec .transmissionSuccess s = .next t
      ∧ (f.requested.toNat ≤ s.power.granted
          ∨ f.requested.toNat + ((s.clock.peers.filter (fun p => p.circuit == g.circuit)).map Peer.granted).sum ≤ g.budget →
          t.power.granted = f.requested.toNat ∧ t.power.round = none ∧ t.power.counters = s.power.counters)
      ∧ (¬(f.requested.toNat ≤ s.power.granted
          ∨ f.requested.toNat + ((s.clock.peers.filter (fun p => p.circuit == g.circuit)).map Peer.granted).sum
              ≤ g.budget) →
          t.power.granted = s.power.granted ∧ t.power.round = some { r with awaiting := true }
            ∧ t.power.reclaim = some 200
            ∧ t.power.counters = { s.power.counters with ownRefused := satInc s.power.counters.ownRefused })
      ∧ t.clock = s.clock ∧ t.store = s.store ∧ t.planner = s.planner ∧ t.cover = s.cover ∧ t.colour = s.colour
      ∧ t.drive = s.drive ∧ t.station = s.station ∧ t.landing = s.landing ∧ t.pending = s.pending

/-- STUCK_LINE in any line state but OFF: the link-lost condition is SET, counted if it was CLEAR, in every mode; outside
READY nothing else changes but the marks and the runs. In OFF it has no effect (R21). -/
def Obligations.StuckLineSetsLinkLost : Prop :=
  (∀ s : State, s.link.lineState = .off → exec .stuckLine s = .next s)
    ∧ (∀ s : State, s.link.lineState ≠ .off → ∃ t : State, exec .stuckLine s = .next t
      ∧ t.link.linkLost = true
      ∧ t.link.counters.linkLostCount
          = (if s.link.linkLost then s.link.counters.linkLostCount else satInc s.link.counters.linkLostCount)
      ∧ t.link.lineState = s.link.lineState ∧ t.clock.linkClock = s.clock.linkClock ∧ t.pending = s.pending)
    ∧ ∀ s : State, Quiet s → s.link.lineState ≠ .off → s.station.mode ≠ .ready →
      exec .stuckLine s = .next
        (if s.link.linkLost then { s with link := { s.link with dominantRun := 2000, recessiveRun := 0 } }
        else
          { s with
            link := { s.link with
              dominantRun := 2000
              recessiveRun := 0
              linkLost := true
              receiveMark := false
              sendMark := false
              counters := { s.link.counters with linkLostCount := satInc s.link.counters.linkLostCount } } })

/-- A loss of the link in READY: ISOLATED with fault code 9 and the status line RELEASED, solo mode ON with the own granted
claim at the smaller of the still draw and the solo allowance, and no round. With the still draw above the allowance, the least
of the dim steps 1 to 16 whose claim comes within it is the solo dim step, every level is scaled by its S at once, and the solo
dim is counted (R22, R120, R165, R184, R189). -/
def Obligations.LinkLossIsolates : Prop :=
  ∀ (s : State) (g : Figures), Quiet s → s.link.lineState ≠ .off → s.station.mode = .ready → s.link.linkLost = false →
    s.station.figures = some g → s.store.calls = [] → s.cover.role = none → s.colour.fade = none →
    s.drive.axesOn = true → 0 < s.power.granted →
    ∃ t : State, exec .stuckLine s = .next t
      ∧ t.station.mode = .isolated ∧ t.station.faultCode = 9 ∧ t.station.statusAsserted = false
      ∧ t.link.linkLost = true ∧ t.power.round = none ∧ t.power.solo.isSome = true
      ∧ t.power.granted
          = min (g.baseClaim + (g.pan.hold + g.tilt.hold) + emitterClaim g.emitterWatts s.colour.levels) g.soloAllowance
      ∧ (g.baseClaim + (g.pan.hold + g.tilt.hold) + emitterClaim g.emitterWatts s.colour.levels ≤ g.soloAllowance →
          t.power.solo = some 0 ∧ t.colour = s.colour ∧ t.power.counters = s.power.counters)
      ∧ (∀ m : Nat,
          let scaled := fun (k : Nat) => s.colour.levels.map (fun l => l * (65536 - 4096 * k) / 65536)
          let claim := fun (k : Nat) => g.baseClaim + (g.pan.hold + g.tilt.hold) + emitterClaim g.emitterWatts (scaled k)
          g.soloAllowance < g.baseClaim + (g.pan.hold + g.tilt.hold) + emitterClaim g.emitterWatts s.colour.levels →
          1 ≤ m → m ≤ 16 → claim m ≤ g.soloAllowance → (∀ k, 1 ≤ k → k < m → g.soloAllowance < claim k) →
          t.power.solo = some m ∧ t.colour = { s.colour with levels := scaled m }
            ∧ t.power.counters = { s.power.counters with soloDims := satInc s.power.counters.soloDims })
      ∧ t.planner = s.planner ∧ t.drive = s.drive ∧ t.pending = s.pending

/-- FRAME_DISCARD: the first check that fails counts its one counter, the line goes to WAIT_IDLE and the buffer empties; no
block, no peer entry and no queue entry is touched (R4, R5, R6, R7). -/
def Obligations.DiscardCountsOneReason : Prop :=
  ∀ (s : State) (bytes : List Byte) (fault : Option SymbolFault) (r : DiscardReason) (n : Nat),
    s.link.lineState = .receiving → s.link.begins bytes fault = true →
    judge s.station.ownStation bytes fault = .discard r n →
    ∃ t : State, exec (.frameDiscard bytes fault) s = .next t
      ∧ t = { s with link := t.link }
      ∧ t.link.lineState = .waitIdle ∧ t.link.rxBuffer = [] ∧ t.link.rxBits = [] ∧ t.link.queue = s.link.queue
      ∧ t.link.failures = s.link.failures ∧ t.link.linkLost = s.link.linkLost
      ∧ t.link.receiveMark = s.link.receiveMark ∧ t.link.sendMark = s.link.sendMark
      ∧ t.link.counters = (match r with
          | .symbolError => { s.link.counters with symbolError := satInc s.link.counters.symbolError }
          | .unknownKind => { s.link.counters with unknownKind := satInc s.link.counters.unknownKind }
          | .badStation => { s.link.counters with badStation := satInc s.link.counters.badStation }
          | .badLength => { s.link.counters with badLength := satInc s.link.counters.badLength }
          | .badCrc => { s.link.counters with badCrc := satInc s.link.counters.badCrc }
          | .badField => { s.link.counters with badField := satInc s.link.counters.badField }
          | .ownNumber => { s.link.counters with ownNumberHeard := satInc s.link.counters.ownNumberHeard })

/-- Every well-formed frame, written as bytes with its check value, is read back by the checks of an arriving frame as that
very frame; carrying the own number it is discarded for that, and with its high check byte changed for its check value
(R5, R7, R11, R24). -/
def Obligations.FramesReadBack : Prop :=
  ∀ (fr : Frame) (own : Byte), fr.wf = true →
    (fr.station ≠ own → judge own fr.bytes none = .good fr)
      ∧ (fr.station = own → judge own fr.bytes none = .discard .ownNumber fr.bytes.length)
      ∧ ∀ x : Byte, x ≠ 0 →
          judge own (fr.checked ++ [(be16 (checkValue fr.checked)).getD 0 0 ^^^ x, (be16 (checkValue fr.checked)).getD 1 0])
            none = .discard .badCrc fr.bytes.length

/-! ### Arrivals -/

/-- REPORT: the peer-entry stage alone (R12, R31). TRACK with no role on its target, in a mode of the cover unit: the record
takes the position, the stamp and the tick count, and is TRACKED; in UNCONFIGURED it is ignored (R138). -/
def Obligations.ReportAndTrackRecorded : Prop :=
  (∀ (s : State) (st : Byte) (f : ReportFields), Arrives ⟨st, .report f⟩ s →
    exec (.report st f) s = .next (arrived ⟨st, .report f⟩ s))
    ∧ ∀ (s : State) (st : Byte) (f : TrackFields), Arrives ⟨st, .track f⟩ s →
    (∀ r, s.cover.role = some r → r.target ≠ f.target.toNat) →
    exec (.track st f) s = .next
      (if s.station.mode = .reset ∨ s.station.mode = .config ∨ s.station.mode = .unconfigured then
        arrived ⟨st, .track f⟩ s
      else
        { arrived ⟨st, .track f⟩ s with
          cover := { s.cover with
            tracks := s.cover.tracks.set f.target.toNat
              ⟨.tracked, f.x, f.y, f.z, f.stamp, s.clock.tickCount⟩ } })

/-- STOP with RESTART clear, addressed to this station. In a mode that takes intake every call ends CUT and frees its
segments, the intake condition follows FREEZE, BLACKOUT darkens, the segment under way stops where it stands and the head
holds, and outside solo mode a round stands for the idle claim that then holds. In UNCONFIGURED and FAULTED the intake
condition follows FREEZE and BLACKOUT darkens, and nothing else changes (R45, R59, R60, R61, R98, R113, R164). Of the round
for the idle claim, that it is made in HOMING as elsewhere is the model's choice (log 13), that it asks in STARTING for more
than the 0 W held then is the model's choice (log 44), and that a STOP which ends no call makes it too is read from R113
(DEDUCED, log 15). -/
def Obligations.StopEndsEveryCall : Prop :=
  ∀ (s : State) (st : Byte) (f : StopFields), Arrives ⟨st, .stop f⟩ s → f.flags.getLsbD 2 = false →
    ((f.scopeType = 0 ∧ s.ownGroups.getLsbD f.scopeValue.toNat = true)
      ∨ (f.scopeType = 1 ∧ f.scopeValue = s.station.ownStation)) →
    (StoreInv s → OwnerInv s → s.station.mode.takesIntake = true → (s.power.solo = none ∨ s.station.mode = .isolated) →
      ∃ t : State, exec (.stop st f) s = .next t
        ∧ t.store.calls = [] ∧ t.store.poolFree = 64
        ∧ t.store.intake = (if f.flags.getLsbD 0 then .held else .opened)
        ∧ t.store.counters.cut = s.store.calls.foldl (fun n _ => satInc n) s.store.counters.cut
        ∧ t.planner.motion = none ∧ t.planner.pan = s.planner.pan ∧ t.planner.tilt = s.planner.tilt
        ∧ t.cover.role = none
        ∧ (f.flags.getLsbD 1 = true → t.colour.levels = [0, 0, 0, 0, 0, 0] ∧ t.colour.fade = none
            ∧ t.colour.counters.blackouts = satInc s.colour.counters.blackouts)
        ∧ (∀ g, s.station.figures = some g → s.power.solo = none →
            t.power.granted = s.power.granted ∧ t.power.round.map Round.purpose = some .lowering
              ∧ t.power.round.map Round.request = some (g.baseClaim + (g.pan.hold + g.tilt.hold)
                  + emitterClaim g.emitterWatts t.colour.levels))
        ∧ t.station.mode = s.station.mode ∧ t.clock.linkClock = s.clock.linkClock
        ∧ t.clock.tickCount = s.clock.tickCount ∧ t.pending = s.pending)
      ∧ (s.station.mode = .unconfigured ∨ s.station.mode = .faulted →
        let a := arrived ⟨st, .stop f⟩ s
        exec (.stop st f) s = .next
          { a with
            store := { s.store with intake := if f.flags.getLsbD 0 then .held else .opened }
            colour :=
              if f.flags.getLsbD 1 then
                { s.colour with
                  levels := [0, 0, 0, 0, 0, 0]
                  fade := none
                  counters := { s.colour.counters with blackouts := satInc s.colour.counters.blackouts } }
              else s.colour })

/-- STOP with RESTART to the own station number: CONFIG with the status line ASSERTED and the line OFF; queue, tables, lists
and snapshot emptied, fault code 0, solo mode OFF; clock, tick count, axes-on flag, homed record, last words, thermal
state, last temperature, commanded position and own granted claim kept, and every counter but for what the STOP itself counts
(R3, R23, R60, R191). Given in solo mode, the STOP first lowers the own granted claim to the idle claim by local decision,
a round it abandons taking that figure too (R60, R113, R115, R121); that a STOP which ends no call lowers all the same is
DEDUCED (log 15). The figures stand through CONFIG (DEDUCED, log 10). -/
def Obligations.RestartKeepsAndClears : Prop :=
  ∀ (s : State) (st : Byte) (f : StopFields), Arrives ⟨st, .stop f⟩ s →
    f.scopeType = 1 → f.scopeValue = s.station.ownStation → f.flags.getLsbD 2 = true →
    ∃ t : State, exec (.stop st f) s = .next t
      ∧ t.station.mode = .config ∧ t.station.statusAsserted = true ∧ t.station.faultCode = 0
      ∧ t.station.snapshot = none ∧ t.link.lineState = .off ∧ t.link.queue = [] ∧ t.link.failures = 0
      ∧ t.link.linkLost = false ∧ t.clock.peers = [] ∧ t.clock.beaconTimer = none ∧ t.clock.beaconDue = false
      ∧ t.store.calls = [] ∧ t.store.poolFree = 64 ∧ t.store.intake = .opened ∧ t.landing.records = []
      ∧ (∀ l ∈ t.cover.lists, l = []) ∧ (∀ r ∈ t.cover.tracks, r.state = .none) ∧ t.cover.role = none
      ∧ t.colour.levels = [0, 0, 0, 0, 0, 0] ∧ t.colour.fade = none ∧ t.drive.homing = none
      ∧ t.power.round = none ∧ t.power.solo = none
      ∧ t.clock.linkClock = s.clock.linkClock ∧ t.clock.tickCount = s.clock.tickCount
      ∧ t.colour.thermal = s.colour.thermal ∧ t.drive.panHomed = s.drive.panHomed
      ∧ t.drive.tiltHomed = s.drive.tiltHomed ∧ t.drive.axesOn = s.drive.axesOn
      ∧ t.planner.pan = s.planner.pan ∧ t.planner.tilt = s.planner.tilt ∧ t.planner.motion = none
      ∧ t.colour.lastTemp = s.colour.lastTemp ∧ t.drive.lastStatus = s.drive.lastStatus
      ∧ t.drive.lastEncoders = s.drive.lastEncoders ∧ t.station.figures = s.station.figures
      ∧ (s.power.solo = none → t.power.granted = s.power.granted)
      ∧ (∀ g, s.power.solo.isSome = true → s.station.mode = .isolated → s.station.figures = some g →
          s.cover.role = none → f.flags.getLsbD 1 = false →
          t.power.granted = g.baseClaim + (g.pan.hold + g.tilt.hold) + emitterClaim g.emitterWatts s.colour.levels)
      ∧ t.aim.counters = s.aim.counters ∧ t.planner.counters = s.planner.counters
      ∧ t.clock.counters = s.clock.counters ∧ t.landing.counters = s.landing.counters
      ∧ t.drive.counters = s.drive.counters
      ∧ t.colour.counters = (if f.flags.getLsbD 1 then
          { s.colour.counters with blackouts := satInc s.colour.counters.blackouts } else s.colour.counters)
      ∧ (s.store.calls = [] → s.cover.role = none → s.link.queue.length < 12 →
          t.store.counters = s.store.counters ∧ t.power.counters = s.power.counters
            ∧ t.cover.counters = s.cover.counters
            ∧ t.link.counters = { s.link.counters with framesReceived := satInc s.link.counters.framesReceived })
      ∧ t.pending = s.pending

/-- CLAIM from another station. With an entry held, which takes the circuit of the frame, a change putting its claim to 0:
on another circuit no test; on the own circuit granted at or below the claim held or within the budget with the others and
the own claim, and recorded; else refused, counted, and the claim as it stood. With no entry, one is created in its place
in a table with room; in a full one the longest-silent entry on another circuit is evicted for a sender on the own
circuit, LIVE ones leaving the holder lists, and else "peer table full" is counted. A grant below the claim held is a
headroom rise: it ends the wait of a lowering or of a FOLLOW round, whose CLAIM is offered again, and leaves that of
homing (R32, R33, R36, R105, R110, R111). -/
def Obligations.PeerClaimTested : Prop :=
  ∀ (s : State) (g : Figures) (st : Byte) (f : ClaimFields), Arrives ⟨st, .claim f⟩ s →
    s.station.mode.testsClaims = true → s.station.figures = some g →
    let a := arrived ⟨st, .claim f⟩ s
    let w := f.requested.toNat
    let own := f.circuit.toNat = g.circuit
    let fits := w + (othersOn g st s.clock.peers + s.power.granted) ≤ g.budget
    let put := fun (l : List Peer) (k : ClockCounters) =>
      ({ a with clock := { s.clock with peers := l, counters := k } } : State)
    let refused : PowerState :=
      { s.power with counters := { s.power.counters with peerRefused := satInc s.power.counters.peerRefused } }
    let new : Peer := ⟨st, .other, f.circuit.toNat, 0, if own ∧ fits then w else 0, .live, s.clock.tickCount⟩
    let power := if own ∧ ¬fits ∧ w ≠ 0 then refused else s.power
    (∀ p : Peer, s.clock.peers.find? (fun q => q.station == st) = some p → (∀ q ∈ s.clock.peers, q.station = st → q = p) →
      let write := fun (n : Nat) =>
        s.clock.peers.map (fun q =>
          if q.station == st then
            { q with state := .live, lastHeard := s.clock.tickCount, circuit := f.circuit.toNat, granted := n }
          else q)
      ((∀ r, s.power.round = some r → r.awaiting = false) →
        (p.circuit = f.circuit.toNat →
          exec (.claim st f) s = .next
            (if ¬own then a
            else if w ≤ p.granted ∨ fits then put (write w) s.clock.counters
            else { a with power := refused }))
        ∧ (p.circuit ≠ f.circuit.toNat →
          exec (.claim st f) s = .next { put (write new.granted) s.clock.counters with power := power }))
      ∧ ∀ r : Round, s.power.round = some r → r.awaiting = true → p.circuit = f.circuit.toNat → own → w < p.granted →
        s.power.solo = none → s.power.deferred = [] →
        let t := put (write w) s.clock.counters
        (r.purpose = .homing → exec (.claim st f) s = .next t)
        ∧ (r.purpose = .lowering →
          let body := TxBody.claim ⟨BitVec.ofNat 8 g.circuit, BitVec.ofNat 16 r.request, 3⟩
          HasRoom body s.link.queue →
          exec (.claim st f) s = .next
            { t with
              power := { s.power with round := some ⟨false, r.request, .idle, .lowering, false⟩, reclaim := none }
              link := { a.link with queue := queued body s.link.queue } })
        ∧ ∀ ro : Role, r.purpose = .follow → s.cover.role = some ro → s.colour.fade = none → s.power.settle = none →
          let x := g.baseClaim + g.followAllowance
            + emitterClaim g.emitterWatts (maxLevels s.colour.levels (colourTarget g ro.colour 65536))
          let body := TxBody.claim ⟨BitVec.ofNat 8 g.circuit, BitVec.ofNat 16 x, 2⟩
          HasRoom body s.link.queue →
          exec (.claim st f) s = .next
            { t with
              power := { s.power with
                round := some ⟨false, x, .follow, .follow, false⟩
                reclaim := none
                counters := { s.power.counters with reclaims := satInc s.power.counters.reclaims } }
              link := { a.link with queue := queued body s.link.queue } })
    ∧ (∀ before after : List Peer, s.clock.peers = before ++ after →
      (∀ q ∈ before, q.station.toNat < st.toNat) → (∀ q ∈ after, st.toNat < q.station.toNat) →
      let full : ClockCounters := { s.clock.counters with peerTableFull := satInc s.clock.counters.peerTableFull }
      (s.clock.peers.length < 96 →
        exec (.claim st f) s = .next { put (before ++ new :: after) s.clock.counters with power := power })
      ∧ (96 ≤ s.clock.peers.length → ¬own ∨ (∀ q ∈ s.clock.peers, q.circuit = g.circuit) →
        exec (.claim st f) s = .next { put s.clock.peers full with power := power }))
    ∧ ∀ (old : Peer) (before after : List Peer), 96 ≤ s.clock.peers.length → own → PeerInv s → s.cover.role = none →
      (∀ q ∈ s.clock.peers, q.station ≠ st) → old ∈ s.clock.peers → old.circuit ≠ g.circuit →
      (∀ q ∈ s.clock.peers, q.circuit ≠ g.circuit → q ≠ old →
        (s.clock.tickCount - q.lastHeard).toNat < (s.clock.tickCount - old.lastHeard).toNat
          ∨ q.lastHeard = old.lastHeard ∧ old.station.toNat < q.station.toNat) →
      s.clock.peers.filter (fun q => q.station != old.station) = before ++ after →
      (∀ q ∈ before, q.station.toNat < st.toNat) → (∀ q ∈ after, st.toNat < q.station.toNat) →
      ∃ t : State, exec (.claim st f) s = .next t
        ∧ t = { put (before ++ new :: after)
              { s.clock.counters with peersEvicted := satInc s.clock.counters.peersEvicted } with
            power := power, cover := t.cover }
        ∧ t.cover = { s.cover with lists := t.cover.lists }
        ∧ (old.state = .silent → t.cover.lists = s.cover.lists)
        ∧ (old.state = .live → ∀ l ∈ t.cover.lists, ∀ h ∈ l, h.station ≠ old.station)

/-- TRACK for the target of a role that holds its grant: the own follow quality is the solve's, and a follow segment to the
solved aim starts at once from the commanded position, of least D from the follow lag to eight times it that passes its
limits, with R the half of D (R142, R143). -/
def Obligations.TrackStartsFollowSegment : Prop :=
  ∀ (s : State) (g : Figures) (pose : MountPose) (st : Byte) (f : TrackFields) (r : Role) (d : Nat),
    Arrives ⟨st, .track f⟩ s → s.station.mode.appliesCover = true → s.station.figures = some g →
    s.aim.pose = some pose → s.cover.role = some r → r.target = f.target.toNat → r.phase ≠ .claiming →
    let a := solve g pose s.planner.pan s.planner.tilt f.x.toInt f.y.toInt f.z.toInt
    let v := travel s.planner.pan s.planner.tilt a.pan a.tilt
    let passes := fun x => checksOk g v x (x / 2) = true ∧ segmentClaim g v x (x / 2) ≤ g.followAllowance
    g.followLag ≤ d → d ≤ 8 * g.followLag → passes d → (∀ x, g.followLag ≤ x → x < d → ¬passes x) →
    ∃ t : State, exec (.track st f) s = .next t
      ∧ t.planner.motion
          = some ⟨s.planner.pan, s.planner.tilt, a.pan, a.tilt, d, d / 2, 0, segmentClaim g v d (d / 2), .follow⟩
      ∧ t.planner.pan = s.planner.pan ∧ t.planner.tilt = s.planner.tilt
      ∧ t.cover.ownQ = a.q ∧ t.cover.counters.followLimited = s.cover.counters.followLimited
      ∧ t.store = s.store ∧ t.power.granted = s.power.granted ∧ t.station = s.station ∧ t.drive = s.drive
      ∧ t.pending = s.pending

/-- COVER TAKE for a target with no own role, from a station not listed: with fewer than C HOLDER entries it is added; with
a RELIEVED entry held it is refused; else, with room and q at or above the weakest holder's by the margin, the weakest is
RELIEVED until 1000 ticks on and the sender added; else refused (R145). -/
def Obligations.TakeDecided : Prop :=
  ∀ (s : State) (g : Figures) (st : Byte) (f : CoverFields) (l : List Holder) (w : Holder), Arrives ⟨st, .cover f⟩ s →
    s.station.mode.appliesCover = true → s.station.figures = some g → CoverInv s →
    (∀ r, s.cover.role = some r → r.target ≠ f.target.toNat) →
    f.action = 0 → s.cover.lists[f.target.toNat]? = some l → (∀ h ∈ l, h.station ≠ st) →
    (f.count.toNat ≤ (l.filter Holder.isHolder).length →
      w ∈ l ∧ w.isHolder = true ∧ ∀ h ∈ l, h.isHolder = true → h ≠ w → h.above w = true) →
    let holders := (l.filter Holder.isHolder).length
    let new : Holder := ⟨st, f.q.toNat, .holder, s.clock.tickCount⟩
    let refused : State :=
      { arrived ⟨st, .cover f⟩ s with
        cover := { s.cover with
          counters := { s.cover.counters with takesRefused := satInc s.cover.counters.takesRefused } } }
    exec (.cover st f) s = .next
      (if holders < f.count.toNat then
        { arrived ⟨st, .cover f⟩ s with
          cover := { s.cover with lists := s.cover.lists.set f.target.toNat (l ++ [new]) } }
      else if l.any (fun h => !h.isHolder) then refused
      else if l.length < 5 ∧ w.q + g.handoffMargin ≤ f.q.toNat then
        { arrived ⟨st, .cover f⟩ s with
          cover := { s.cover with
            lists := s.cover.lists.set f.target.toNat
              (l.map (fun h => if h.station == w.station then { h with state := .relieved st (s.clock.tickCount + 1000) }
                else h) ++ [new]) } }
      else refused)

/-- COVER HOLD for a target with no own role: a listed sender's q is updated, and its last stated when it is a HOLDER; an
absent one is added with room and counted "list full" without; an on-target HOLD of a HOLDER removes the entry it relieved
and is counted. COVER YIELD: the sender leaves the list, and an entry it relieved is a HOLDER from this tick
(R146, R147). -/
def Obligations.HoldAndYieldApplied : Prop :=
  ∀ (s : State) (st : Byte) (f : CoverFields) (l : List Holder), Arrives ⟨st, .cover f⟩ s →
    s.station.mode.appliesCover = true → (∀ r, s.cover.role = some r → r.target ≠ f.target.toNat) →
    s.cover.lists[f.target.toNat]? = some l →
    let k := s.cover.counters
    let put := fun (l' : List Holder) (k' : CoverCounters) =>
      ({ arrived ⟨st, .cover f⟩ s with
        cover := { s.cover with lists := s.cover.lists.set f.target.toNat l', counters := k' } } : State)
    (f.action = 1 → (∀ h ∈ l, h.station ≠ st ∧ h.relievedBy st = false) →
        exec (.cover st f) s = .next
          (if l.length < 5 then put (l ++ [⟨st, f.q.toNat, .holder, s.clock.tickCount⟩]) k
          else put l { k with listFull := satInc k.listFull }))
      ∧ (∀ (before after : List Holder) (h : Holder), f.action = 1 → l = before ++ h :: after → h.station = st →
          (∀ x ∈ before ++ after, x.station ≠ st) → h.relievedBy st = false →
          let h' : Holder := { h with q := f.q.toNat, lastStated := if h.isHolder then s.clock.tickCount else h.lastStated }
          exec (.cover st f) s = .next
            (if f.flags.getLsbD 0 = true ∧ h.isHolder = true ∧ (before ++ after).any (Holder.relievedBy st) = true then
              put ((before ++ h' :: after).filter (fun x => !x.relievedBy st))
                { k with reliefsCompleted := satInc k.reliefsCompleted }
            else put (before ++ h' :: after) k))
      ∧ (f.action = 2 →
          exec (.cover st f) s = .next
            (put (if l.any (fun h => h.station == st) then
                (l.filter (fun h => h.station != st)).map (fun h =>
                  if h.relievedBy st then { h with state := .holder, lastStated := s.clock.tickCount } else h)
              else l) k))

/-- OFFER in a mode that takes it: late with no record of the call or a phase past OPEN, foreign for another scope, else
taken, raising the offered lead to its own, held to five times the requested D once that is known (R126, R130). -/
def Obligations.OfferTaken : Prop :=
  ∀ (s : State) (st : Byte) (f : OfferFields) (r : LandingRecord), Arrives ⟨st, .offer f⟩ s →
    s.station.mode.takesIntake = true → s.landing.records = [r] →
    let lead := if (f.landing - r.goTime).toNat < 2 ^ 31 then (f.landing - r.goTime).toNat else 0
    let k := s.landing.counters
    exec (.offer st f) s = .next
      (if r.callId ≠ f.callId ∨ r.phase ≠ .opened then
        { arrived ⟨st, .offer f⟩ s with landing := ⟨[r], { k with lateOffers := satInc k.lateOffers }⟩ }
      else if r.scope ≠ .group f.group.toNat then
        { arrived ⟨st, .offer f⟩ s with landing := ⟨[r], { k with foreignOffers := satInc k.foreignOffers }⟩ }
      else
        match r.requestedD with
        | none =>
          { arrived ⟨st, .offer f⟩ s with landing := ⟨[{ r with offeredLead := max r.offeredLead lead }], k⟩ }
        | some d =>
          { arrived ⟨st, .offer f⟩ s with
            landing := ⟨[{ r with offeredLead := max r.offeredLead (min lead (5 * d)) }],
              if 5 * d < lead then { k with offerClamped := satInc k.offerClamped } else k⟩ })

/-- CALL refused: intake HELD, a bad segment count or no colour, a sync call of other than one segment, or a new id with
the table full; each counts its counter, and nothing else changes; a CALL whose scope does not include this station is
ignored (R44). -/
def Obligations.CallRefused : Prop :=
  ∀ (s : State) (st : Byte) (f : CallFields), Arrives ⟨st, .call f⟩ s → s.station.mode.takesIntake = true →
    (∀ r ∈ s.store.calls, r.callId ≠ f.callId) →
    let k := s.store.counters
    let counted := fun (k' : StoreCounters) =>
      ({ arrived ⟨st, .call f⟩ s with store := { s.store with counters := k' } } : State)
    (s.inScope f.scope = false → exec (.call st f) s = .next (arrived ⟨st, .call f⟩ s))
      ∧ (s.inScope f.scope = true → s.store.intake = .held →
          exec (.call st f) s = .next (counted { k with intakeHeld := satInc k.intakeHeld }))
      ∧ (s.inScope f.scope = true → s.store.intake = .opened → f.countOk = false →
          exec (.call st f) s = .next (counted { k with badCall := satInc k.badCall }))
      ∧ (s.inScope f.scope = true → s.store.intake = .opened → f.countOk = true → f.sync = true →
          f.segmentCount ≠ 1 → exec (.call st f) s = .next (counted { k with badSyncCall := satInc k.badSyncCall }))
      ∧ (s.inScope f.scope = true → s.store.intake = .opened → f.countOk = true →
          (f.sync = true → f.segmentCount = 1) → s.store.calls.length = 8 →
          exec (.call st f) s = .next (counted { k with callTableFull := satInc k.callTableFull }))

/-- CALL accepted as a new call whose go time and plan point are still ahead: a PENDING record with an empty chain, and
the mode, scope, stretch allowance, colour part and follow part of the frame, stands in the table beside those held, a
sync call has a new landing record, and no other block is touched (R41, R47, R125; the arrival rank that orders equal go
times is the model's field, log 23; that the new record stands before the first record it precedes also where go times lie
2^31 ms or more apart is the model's choice, log 52). -/
def Obligations.CallAccepted : Prop :=
  ∀ (s : State) (st : Byte) (f : CallFields), Arrives ⟨st, .call f⟩ s → s.station.mode.takesIntake = true →
    s.inScope f.scope = true → s.store.intake = .opened → f.countOk = true → (f.sync = true → f.segmentCount = 1) →
    s.store.calls.length < 8 → (∀ r ∈ s.store.calls, r.callId ≠ f.callId) → s.nextCall = none →
    atOrAfter s.clock.linkClock (f.goTime - 50) = false → atOrAfter s.clock.linkClock f.goTime = false →
    ∃ (t : State) (new : CallRecord), exec (.call st f) s = .next t
      ∧ new.callId = f.callId ∧ new.goTime = f.goTime ∧ new.state = .pending ∧ new.chain = [] ∧ new.received = 0
      ∧ new.closed = false ∧ new.plan = none ∧ new.expected = f.segmentCount.toNat ∧ new.sync = f.sync
      ∧ new.mode = (match f.mode.toNat with
          | 0 => .angles
          | 1 => .point
          | 2 => .follow
          | _ => .colour)
      ∧ new.scope = (if f.scopeType = 0 then .group f.scopeValue.toNat else .station f.scopeValue)
      ∧ new.stretch = (f.flags.toNat / 2) % 4 ∧ new.target = f.target.toNat ∧ new.count = f.count.toNat
      ∧ new.colour = (if f.flags.getLsbD 3 then
          some ⟨f.red.toNat, f.green.toNat, f.blue.toNat, f.intensity.toNat, min 60000 f.fade.toNat⟩ else none)
      ∧ (∃ before after : List CallRecord, t.store.calls = before ++ new :: after ∧ s.store.calls = before ++ after
          ∧ (∀ x ∈ before, isBefore f.goTime x.goTime = false)
          ∧ ∀ x, after.head? = some x →
              isBefore f.goTime x.goTime = true ∨ (f.goTime = x.goTime ∧ s.store.nextArrival < x.arrival))
      ∧ t.landing.records = s.landing.records
          ++ (if f.sync then [⟨f.callId, f.scope, f.goTime, none, none, 0, .opened, none⟩] else [])
      ∧ t.store.poolFree = s.store.poolFree ∧ t.store.counters = s.store.counters
      ∧ t.link = arrivedLink ⟨st, .call f⟩ s.link ∧ t.power = s.power ∧ t.planner = s.planner ∧ t.colour = s.colour
      ∧ t.cover = s.cover ∧ t.drive = s.drive ∧ t.station = s.station ∧ t.pending = s.pending

/-- SEGMENT: an orphan, a duplicate, an excess, a gap and an empty pool are discarded and counted in that order; else a
PENDING, CLAIMING, PLANNED or RUNNING call's chain takes it QUEUED at its end, the received count rises, the pool falls,
and the chain closes on the last flag or the last index (R48, R49). -/
def Obligations.SegmentDecided : Prop :=
  ∀ (s : State) (st : Byte) (f : SegmentFields) (r : CallRecord), Arrives ⟨st, .segment f⟩ s →
    s.station.mode.takesIntake = true → s.store.calls = [r] → s.landing.records = [] → s.nextCall = none →
    r.state ≠ .waiting → r.state ≠ .holdOpen →
    let k := s.store.counters
    let counted := fun (k' : StoreCounters) =>
      ({ arrived ⟨st, .segment f⟩ s with store := { s.store with counters := k' } } : State)
    exec (.segment st f) s = .next
      (if r.callId ≠ f.callId then counted { k with orphan := satInc k.orphan }
      else if f.index.toNat < r.received then counted { k with duplicate := satInc k.duplicate }
      else if r.closed = true ∨ r.expected ≤ f.index.toNat then counted { k with excess := satInc k.excess }
      else if r.received < f.index.toNat then counted { k with gap := satInc k.gap }
      else if s.store.poolFree = 0 then counted { k with poolEmpty := satInc k.poolEmpty }
      else
        { arrived ⟨st, .segment f⟩ s with
          store := { s.store with
            poolFree := s.store.poolFree - 1
            calls := [{ r with
              chain := r.chain ++ [⟨f.index.toNat, f.flags.getLsbD 0, f.duration.toNat, f.ramp.toNat,
                f.end1.toInt, f.end2.toInt, f.end3.toInt, .queued⟩]
              received := r.received + 1
              closed := f.flags.getLsbD 0 || decide (f.index.toNat + 1 = r.expected) }] } })

/-- BEACON: the link clock steps to the stamp plus one exactly when that is after it, and the step is counted, whatever the
mode and the peer table; the same at the readback of the own BEACON (R27). -/
def Obligations.BeaconStepsClock : Prop :=
  ∀ (s : State) (st : Byte) (f : BeaconFields) (c : Instr),
    (c = .beacon st f ∧ Listening ⟨st, .beacon f⟩ s ∧ Frame.wf ⟨st, .beacon f⟩ = true ∧ st ≠ s.station.ownStation
      ∨ c = .transmissionSuccess ∧ s.link.txFrame = some ⟨st, .beacon f⟩ ∧ f.stationKind.toNat ≤ 3
          ∧ f.circuit.toNat ≤ 15 ∧ (f.heldTarget.toNat ≤ 15 ∨ f.heldTarget = 255)
          ∧ (s.link.lineState = .arbitrating ∨ s.link.lineState = .sending)) →
    ∃ t : State, exec c s = .next t
      ∧ t.clock.linkClock
          = (if (f.linkClock + 1 - s.clock.linkClock).toNat < 2 ^ 31 ∧ f.linkClock + 1 ≠ s.clock.linkClock then
              f.linkClock + 1 else s.clock.linkClock)
      ∧ t.clock.counters.clockSteps
          = (if (f.linkClock + 1 - s.clock.linkClock).toNat < 2 ^ 31 ∧ f.linkClock + 1 ≠ s.clock.linkClock then
              satInc s.clock.counters.clockSteps else s.clock.counters.clockSteps)
      ∧ t.clock.tickCount = s.clock.tickCount ∧ t.pending = s.pending

/-- BEACON that does not step the clock. With an entry held, it is refreshed to LIVE and takes the kind, the circuit, the
group mask and the stated claim untested; a figure other than the entry's, which a change of circuit has zeroed, is counted.
With no entry, one is created in its place with the stated claim, in a table with room; for a sender on another circuit a full
one counts "peer table full". A fall of the stated claim on the own circuit, and a move of a claim above 0 from it, are headroom
rises: they end the wait of a lowering, whose CLAIM is offered again (R31, R32, R33, R36, R108, R110, R111; that the stated
claim is compared with the zero of a change of circuit is DEDUCED, log 17). -/
def Obligations.StatedClaimWritten : Prop :=
  ∀ (s : State) (st : Byte) (f : BeaconFields), Arrives ⟨st, .beacon f⟩ s →
    isAfter (f.linkClock + 1) s.clock.linkClock = false →
    let a := arrived ⟨st, .beacon f⟩ s
    (∀ p : Peer, s.clock.peers.find? (fun q => q.station == st) = some p → (∀ q ∈ s.clock.peers, q.station = st → q = p) →
      let held := if p.circuit = f.circuit.toNat then p.granted else 0
      let power : PowerState :=
        { s.power with
          counters := { s.power.counters with
            statedOverride := if held = f.granted.toNat then s.power.counters.statedOverride
              else satInc s.power.counters.statedOverride } }
      let t : State :=
        { a with
          clock := { s.clock with
            peers := s.clock.peers.map (fun q =>
              if q.station == st then
                { q with
                  state := .live
                  lastHeard := s.clock.tickCount
                  kind := stationKindOf f.stationKind
                  circuit := f.circuit.toNat
                  groupMask := f.groupMask
                  granted := f.granted.toNat }
              else q) }
          power := power }
      ((∀ r, s.power.round = some r → r.awaiting = false) → exec (.beacon st f) s = .next t)
      ∧ ∀ (g : Figures) (r : Round), s.station.figures = some g → s.power.round = some r → r.awaiting = true →
        r.purpose = .lowering → s.power.solo = none → s.power.deferred = [] → p.circuit = g.circuit →
        (f.circuit.toNat = g.circuit ∧ f.granted.toNat < p.granted ∨ f.circuit.toNat ≠ g.circuit ∧ 0 < p.granted) →
        let body := TxBody.claim ⟨BitVec.ofNat 8 g.circuit, BitVec.ofNat 16 r.request, 3⟩
        HasRoom body s.link.queue →
        exec (.beacon st f) s = .next
          { t with
            power := { power with round := some ⟨false, r.request, .idle, .lowering, false⟩, reclaim := none }
            link := { a.link with queue := queued body s.link.queue } })
    ∧ ∀ before after : List Peer, s.clock.peers = before ++ after →
      (∀ q ∈ before, q.station.toNat < st.toNat) → (∀ q ∈ after, st.toNat < q.station.toNat) →
      let new : Peer :=
        ⟨st, stationKindOf f.stationKind, f.circuit.toNat, f.groupMask, f.granted.toNat, .live, s.clock.tickCount⟩
      (s.clock.peers.length < 96 →
        exec (.beacon st f) s = .next { a with clock := { s.clock with peers := before ++ new :: after } })
      ∧ (96 ≤ s.clock.peers.length → (∀ g, s.station.figures = some g → f.circuit.toNat ≠ g.circuit) →
        exec (.beacon st f) s = .next
          { a with
            clock := { s.clock with
              counters := { s.clock.counters with peerTableFull := satInc s.clock.counters.peerTableFull } } })

/-- PROBE to this station with no snapshot held, or one of another page or with every part offered: the page is composed from
the values of the arrival, part 0 is offered as a REPORT, the next part is 1, and the clear flag zeroes the page's counters.
With a snapshot of its page that has a part left, that part is offered and the next part rises by one, the clear flag not
acted on (R193). -/
def Obligations.ProbeComposesPage : Prop :=
  ∀ (s : State) (st : Byte) (f : ProbeFields), Arrives ⟨st, .probe f⟩ s → s.station.mode.linkOff = false →
    f.station = s.station.ownStation → (∀ b, HasRoom (.report b) s.link.queue) →
    let a := arrived ⟨st, .probe f⟩ s
    let bytes := pageBytes f.page.toNat a
    (∀ n, s.station.snapshot = some n → n.page = f.page.toNat → 45 * n.next < n.bytes.length →
      exec (.probe st f) s = .next
        { a with
          station := { s.station with snapshot := some { n with next := n.next + 1 } }
          link := { a.link with queue := queued (.report (reportFrame n.page n.bytes n.next)) s.link.queue } })
    ∧ ((∀ n, s.station.snapshot = some n → n.page ≠ f.page.toNat ∨ n.bytes.length ≤ 45 * n.next) →
    ∃ t : State, exec (.probe st f) s = .next t
      ∧ t.station = { s.station with snapshot := some ⟨f.page.toNat, bytes, 1⟩ }
      ∧ t.link.queue = queued (.report (reportFrame f.page.toNat bytes 0)) s.link.queue
      ∧ (f.flags.getLsbD 0 = false →
          t = { a with station := t.station, link := { a.link with queue := t.link.queue } })
      ∧ (f.flags.getLsbD 0 = true →
          (f.page = 0 → t.colour.counters = {} ∧ t.drive.counters = {})
            ∧ (f.page = 1 → t.link.counters = {})
            ∧ (f.page = 2 → t.store.counters = {} ∧ t.aim.counters = {} ∧ t.planner.counters = {}
                ∧ t.landing.counters = {})
            ∧ (f.page = 3 → t.clock.counters = {} ∧ t.power.counters = {})
            ∧ (f.page = 4 → t.cover.counters = {}))
      ∧ t.clock.linkClock = s.clock.linkClock ∧ t.store.calls = s.store.calls ∧ t.power.granted = s.power.granted
      ∧ t.planner.motion = s.planner.motion ∧ t.colour.levels = s.colour.levels ∧ t.cover.lists = s.cover.lists
      ∧ t.pending = s.pending)

/-! ### The clock and peer unit's events -/

/-- PEER_SILENT on a LIVE entry whose silence has reached the aging time, with no role: it is SILENT with its claim kept,
and its station leaves every holder list. PEER_REMOVED on a SILENT entry whose silence has reached twice the aging time,
no round AWAITING: it leaves the table and is counted (R34, R35, R148). -/
def Obligations.PeersAgeOut : Prop :=
  (∀ (s : State) (st : Byte) (p : Peer), s.clock.peers.find? (fun q => q.station == st) = some p → p.state = .live →
      s.aging ≤ (s.clock.tickCount - p.lastHeard).toNat → s.cover.role = none →
      ∃ t : State, exec (.peerSilent st) s = .next t
        ∧ t = { s with clock := t.clock, cover := t.cover }
        ∧ t.clock = { s.clock with
            peers := s.clock.peers.map (fun q => if q.station == st then { q with state := .silent } else q) }
        ∧ t.cover = { s.cover with lists := t.cover.lists }
        ∧ t.cover.lists.length = s.cover.lists.length
        ∧ (∀ l ∈ t.cover.lists, ∀ h ∈ l, h.station ≠ st)
        ∧ ∀ (i : Nat) (l : List Holder), s.cover.lists[i]? = some l → (∀ h ∈ l, h.station ≠ st) →
            t.cover.lists[i]? = some l)
    ∧ ∀ (s : State) (st : Byte) (p : Peer), Quiet s → s.clock.peers.find? (fun q => q.station == st) = some p →
      p.state = .silent → 2 * s.aging ≤ (s.clock.tickCount - p.lastHeard).toNat →
      (∀ r, s.power.round = some r → r.awaiting = false) →
      exec (.peerRemoved st) s = .next
        { s with
          clock := { s.clock with
            peers := s.clock.peers.filter (fun q => q.station != st)
            counters := { s.clock.counters with peersRemoved := satInc s.clock.counters.peersRemoved } } }

/-- Timers that have run out, outside solo mode and with room in the queue. BEACON_TIMER, whether or not a change of mode has
restarted the timer in the tick in which it ran out: a BEACON joins the queue's end, follows the one on the line or takes the
place of the one that waits, and the timer restarts at 200. RESTATE_TIMER of a HOLDER: a HOLD with the own follow quality, C and the on-target flag joins the
queue, and the timer restarts at 200. RECLAIM_TIMER of an AWAITING HOMING round, the settle time over: the homing claim is
offered again, the round is OPEN, and the re-claim is counted. RECLAIM_TIMER of an AWAITING round of a CLAIMING or WAITING
call: the ladder runs again on the call's plan record against the headroom as it then stands, the plan it takes is the call's,
the call's state stands, and the round is OPEN with that plan's request. VIEW_SETTLE_END in STARTING with homing needed: the CLAIM
that the timer held back is offered, its request and reason the round's. Without homing, the link not lost and no call held:
READY, with a round OPEN for the idle claim and its CLAIM and a BEACON in the queue
(R15, R38, R92, R93, R94, R102, R111, R113, R119, R150, R184, R188, R189; that the step of a TICK and that of BEACON_TIMER
are apart is log 9; that a stretch which the planning ceiling makes fail its check is skipped is log 55). -/
def Obligations.TimersOfferFrames : Prop :=
  (∀ (s : State) (n : Nat), s.clock.beaconTimer = some n → s.clock.beaconDue = true →
    let offered := fun (q : List TxEntry) =>
      ({ s with
        clock := { s.clock with beaconTimer := some 200, beaconDue := false }
        link := { s.link with queue := q } } : State)
    (HasRoom .beacon s.link.queue → exec .beaconTimer s = .next (offered (queued .beacon s.link.queue)))
      ∧ ∀ (before after : List TxEntry) (e : TxEntry), s.link.queue = before ++ e :: after → e.body = .beacon →
        (∀ x ∈ before ++ after, x.body ≠ .beacon) →
        exec .beaconTimer s = .next
          (offered (before ++ (if e.inFlight then { e with next := some .beacon } else { e with attempts := 0 }) :: after)))
    ∧ (∀ (s : State) (r : Role), s.cover.restate = some 0 → s.cover.role = some r → r.phase = .holder →
    let body := TxBody.cover ⟨BitVec.ofNat 8 r.target, 1, BitVec.ofNat 16 s.cover.ownQ, BitVec.ofNat 8 r.count,
      if s.cover.onTarget then 1 else 0⟩
    HasRoom body s.link.queue →
    exec .restateTimer s = .next
      { s with
        cover := { s.cover with restate := some 200 }
        link := { s.link with queue := queued body s.link.queue } })
    ∧ (∀ (s : State) (g : Figures) (r : Round), Quiet s → s.power.reclaim = some 0 → s.power.round = some r →
    r.awaiting = true → r.purpose = .homing → s.power.solo = none → s.power.settle = none → s.power.deferred = [] →
    s.station.figures = some g →
    let w := g.baseClaim + (g.pan.hold + g.tilt.hold) + g.homingAllowance
    let body := TxBody.claim ⟨BitVec.ofNat 8 g.circuit, BitVec.ofNat 16 w, 0⟩
    HasRoom body s.link.queue →
    exec .reclaimTimer s = .next
      { s with
        power := { s.power with
          reclaim := none
          round := some ⟨false, w, .homing, .homing, false⟩
          counters := { s.power.counters with reclaims := satInc s.power.counters.reclaims } }
        link := { s.link with queue := queued body s.link.queue } })
    ∧ (∀ (s : State) (g : Figures) (r : Round) (c : CallRecord) (old : Plan), Quiet s → s.power.reclaim = some 0 →
    s.power.round = some r → r.awaiting = true → r.purpose = .move c.callId → s.store.calls = [c] →
    (c.state = .claiming ∨ c.state = .waiting) → c.plan = some old → s.power.solo = none → s.power.settle = none →
    s.power.deferred = [] → s.station.figures = some g → s.link.queue.length < 12 →
    let h := (g.budget : Int) - ((s.clock.peers.filter (fun p => p.circuit == g.circuit)).map Peer.granted).sum
    ∃ (t : State) (pl : Plan), exec .reclaimTimer s = .next t
      ∧ TakenOf (ladderPlans g ⟨c.colour, s.colour.bound, 0, h⟩ old.refPan old.refTilt old.segs c.stretch) h pl
      ∧ t.store = { s.store with calls := [{ c with plan := some pl }] }
      ∧ t.power = { s.power with
          reclaim := none
          round := some ⟨false, pl.request, .move, .move c.callId, false⟩
          counters := { s.power.counters with reclaims := satInc s.power.counters.reclaims } }
      ∧ Offered (.claim ⟨BitVec.ofNat 8 g.circuit, BitVec.ofNat 16 pl.request, 1⟩) t.link.queue
      ∧ t.planner.counters.plans = satInc s.planner.counters.plans
      ∧ t.planner.pan = s.planner.pan ∧ t.planner.tilt = s.planner.tilt ∧ t.planner.motion = s.planner.motion
      ∧ t.colour = s.colour ∧ t.clock = s.clock ∧ t.drive = s.drive ∧ t.cover = s.cover ∧ t.station = s.station
      ∧ t.aim = s.aim ∧ t.landing.counters = s.landing.counters ∧ t.pending = s.pending)
    ∧ (∀ (s : State) (g : Figures), Quiet s → s.power.settle = some 0 → s.station.mode = .starting →
    s.station.homingNeeded = false → s.station.figures = some g → s.power.round = none → s.power.deferred = [] →
    s.power.solo = none → s.link.linkLost = false → s.link.lineState ≠ .off → s.store.calls = [] →
    let w := g.baseClaim + (g.pan.hold + g.tilt.hold) + emitterClaim g.emitterWatts s.colour.levels
    let body := TxBody.claim ⟨BitVec.ofNat 8 g.circuit, BitVec.ofNat 16 w, 3⟩
    HasRoom body s.link.queue → HasRoom .beacon s.link.queue → s.link.queue.length < 11 →
    exec .viewSettleEnd s = .next
      { s with
        power := { s.power with settle := none, reclaim := none, round := some ⟨false, w, .idle, .lowering, false⟩ }
        link := { s.link with queue := queued .beacon (queued body s.link.queue) }
        clock := { s.clock with beaconTimer := some 200 }
        drive := { s.drive with homing := none }
        station := { s.station with mode := .ready, statusAsserted := false } })
    ∧ ∀ (s : State) (g : Figures) (r : Round), s.power.settle = some 0 → s.station.mode = .starting →
    s.station.homingNeeded = true → s.station.figures = some g → s.power.round = some r → r.held = true →
    let body := TxBody.claim ⟨BitVec.ofNat 8 g.circuit, BitVec.ofNat 16 r.request, BitVec.ofNat 8 r.reason.code⟩
    HasRoom body s.link.queue →
    exec .viewSettleEnd s = .next
      { s with
        power := { s.power with settle := none, round := some { r with held := false } }
        link := { s.link with queue := queued body s.link.queue } }

/-! ### The call store's events -/

/-- PLAN_POINT with one call held, its plan point reached, a PENDING one that can be planned: it holds a plan and is
CLAIMING, and a round is OPEN for it with the plan's request, whose CLAIM stands in the queue. The headroom is the budget less
the claims of the others on the circuit. The plan is the one the ladder takes of its candidates against that headroom. In ISOLATED
with solo mode ON the headroom is the solo allowance and the request is decided in the event, no CLAIM sent: at or below the
allowance it is the own granted claim and the call is PLANNED; above it the refusal is counted, and the round is AWAITING for
200 ticks (R50, R91, R92, R93, R102, R103, R116, R121; that a stretch which the planning ceiling makes fail its check is
skipped is the model's choice, log 55). -/
def Obligations.PlanPointOpensRound : Prop :=
  (∀ (s : State) (r : CallRecord), Quiet s → s.station.mode = .ready → s.store.calls = [r] → r.state = .pending →
    r.mode ≠ .follow → (r.mode ≠ .colour → r.chain ≠ []) → atOrAfter s.clock.linkClock (r.goTime - 50) = true →
    s.power.solo = none → s.power.settle = none → s.power.round = none → s.link.queue.length < 12 →
    ∃ (t : State) (pl : Plan), exec .planPoint s = .next t
      ∧ t.store.calls = [{ r with state := .claiming, plan := some pl }]
      ∧ pl.refPan = s.planner.pan ∧ pl.refTilt = s.planner.tilt ∧ pl.segs.length = r.chain.length
      ∧ pl.planClaim ≤ pl.request
      ∧ (∀ g, s.station.figures = some g →
          let h := (g.budget : Int) - ((s.clock.peers.filter (fun p => p.circuit == g.circuit)).map Peer.granted).sum
          let x := s.planner.pan
          let y := s.planner.tilt
          TakenOf (ladderPlans g ⟨r.colour, s.colour.bound, 0, h⟩ x y
              (baseSegs g x y ((endsOf g s.aim.pose r.mode x y r.chain s.aim.counters).1.zip r.chain)).1 r.stretch) h pl
            ∧ Offered (.claim ⟨BitVec.ofNat 8 g.circuit, BitVec.ofNat 16 pl.request, 1⟩) t.link.queue)
      ∧ t.power.round = some ⟨false, pl.request, .move, .move r.callId, false⟩
      ∧ t.power.granted = s.power.granted
      ∧ t.planner.counters.plans = satInc s.planner.counters.plans
      ∧ t.planner.pan = s.planner.pan ∧ t.planner.tilt = s.planner.tilt ∧ t.planner.motion = s.planner.motion
      ∧ t.colour = s.colour ∧ t.clock = s.clock ∧ t.drive = s.drive ∧ t.cover = s.cover ∧ t.station = s.station
      ∧ t.store.poolFree = s.store.poolFree ∧ t.pending = s.pending)
    ∧ ∀ (s : State) (g : Figures) (r : CallRecord) (m : Nat), Quiet s → s.station.mode = .isolated →
      s.station.figures = some g → s.power.solo = some m → s.store.calls = [r] → r.state = .pending → r.mode ≠ .follow →
      (r.mode ≠ .colour → r.chain ≠ []) → atOrAfter s.clock.linkClock (r.goTime - 50) = true → s.power.round = none →
      s.power.deferred = [] → s.landing.records = [] →
      let h : Int := g.soloAllowance
      let x := s.planner.pan
      let y := s.planner.tilt
      ∃ (t : State) (pl : Plan), exec .planPoint s = .next t
        ∧ TakenOf (ladderPlans g ⟨r.colour, s.colour.bound, 0, h⟩ x y
            (baseSegs g x y ((endsOf g s.aim.pose r.mode x y r.chain s.aim.counters).1.zip r.chain)).1 r.stretch) h pl
        ∧ (pl.request ≤ g.soloAllowance →
            t.store = { s.store with calls := [{ r with state := .planned, plan := some pl }] }
              ∧ t.power = { s.power with granted := pl.request, reclaim := none })
        ∧ (g.soloAllowance < pl.request →
            t.store = { s.store with calls := [{ r with state := .claiming, plan := some pl }] }
              ∧ t.power = { s.power with
                  round := some ⟨true, pl.request, .move, .move r.callId, false⟩
                  reclaim := some 200
                  counters := { s.power.counters with ownRefused := satInc s.power.counters.ownRefused } })
        ∧ t.link = s.link ∧ t.planner.pan = s.planner.pan ∧ t.planner.tilt = s.planner.tilt
        ∧ t.planner.motion = s.planner.motion ∧ t.landing = s.landing ∧ t.colour = s.colour ∧ t.clock = s.clock
        ∧ t.drive = s.drive ∧ t.cover = s.cover ∧ t.station = s.station ∧ t.pending = s.pending

/-- GO of a PLANNED call, alone in the table but for the calls it preempts. One planned segment and no colour, the segment fitting its plan and the grant:
it runs, its segment is ACTIVE and starts from the commanded position; a sync call takes its adopted landing, the largest of
requested D, planned lead and offered lead within five times the requested D, and runs to it when it is above the planned
lead. A COLOUR call: it runs with its fade at the plan's dim scale, and with a fade of 0 ends DONE at once with its levels at
the target, the own claim lowered to the idle claim. With a call RUNNING or HOLD_OPEN before it, and at most one move with no
segment going in the same event between them: each ends CUT, its segments free and its fade stopped, the PLANNED call runs from
the commanded position, and no lowering is made (R51, R52, R53, R55, R58, R59, R95, R96, R113, R132, R133, R160; the counter of
a starting segment stands within its 16 bits, as CountsKept keeps it; that the call between lowers nothing either, though it
does not start, is read from R59, log 54, and that the next call is worked out once all have gone, log 16). -/
def Obligations.GoStartsPlannedCall : Prop :=
  (∀ (s : State) (g : Figures) (r : CallRecord) (pl : Plan),
    Quiet s → s.station.mode = .ready → s.station.figures = some g → s.store.calls = [r] →
    r.state = .planned → r.reachedGo = false → r.plan = some pl → atOrAfter s.clock.linkClock r.goTime = true →
    let late := if 2 < (s.clock.linkClock - r.goTime).toNat then satInc s.store.counters.lateStart
      else s.store.counters.lateStart
    (∀ (seg : PoolSegment) (sp : SegPlan), s.landing.records = [] → r.mode = .angles → r.colour = none →
      r.chain = [seg] → seg.state = .queued → seg.index = 0 → pl.segs = [sp] →
      let v := travel s.planner.pan s.planner.tilt sp.endPan sp.endTilt
      checksOk g v sp.d sp.r = true → g.baseClaim + segmentClaim g v sp.d sp.r + pl.emitterTerm ≤ s.power.granted →
      s.planner.counters.ceiling ≤ 65535 →
      exec .go s = .next
        { s with
          store := { s.store with
            calls := [{ r with
              state := .running, reachedGo := true, waitStart := none, chain := [{ seg with state := .active }] }]
            counters := { s.store.counters with lateStart := late } }
          planner := { s.planner with
            motion := some ⟨s.planner.pan, s.planner.tilt, sp.endPan, sp.endTilt, sp.d, sp.r, 0,
              segmentClaim g v sp.d sp.r, .call r.callId⟩ } })
    ∧ (∀ (seg : PoolSegment) (sp : SegPlan) (l : LandingRecord) (d p : Nat), s.landing.records = [l] →
      l.callId = r.callId → l.requestedD = some d → l.plannedLead = some p → r.mode = .angles → r.colour = none →
      r.chain = [seg] → seg.state = .queued → seg.index = 0 → pl.segs = [sp] →
      let a := min (5 * d) (max d (max p l.offeredLead))
      let len := if p < a then a else sp.d
      let ramp := if p < a then a / 2 else sp.r
      let v := travel s.planner.pan s.planner.tilt sp.endPan sp.endTilt
      a ≤ 65535 → checksOk g v len ramp = true →
      g.baseClaim + segmentClaim g v len ramp + pl.emitterTerm ≤ s.power.granted →
      s.planner.counters.ceiling ≤ 65535 →
      ∃ t : State, exec .go s = .next t
        ∧ t.landing.records = [{ l with adoptedLead := some a, phase := .adopted }]
        ∧ t.landing.counters.stretchedToLand = (if p < a then satInc s.landing.counters.stretchedToLand
            else s.landing.counters.stretchedToLand)
        ∧ t.landing.counters.stragglers = s.landing.counters.stragglers
        ∧ t.planner = { s.planner with
            motion := some ⟨s.planner.pan, s.planner.tilt, sp.endPan, sp.endTilt, len, ramp, 0,
              segmentClaim g v len ramp, .call r.callId⟩ }
        ∧ t.store.calls = [{ r with
            state := .running, reachedGo := true, waitStart := none, chain := [{ seg with state := .active }] }]
        ∧ t.power = s.power ∧ t.colour = s.colour ∧ t.clock = s.clock ∧ t.link = s.link ∧ t.drive = s.drive
        ∧ t.cover = s.cover ∧ t.station = s.station ∧ t.pending = s.pending)
    ∧ ∀ k : ColourPart, s.landing.records = [] → r.mode = .colour → r.colour = some k → r.chain = [] →
      s.cover.role = none → s.power.solo = none →
      (0 < k.fade →
        exec .go s = .next
          { s with
            store := { s.store with
              calls := [{ r with state := .running, reachedGo := true, waitStart := none }]
              counters := { s.store.counters with lateStart := late } }
            colour := { s.colour with
              fade := some ⟨s.colour.levels, colourTarget g k pl.scale, k.fade, 0, false, pl.scale, .call r.callId⟩ } })
      ∧ (k.fade = 0 → (∀ m, s.planner.motion = some m → m.owner ≠ .call r.callId) →
        ∃ t : State, exec .go s = .next t
          ∧ t.store = { s.store with
              calls := []
              counters := { s.store.counters with lateStart := late, done := satInc s.store.counters.done } }
          ∧ t.colour = { s.colour with levels := colourTarget g k pl.scale, fade := none }
          ∧ t.power.granted = s.power.granted ∧ t.power.round.map Round.purpose = some .lowering
          ∧ t.power.round.map Round.request = some (g.baseClaim + (g.pan.hold + g.tilt.hold)
              + emitterClaim g.emitterWatts (colourTarget g k pl.scale))
          ∧ t.planner = s.planner ∧ t.clock = s.clock ∧ t.drive = s.drive ∧ t.cover = s.cover
          ∧ t.station = s.station ∧ t.pending = s.pending))
    ∧ ∀ (s : State) (g : Figures) (r : CallRecord) (ws : List CallRecord) (c : CallRecord) (pl : Plan) (seg : PoolSegment)
      (sp : SegPlan), Quiet s → s.station.mode = .ready → s.station.figures = some g →
      s.store.calls = r :: (ws ++ [c]) → r.reachedGo = true → (r.state = .running ∨ r.state = .holdOpen) →
      r.callId ≠ c.callId → ws.length ≤ 1 →
      (∀ w ∈ ws, w.state = .pending ∧ (w.mode = .angles ∨ w.mode = .point) ∧ w.chain = [] ∧ w.reachedGo = false
        ∧ atOrAfter s.clock.linkClock w.goTime = true ∧ w.callId ≠ r.callId ∧ w.callId ≠ c.callId) →
      c.state = .planned → c.reachedGo = false → c.plan = some pl → atOrAfter s.clock.linkClock c.goTime = true →
      c.mode = .angles → c.colour = none → c.chain = [seg] → seg.state = .queued → seg.index = 0 → pl.segs = [sp] →
      s.landing.records = [] → s.cover.role = none → s.power.deferred = [] →
      (∀ rd, s.power.round = some rd → ∀ x ∈ r :: ws, rd.purpose ≠ .move x.callId) →
      (∀ f, s.colour.fade = some f → f.owner = .call r.callId) →
      let v := travel s.planner.pan s.planner.tilt sp.endPan sp.endTilt
      let late := fun (n : Nat) (x : CallRecord) => if 2 < (s.clock.linkClock - x.goTime).toNat then satInc n else n
      checksOk g v sp.d sp.r = true → g.baseClaim + segmentClaim g v sp.d sp.r + pl.emitterTerm ≤ s.power.granted →
      s.planner.counters.ceiling ≤ 65535 →
      exec .go s = .next
        { s with
          store := { s.store with
            calls := [{ c with
              state := .running, reachedGo := true, waitStart := none, chain := [{ seg with state := .active }] }]
            poolFree := s.store.poolFree + r.chain.length
            counters := { s.store.counters with
              cut := ws.foldl (fun n _ => satInc n) (satInc s.store.counters.cut)
              lateStart := (ws ++ [c]).foldl late s.store.counters.lateStart } }
          planner := { s.planner with
            motion := some ⟨s.planner.pan, s.planner.tilt, sp.endPan, sp.endTilt, sp.d, sp.r, 0,
              segmentClaim g v sp.d sp.r, .call c.callId⟩ }
          colour := { s.colour with fade := none } }

/-- GO of a call that holds no grant, alone in the table but in the last clause. A CLAIMING call, and a PENDING move with no segment, is WAITING from
this tick, a straggler if it is a sync call, its adopted lead formed where its requested D is known. A PENDING COLOUR call, and a PENDING move with a segment held, is WAITING with a
plan, and a round is OPEN with the plan's request. A PENDING FOLLOW call runs: its role is CLAIMING, the head dark, and a round
is OPEN for the follow claim. A PENDING move with no segment that goes beside a RUNNING or HOLD_OPEN call: that call ends CUT,
its segments free, its motion and its fade stopped where they stand, and a lowering to the idle claim is offered, since no call
starts (R51, R52, R53, R59, R103, R113, R132, R134, R140, R141). -/
def Obligations.GoByState : Prop :=
  (∀ (s : State) (r : CallRecord), Quiet s → s.station.mode = .ready → s.store.calls = [r] → r.reachedGo = false →
    atOrAfter s.clock.linkClock r.goTime = true →
    let late := if 2 < (s.clock.linkClock - r.goTime).toNat then satInc s.store.counters.lateStart
      else s.store.counters.lateStart
    let waits : CallRecord := { r with reachedGo := true, state := .waiting, waitStart := some s.clock.tickCount }
    (r.state = .claiming ∨ r.state = .pending ∧ (r.mode = .angles ∨ r.mode = .point) ∧ r.chain = [] →
      let store : StoreState := { s.store with calls := [waits], counters := { s.store.counters with lateStart := late } }
      (s.landing.records = [] → exec .go s = .next { s with store := store })
        ∧ ∀ l : LandingRecord, s.landing.records = [l] → l.callId = r.callId →
          let k := s.landing.counters
          let straggles := fun (adopted : Option Nat) (clamped : Nat) =>
            ({ s with
              store := store
              landing := ⟨[{ l with adoptedLead := adopted, phase := .straggler }],
                { k with stragglers := satInc k.stragglers, offerClamped := clamped }⟩ } : State)
          (l.requestedD = none → exec .go s = .next (straggles none k.offerClamped))
            ∧ ∀ d : Nat, l.requestedD = some d →
              exec .go s = .next
                (straggles (some (min (5 * d) (max d (max (l.plannedLead.getD 0) l.offeredLead))))
                  (if 5 * d < l.plannedLead.getD 0 then satInc k.offerClamped else k.offerClamped)))
    ∧ (r.state = .pending → r.mode ≠ .follow → (r.mode ≠ .colour → r.chain ≠ []) → s.landing.records = [] →
      s.power.solo = none → s.power.settle = none → s.power.round = none → s.link.queue.length < 12 →
      ∃ (t : State) (pl : Plan), exec .go s = .next t
        ∧ t.store = { s.store with
            calls := [{ waits with plan := some pl }], counters := { s.store.counters with lateStart := late } }
        ∧ pl.refPan = s.planner.pan ∧ pl.refTilt = s.planner.tilt ∧ pl.segs.length = r.chain.length
        ∧ t.power.round = some ⟨false, pl.request, .move, .move r.callId, false⟩
        ∧ t.power.granted = s.power.granted ∧ t.planner.motion = s.planner.motion ∧ t.planner.pan = s.planner.pan
        ∧ t.planner.tilt = s.planner.tilt ∧ t.colour = s.colour ∧ t.clock = s.clock ∧ t.drive = s.drive
        ∧ t.cover = s.cover ∧ t.station = s.station ∧ t.pending = s.pending)
    ∧ ∀ (g : Figures) (k : ColourPart), r.state = .pending → r.mode = .follow → r.colour = some k →
      s.landing.records = [] → s.station.figures = some g → s.power.solo = none → s.power.settle = none →
      s.power.round = none → s.link.queue.length < 12 →
      ∃ t : State, exec .go s = .next t
        ∧ t.store = { s.store with
            calls := [{ r with reachedGo := true, state := .running }]
            counters := { s.store.counters with lateStart := late } }
        ∧ t.cover = { s.cover with
            role := some ⟨.claiming, r.target, r.callId, r.count, k, 0⟩
            ownQ := 0
            onTarget := false
            followEnd := none
            holdoff := none
            restate := none }
        ∧ t.colour = { s.colour with levels := [0, 0, 0, 0, 0, 0], fade := none }
        ∧ t.power.round = some ⟨false, g.baseClaim + g.followAllowance
            + emitterClaim g.emitterWatts (maxLevels [0, 0, 0, 0, 0, 0] (colourTarget g k 65536)), .follow, .follow, false⟩
        ∧ t.power.granted = s.power.granted ∧ t.planner = s.planner ∧ t.clock = s.clock ∧ t.drive = s.drive
        ∧ t.station = s.station ∧ t.pending = s.pending)
    ∧ ∀ (s : State) (g : Figures) (r w : CallRecord), Quiet s → s.station.mode = .ready → s.station.figures = some g →
      s.store.calls = [r, w] → r.reachedGo = true → (r.state = .running ∨ r.state = .holdOpen) → r.callId ≠ w.callId →
      w.state = .pending → (w.mode = .angles ∨ w.mode = .point) → w.chain = [] → w.plan = none → w.reachedGo = false →
      atOrAfter s.clock.linkClock w.goTime = true → s.landing.records = [] → s.cover.role = none →
      s.power.solo = none → s.power.round = none → s.power.deferred = [] →
      (∀ f, s.colour.fade = some f → f.owner = .call r.callId) →
      (∀ m, s.planner.motion = some m → m.owner = .call r.callId) →
      let idle := g.baseClaim + (g.pan.hold + g.tilt.hold) + emitterClaim g.emitterWatts s.colour.levels
      let body := TxBody.claim ⟨BitVec.ofNat 8 g.circuit, BitVec.ofNat 16 idle, 3⟩
      HasRoom body s.link.queue →
      exec .go s = .next
        { s with
          store := { s.store with
            calls := [{ w with reachedGo := true, state := .waiting, waitStart := some s.clock.tickCount }]
            poolFree := s.store.poolFree + r.chain.length
            counters := { s.store.counters with
              cut := satInc s.store.counters.cut
              lateStart := if 2 < (s.clock.linkClock - w.goTime).toNat then satInc s.store.counters.lateStart
                else s.store.counters.lateStart } }
          planner := { s.planner with motion := none }
          colour := { s.colour with fade := none }
          power := { s.power with round := some ⟨false, idle, .idle, .lowering, false⟩, reclaim := none }
          link := { s.link with queue := queued body s.link.queue } }

/-- CALL with the id of the one call held, not a FOLLOW call, its go time and plan point ahead: the old record ends CUT and
frees its segments, its motion stops where it stands, and the new record stands PENDING in its place and arrival rank; the own
claim is lowered to the idle claim, or the old call's round is abandoned for it. SEGMENT, the first one taken, for a WAITING
call: it is planned at once and a round is OPEN. SEGMENT for a HOLD_OPEN call, past its plan and fitting the grant: it is
ACTIVE, the call RUNNING from the commanded position, and the CONSUMED segment is free (R46, R47, R49, R57, R59, R96, R103,
R113, R115; the arrival rank is log 23; the counter of a starting segment stands within its 16 bits, as CountsKept keeps it). -/
def Obligations.SupersedeAndWakeCalls : Prop :=
  (∀ (s : State) (g : Figures) (st : Byte) (f : CallFields) (old : CallRecord), Arrives ⟨st, .call f⟩ s →
      s.station.mode = .ready → s.station.figures = some g → s.inScope f.scope = true → s.store.intake = .opened →
      f.countOk = true → (f.sync = true → f.segmentCount = 1) → s.store.calls = [old] → old.callId = f.callId →
      old.mode ≠ .follow → s.cover.role = none → s.power.solo = none →
      (∀ m, s.planner.motion = some m → m.owner = .call f.callId) →
      (∀ d, s.colour.fade = some d → d.owner = .call f.callId) →
      atOrAfter s.clock.linkClock (f.goTime - 50) = false → atOrAfter s.clock.linkClock f.goTime = false →
      ∃ (t : State) (new : CallRecord), exec (.call st f) s = .next t
        ∧ t.store = { s.store with
            calls := [new]
            poolFree := s.store.poolFree + old.chain.length
            counters := { s.store.counters with
              superseded := satInc s.store.counters.superseded, cut := satInc s.store.counters.cut } }
        ∧ new.callId = f.callId ∧ new.goTime = f.goTime ∧ new.arrival = old.arrival ∧ new.state = .pending
        ∧ new.chain = [] ∧ new.received = 0 ∧ new.plan = none ∧ new.expected = f.segmentCount.toNat
        ∧ t.planner = { s.planner with motion := none } ∧ t.colour = { s.colour with fade := none }
        ∧ t.landing.records = s.landing.records.filter (fun l => l.callId != f.callId)
            ++ (if f.sync then [⟨f.callId, f.scope, f.goTime, none, none, 0, .opened, none⟩] else [])
        ∧ t.power.granted = s.power.granted ∧ t.power.round.map Round.purpose = some .lowering
        ∧ t.power.round.map Round.request = some (g.baseClaim + (g.pan.hold + g.tilt.hold)
            + emitterClaim g.emitterWatts s.colour.levels)
        ∧ t.cover = s.cover ∧ t.drive = s.drive ∧ t.station = s.station ∧ t.pending = s.pending)
    ∧ (∀ (s : State) (st : Byte) (f : SegmentFields) (r : CallRecord), Arrives ⟨st, .segment f⟩ s →
      s.station.mode.takesIntake = true → s.store.calls = [r] → r.callId = f.callId → r.state = .waiting →
      r.chain = [] → r.received = f.index.toNat → r.received < r.expected → r.closed = false → 0 < s.store.poolFree →
      s.landing.records = [] → s.power.solo = none → s.power.settle = none → s.power.round = none →
      s.link.queue.length < 12 →
      ∃ (t : State) (pl : Plan), exec (.segment st f) s = .next t
        ∧ t.store = { s.store with
            poolFree := s.store.poolFree - 1
            calls := [{ r with
              plan := some pl
              chain := [⟨f.index.toNat, f.flags.getLsbD 0, f.duration.toNat, f.ramp.toNat, f.end1.toInt, f.end2.toInt,
                f.end3.toInt, .queued⟩]
              received := r.received + 1
              closed := f.flags.getLsbD 0 || decide (f.index.toNat + 1 = r.expected) }] }
        ∧ pl.segs.length = 1
        ∧ t.power.round = some ⟨false, pl.request, .move, .move r.callId, false⟩
        ∧ t.power.granted = s.power.granted ∧ t.planner.motion = s.planner.motion ∧ t.planner.pan = s.planner.pan
        ∧ t.colour = s.colour ∧ t.drive = s.drive ∧ t.cover = s.cover ∧ t.station = s.station ∧ t.pending = s.pending)
    ∧ ∀ (s : State) (g : Figures) (st : Byte) (f : SegmentFields) (r : CallRecord) (c : PoolSegment) (pl : Plan),
      Arrives ⟨st, .segment f⟩ s → s.station.mode.takesIntake = true → s.station.figures = some g →
      s.store.calls = [r] → r.callId = f.callId → r.state = .holdOpen → r.mode = .angles → r.chain = [c] →
      c.state = .consumed → c.index < f.index.toNat → r.received = f.index.toNat → r.received < r.expected →
      r.closed = false → r.plan = some pl → pl.segs.length ≤ f.index.toNat → 0 < s.store.poolFree →
      s.landing.records = [] →
      let e := limitEnd g f.end1.toInt f.end2.toInt
      let v := travel s.planner.pan s.planner.tilt e.1.1 e.1.2
      let d := clampD f.duration.toNat
      let ramp := clampR g d f.ramp.toNat
      checksOk g v d ramp = true → g.baseClaim + segmentClaim g v d ramp + pl.emitterTerm ≤ s.power.granted →
      s.planner.counters.ceiling ≤ 65535 →
      ∃ t : State, exec (.segment st f) s = .next t
        ∧ t.store = { s.store with
            calls := [{ r with
              state := .running
              holdStart := none
              chain := [⟨f.index.toNat, f.flags.getLsbD 0, f.duration.toNat, f.ramp.toNat, f.end1.toInt, f.end2.toInt,
                f.end3.toInt, .active⟩]
              received := r.received + 1
              closed := f.flags.getLsbD 0 || decide (f.index.toNat + 1 = r.expected) }] }
        ∧ t.planner = { s.planner with
            motion := some ⟨s.planner.pan, s.planner.tilt, e.1.1, e.1.2, d, ramp, 0, segmentClaim g v d ramp,
              .call r.callId⟩ }
        ∧ t.power = s.power ∧ t.colour = s.colour ∧ t.drive = s.drive ∧ t.cover = s.cover ∧ t.station = s.station
        ∧ t.pending = s.pending

/-- WAITING_LIMIT and HOLD_OPEN_LIMIT: a call alone in the table that has waited 2000 ticks ends DROPPED, and one that has
held open 500 ticks ends SHORT; its segments are free again and the head stays where it stands (R54, R57, R59). -/
def Obligations.ExpiredCallsEnd : Prop :=
  ∀ (s : State) (r : CallRecord) (w : Word32), Quiet s → s.station.mode = .ready → s.store.calls = [r] →
    r.mode ≠ .follow → s.cover.role = none → s.planner.motion = none → s.power.solo = none →
    (r.state = .waiting → r.waitStart = some w → 2000 ≤ (s.clock.tickCount - w).toNat →
      ∃ t : State, exec .waitingLimit s = .next t
        ∧ t.store.calls = [] ∧ t.store.poolFree = s.store.poolFree + r.chain.length
        ∧ t.store.counters = { s.store.counters with dropped := satInc s.store.counters.dropped }
        ∧ t.planner = s.planner ∧ t.power.granted = s.power.granted ∧ t.colour.levels = s.colour.levels
        ∧ t.clock = s.clock ∧ t.drive = s.drive ∧ t.station = s.station ∧ t.pending = s.pending)
      ∧ (r.state = .holdOpen → r.holdStart = some w → 500 ≤ (s.clock.tickCount - w).toNat →
        ∃ t : State, exec .holdOpenLimit s = .next t
          ∧ t.store.calls = [] ∧ t.store.poolFree = s.store.poolFree + r.chain.length
          ∧ t.store.counters = { s.store.counters with short := satInc s.store.counters.short }
          ∧ t.planner = s.planner ∧ t.power.granted = s.power.granted ∧ t.colour.levels = s.colour.levels
          ∧ t.clock = s.clock ∧ t.drive = s.drive ∧ t.station = s.station ∧ t.pending = s.pending)

/-- SEGMENT_END of the one call held. With no QUEUED segment and the chain open: the finished segment is CONSUMED and stays,
the call is in HOLD_OPEN from this tick, the head holds, and the own granted claim is kept. With a QUEUED segment of the plan
next, fitting it and the grant: the finished one is free, the next ACTIVE from the commanded position. With the chain closed,
none QUEUED and no fade under way: the call ends DONE, its segments are free, the head holds, and the own claim is lowered to
the idle claim (R56, R57, R58, R59, R96, R113; the counter of a starting segment stands within its 16 bits, as CountsKept
keeps it). -/
def Obligations.ChainEndHoldsOpen : Prop :=
  ∀ (s : State) (r : CallRecord) (m : Motion), Quiet s → s.store.calls = [r] →
    s.planner.motion = some m → m.t = m.d → m.owner = .call r.callId →
    (r.closed = false → (∀ g ∈ r.chain, g.state ≠ .queued) →
      exec .segmentEnd s = .next
        { s with
          planner := { s.planner with motion := none }
          store := { s.store with
            calls := [{ r with
              state := .holdOpen
              holdStart := some s.clock.tickCount
              chain := r.chain.map (fun g => if g.state == .active then { g with state := .consumed } else g) }] } })
    ∧ (∀ (g : Figures) (a q : PoolSegment) (pl : Plan) (sp : SegPlan), s.station.figures = some g → r.state = .running →
      r.chain = [a, q] → a.state = .active → q.state = .queued → r.plan = some pl → pl.segs[q.index]? = some sp →
      s.landing.records = [] →
      let v := travel s.planner.pan s.planner.tilt sp.endPan sp.endTilt
      checksOk g v sp.d sp.r = true → g.baseClaim + segmentClaim g v sp.d sp.r + pl.emitterTerm ≤ s.power.granted →
      s.planner.counters.ceiling ≤ 65535 →
      exec .segmentEnd s = .next
        { s with
          planner := { s.planner with
            motion := some ⟨s.planner.pan, s.planner.tilt, sp.endPan, sp.endTilt, sp.d, sp.r, 0,
              segmentClaim g v sp.d sp.r, .call r.callId⟩ }
          store := { s.store with
            poolFree := s.store.poolFree + 1
            calls := [{ r with chain := [{ q with state := .active }] }] } })
    ∧ ∀ g : Figures, s.station.figures = some g → s.station.mode = .ready → r.state = .running → r.mode ≠ .follow →
      r.closed = true → r.chain ≠ [] → (∀ x ∈ r.chain, x.state ≠ .queued) → s.colour.fade = none →
      s.cover.role = none → s.power.solo = none →
      ∃ t : State, exec .segmentEnd s = .next t
        ∧ t.store = { s.store with
            calls := []
            poolFree := s.store.poolFree + r.chain.length
            counters := { s.store.counters with done := satInc s.store.counters.done } }
        ∧ t.planner = { s.planner with motion := none }
        ∧ t.power.granted = s.power.granted ∧ t.power.round.map Round.purpose = some .lowering
        ∧ t.power.round.map Round.request = some (g.baseClaim + (g.pan.hold + g.tilt.hold)
            + emitterClaim g.emitterWatts s.colour.levels)
        ∧ t.colour = s.colour ∧ t.cover = s.cover ∧ t.clock = s.clock ∧ t.drive = s.drive ∧ t.station = s.station
        ∧ t.pending = s.pending

/-- FADE_COMPLETE for a RUNNING COLOUR call alone in the table: the fade takes its last step to the target and is IDLE, and
the call ends DONE (R58, R161; that TICK marks the last step due is log 9). -/
def Obligations.ColourCallDone : Prop :=
  ∀ (s : State) (r : CallRecord) (f : Fade), Quiet s → s.station.mode = .ready → s.store.calls = [r] →
    r.mode = .colour → r.state = .running → s.colour.fade = some f → f.due = true → f.owner = .call r.callId →
    s.cover.role = none → s.planner.motion = none → s.power.solo = none →
    ∃ t : State, exec .fadeComplete s = .next t
      ∧ t.store.calls = [] ∧ t.store.poolFree = s.store.poolFree + r.chain.length
      ∧ t.store.counters = { s.store.counters with done := satInc s.store.counters.done }
      ∧ t.colour = { s.colour with levels := f.target, fade := none }
      ∧ t.planner = s.planner ∧ t.power.granted = s.power.granted ∧ t.clock = s.clock ∧ t.drive = s.drive
      ∧ t.station = s.station ∧ t.pending = s.pending

/-! ### The cover unit's events -/

/-- TRACK_TIMEOUT: a TRACKED record whose arrival lies a track timeout in the past is COASTING, its position kept.
RELIEF_DEADLINE and HOLDER_LAPSE with no role: at a reached deadline the taker is removed and the entry it relieved is a
HOLDER from this tick; a HOLDER entry last stated 1000 ticks ago is removed, returning any entry it relieved; each is
counted (R139, R147, R148). -/
def Obligations.CoverEntriesTimeOut : Prop :=
  (∀ (s : State) (g : Figures) (t : Byte) (r : TrackRecord), s.station.figures = some g →
      s.cover.tracks[t.toNat]? = some r → r.state = .tracked →
      g.trackTimeout ≤ (s.clock.tickCount - r.arrival).toNat →
      exec (.trackTimeout t) s = .next
        { s with
          cover := { s.cover with
            tracks := s.cover.tracks.set t.toNat { r with state := .coasting }
            counters := { s.cover.counters with tracksLost := satInc s.cover.counters.tracksLost } } })
    ∧ (∀ (s : State) (t k : Byte) (l : List Holder) (b c : Holder) (d : Word32), s.cover.role = none →
      s.cover.lists[t.toNat]? = some l → b ∈ l → b.state = .relieved k d →
      (∀ x ∈ l, x.state ≠ .holder → x = b) → c ∈ l → c.station = k →
      (s.clock.tickCount - d).toNat < 2 ^ 31 →
      exec (.reliefDeadline t) s = .next
        { s with
          cover := { s.cover with
            lists := s.cover.lists.set t.toNat
              ((l.filter (fun x => x.station != k)).map
                (fun x => if x = b then { b with state := .holder, lastStated := s.clock.tickCount } else x))
            counters := { s.cover.counters with reliefsExpired := satInc s.cover.counters.reliefsExpired } } })
    ∧ ∀ (s : State) (t st : Byte) (before after : List Holder) (h : Holder), s.cover.role = none →
      s.cover.lists[t.toNat]? = some (before ++ h :: after) → h.station = st → h.state = .holder →
      (∀ x ∈ before ++ after, x.station ≠ st) →
      1000 ≤ (s.clock.tickCount - h.lastStated).toNat →
      exec (.holderLapse t st) s = .next
        { s with
          cover := { s.cover with
            lists := s.cover.lists.set t.toNat
              ((before ++ after).map (fun x =>
                if x.relievedBy st then { x with state := .holder, lastStated := s.clock.tickCount } else x))
            counters := { s.cover.counters with holdersLapsed := satInc s.cover.counters.holdersLapsed } } }

/-- The own role. TAKE_HOLDOFF_END for a candidate with a TRACKED target, a quality above 0 and fewer than C HOLDER entries in
a list without the own station: a TAKE joins the queue, the holdoff is the tick count, and the TAKE is counted (R149; that the
command may be given at any tick from the 200th on is log 25). A HOLDER that another station's TAKE relieves is RELIEVED, its
restate timer stopped, its head still lit. A RELIEVED role whose taker yields is HOLDER again: a HOLD is offered and the restate
timer has 200 ticks to run; that no fade starts is log 47. A RELIEVED role whose taker's on-target HOLD removes the own entry is
CANDIDATE and dark, its restate timer stopped and its on-target flag cleared, and a YIELD is offered; that it carries the role's
C is log 41. A HOLDER that is the taker of an entry whose RELIEF_DEADLINE has passed leaves the list and is CANDIDATE and dark
in the same way, no frame offered. A HOLDER whose own quality is 0, or that ranks below the C-th of more than C HOLDER entries, when another
station's HOLD changes the list: the own entry is removed, it is CANDIDATE and dark in the same way, a YIELD with the own
quality and C is offered, and the self-yield is counted. In the last three no TAKE follows at once: the quality is 0, the
holdoff runs, or the target is not TRACKED. IN_FRAME at a HOLDER not yet on target: with both encoders within the follow-error
limit of the end of the latest follow segment the on-target flag is set, a HOLD that says so is offered at once and the restate
timer has 200 ticks to run; with either outside it the role stands (R145 to R152). -/
def Obligations.OwnRoleMoves : Prop :=
  let noTake := fun (s : State) (target : Nat) => s.cover.ownQ = 0
    ∨ (∃ h, s.cover.holdoff = some h ∧ (s.clock.tickCount - h).toNat < 200)
    ∨ (s.cover.tracks[target]?).map TrackRecord.state ≠ some .tracked
  (∀ (s : State) (r : Role) (h : Word32) (l : List Holder), s.cover.role = some r → r.phase = .candidate →
    s.cover.holdoff = some h → 200 ≤ (s.clock.tickCount - h).toNat →
    (s.cover.tracks[r.target]?).map TrackRecord.state = some .tracked → 0 < s.cover.ownQ →
    s.cover.lists[r.target]? = some l → (∀ x ∈ l, x.station ≠ s.station.ownStation) →
    (l.filter Holder.isHolder).length < r.count →
    let body := TxBody.cover ⟨BitVec.ofNat 8 r.target, 0, BitVec.ofNat 16 s.cover.ownQ, BitVec.ofNat 8 r.count, 0⟩
    HasRoom body s.link.queue →
    exec .takeHoldoffEnd s = .next
      { s with
        cover := { s.cover with
          holdoff := some s.clock.tickCount
          counters := { s.cover.counters with takesMade := satInc s.cover.counters.takesMade } }
        link := { s.link with queue := queued body s.link.queue } })
    ∧ (∀ (s : State) (g : Figures) (st : Byte) (f : CoverFields) (r : Role) (l : List Holder) (w : Holder),
      Arrives ⟨st, .cover f⟩ s → s.station.mode.appliesCover = true → s.station.figures = some g → CoverInv s →
      s.cover.role = some r → r.phase = .holder → r.target = f.target.toNat → f.action = 0 →
      s.cover.lists[r.target]? = some l → (∀ h ∈ l, h.station ≠ st ∧ h.isHolder = true) → f.count.toNat ≤ l.length →
      w ∈ l → w.station = s.station.ownStation → (∀ h ∈ l, h ≠ w → h.above w = true) → l.length < 5 →
      w.q + g.handoffMargin ≤ f.q.toNat →
      exec (.cover st f) s = .next
        { arrived ⟨st, .cover f⟩ s with
          cover := { s.cover with
            role := some { r with phase := .relieved }
            lists := s.cover.lists.set r.target
              (l.map (fun h => if h = w then { w with state := .relieved st (s.clock.tickCount + 1000) } else h)
                ++ [⟨st, f.q.toNat, .holder, s.clock.tickCount⟩])
            restate := none } })
    ∧ (∀ (s : State) (st : Byte) (f : CoverFields) (r : Role) (l : List Holder) (o k : Holder) (d : Word32),
      Arrives ⟨st, .cover f⟩ s → s.station.mode.appliesCover = true → CoverInv s →
      s.cover.role = some r → r.phase = .relieved → r.target = f.target.toNat → f.action = 2 → 0 < s.cover.ownQ →
      s.cover.lists[r.target]? = some l → o ∈ l → o.station = s.station.ownStation → o.state = .relieved st d →
      k ∈ l → k.station = st → l.length ≤ r.count + 1 →
      let body := TxBody.cover ⟨BitVec.ofNat 8 r.target, 1, BitVec.ofNat 16 s.cover.ownQ, BitVec.ofNat 8 r.count,
        if s.cover.onTarget then 1 else 0⟩
      HasRoom body s.link.queue →
      exec (.cover st f) s = .next
        { arrived ⟨st, .cover f⟩ s with
          link := { (arrived ⟨st, .cover f⟩ s).link with queue := queued body s.link.queue }
          cover := { s.cover with
            role := some { r with phase := .holder }
            lists := s.cover.lists.set r.target
              ((l.filter (fun h => h.station != st)).map
                (fun h => if h = o then { o with state := .holder, lastStated := s.clock.tickCount } else h))
            restate := some 200 } })
    ∧ (∀ (s : State) (st : Byte) (f : CoverFields) (r : Role) (l : List Holder) (o k : Holder) (d : Word32),
      Arrives ⟨st, .cover f⟩ s → s.station.mode.appliesCover = true → CoverInv s →
      s.cover.role = some r → r.phase = .relieved → r.target = f.target.toNat → f.action = 1 →
      f.flags.getLsbD 0 = true → s.cover.lists[r.target]? = some l → o ∈ l → o.station = s.station.ownStation →
      o.state = .relieved st d → k ∈ l → k.station = st → k.state = .holder →
      noTake s r.target →
      let body := TxBody.cover ⟨BitVec.ofNat 8 r.target, 2, BitVec.ofNat 16 s.cover.ownQ, BitVec.ofNat 8 r.count, 0⟩
      HasRoom body s.link.queue →
      exec (.cover st f) s = .next
        { arrived ⟨st, .cover f⟩ s with
          link := { (arrived ⟨st, .cover f⟩ s).link with queue := queued body s.link.queue }
          cover := { s.cover with
            role := some { r with phase := .candidate }
            lists := s.cover.lists.set r.target
              ((l.filter (fun h => h != o)).map
                (fun h => if h = k then { k with q := f.q.toNat, lastStated := s.clock.tickCount } else h))
            onTarget := false
            restate := none
            counters := { s.cover.counters with reliefsCompleted := satInc s.cover.counters.reliefsCompleted } }
          colour := { s.colour with levels := [0, 0, 0, 0, 0, 0], fade := none } })
    ∧ (∀ (s : State) (t : Byte) (r : Role) (l : List Holder) (o b : Holder) (d : Word32),
      CoverInv s → s.cover.role = some r → r.phase = .holder → r.target = t.toNat →
      s.cover.lists[r.target]? = some l → o ∈ l → o.station = s.station.ownStation → o.state = .holder →
      b ∈ l → b.state = .relieved o.station d → (s.clock.tickCount - d).toNat < 2 ^ 31 → noTake s r.target →
      exec (.reliefDeadline t) s = .next
        { s with
          cover := { s.cover with
            role := some { r with phase := .candidate }
            lists := s.cover.lists.set r.target
              ((l.filter (fun h => h != o)).map
                (fun h => if h = b then { b with state := .holder, lastStated := s.clock.tickCount } else h))
            onTarget := false
            restate := none
            counters := { s.cover.counters with reliefsExpired := satInc s.cover.counters.reliefsExpired } }
          colour := { s.colour with levels := [0, 0, 0, 0, 0, 0], fade := none } })
    ∧ (∀ (s : State) (st : Byte) (f : CoverFields) (r : Role) (l : List Holder) (o : Holder),
      Arrives ⟨st, .cover f⟩ s → s.station.mode.appliesCover = true → CoverInv s →
      s.cover.role = some r → r.phase = .holder → r.target = f.target.toNat → f.action = 1 →
      s.cover.lists[r.target]? = some l → l.length < 5 →
      (∀ h ∈ l, h.station ≠ st ∧ h.relievedBy st = false ∧ h.relievedBy s.station.ownStation = false) →
      o ∈ l → o.station = s.station.ownStation → o.state = .holder →
      let new : Holder := ⟨st, f.q.toNat, .holder, s.clock.tickCount⟩
      let held := (l ++ [new]).filter Holder.isHolder
      (s.cover.ownQ = 0 ∨ r.count < held.length ∧ r.count ≤ (held.filter (fun h => h.above o)).length) →
      noTake s r.target →
      let body := TxBody.cover ⟨BitVec.ofNat 8 r.target, 2, BitVec.ofNat 16 s.cover.ownQ, BitVec.ofNat 8 r.count, 0⟩
      HasRoom body s.link.queue →
      exec (.cover st f) s = .next
        { arrived ⟨st, .cover f⟩ s with
          link := { (arrived ⟨st, .cover f⟩ s).link with queue := queued body s.link.queue }
          cover := { s.cover with
            role := some { r with phase := .candidate }
            lists := s.cover.lists.set r.target ((l ++ [new]).filter (fun h => h != o))
            onTarget := false
            restate := none
            counters := { s.cover.counters with selfYields := satInc s.cover.counters.selfYields } }
          colour := { s.colour with levels := [0, 0, 0, 0, 0, 0], fade := none } })
    ∧ ∀ (s : State) (g : Figures) (status pan tilt temp : Slot) (r : Role) (endPan endTilt : Int),
      (s.station.mode = .ready ∨ s.station.mode = .isolated) → s.station.figures = some g →
      status.getLsbD 0 = true → status.getLsbD 3 = false → status.getLsbD 4 = false → status.getLsbD 5 = false →
      s.colour.thermal = .normal → temp.toInt < 2 * g.derate → g.derate ≤ g.shutdown →
      s.drive.panRun < 19 → s.drive.tiltRun < 19 → s.cover.role = some r → r.phase = .holder →
      s.cover.onTarget = false → s.cover.followEnd = some (endPan, endTilt) →
      let body := TxBody.cover ⟨BitVec.ofNat 8 r.target, 1, BitVec.ofNat 16 s.cover.ownQ, BitVec.ofNat 8 r.count, 1⟩
      let near := (pan.toInt - endPan).natAbs ≤ g.followErrorLimit ∧ (tilt.toInt - endTilt).natAbs ≤ g.followErrorLimit
      HasRoom body s.link.queue →
      ∃ t : State, exec (.inFrame status pan tilt temp) s = .next t
        ∧ (near → t.cover = { s.cover with onTarget := true, restate := some 200 }
            ∧ t.link = { s.link with queue := queued body s.link.queue })
        ∧ (¬near → t.cover = s.cover ∧ t.link = s.link)
        ∧ t.colour = { s.colour with lastTemp := some temp.toInt } ∧ t.clock = s.clock ∧ t.store = s.store
        ∧ t.aim = s.aim ∧ t.planner = s.planner ∧ t.power = s.power ∧ t.landing = s.landing
        ∧ t.station = s.station ∧ t.drive.outFrame = s.drive.outFrame ∧ t.drive.axesOn = s.drive.axesOn
        ∧ t.drive.lastEncoders = some (pan.toInt, tilt.toInt) ∧ t.pending = s.pending

/-! ### The drive port's events -/

/-- IN_FRAME absent: counted; in a monitored mode the absent-frame count rises, below ten with no fault; elsewhere the count
stays 0; every other word is kept (R175, R176). IN_FRAME present in READY or ISOLATED with no fault bit, the out-frame carrying
axis enable, no role, and a temperature that does not enter SHUTDOWN: the words are recorded, the status by its assigned bits
(log 20), the absent count is 0, and each axis's run rises above the follow-error limit and falls to 0 at or below it; a fall
of a homed bit is counted for each axis (log 19); the thermal state moves by its table with its hysteresis of 5 degrees, and
NORMAL to DERATED is counted. IN_FRAME present in HOMING with both homed bits, no fault bit and a temperature that moves no
state, the link not lost, no call and no role held: homing is complete and the station is READY, the commanded position the
encoders' within the soft limits, the homing timer stopped, and a round OPEN for the idle claim with its CLAIM and a BEACON in
the queue; that both runs are 0 after that frame, whatever its error, is the model's choice (log 53)
(R38, R81, R113, R166, R175, R178, R179, R181, R184, R189). -/
def Obligations.InFramesRecorded : Prop :=
  (∀ (s : State) (status pan tilt temp : Slot), status.getLsbD 0 = false → s.station.mode ≠ .reset →
    s.drive.absentCount + 1 < 10 →
    exec (.inFrame status pan tilt temp) s = .next
      { s with
        drive := { s.drive with
          absentCount := if s.station.mode = .starting ∨ s.station.mode = .homing ∨ s.station.mode = .ready
            ∨ s.station.mode = .isolated then s.drive.absentCount + 1 else 0
          counters := { s.drive.counters with absentFrames := satInc s.drive.counters.absentFrames } } })
    ∧ (∀ (s : State) (g : Figures) (status pan tilt temp : Slot), Quiet s → s.station.mode = .homing →
    s.station.figures = some g → status.getLsbD 0 = true → status.getLsbD 1 = true → status.getLsbD 2 = true →
    status.getLsbD 3 = false → status.getLsbD 4 = false → status.getLsbD 5 = false →
    s.colour.thermal = .normal → temp.toInt < 2 * g.derate → g.derate ≤ g.shutdown → s.link.linkLost = false →
    s.link.lineState ≠ .off → s.store.calls = [] → s.cover.role = none → s.power.round = none → s.power.deferred = [] →
    s.power.solo = none →
    let w := g.baseClaim + (g.pan.hold + g.tilt.hold) + emitterClaim g.emitterWatts s.colour.levels
    let body := TxBody.claim ⟨BitVec.ofNat 8 g.circuit, BitVec.ofNat 16 w, 3⟩
    HasRoom body s.link.queue → HasRoom .beacon s.link.queue → s.link.queue.length < 11 →
    exec (.inFrame status pan tilt temp) s = .next
      { s with
        power := { s.power with reclaim := none, round := some ⟨false, w, .idle, .lowering, false⟩ }
        link := { s.link with queue := queued .beacon (queued body s.link.queue) }
        clock := { s.clock with beaconTimer := some 200 }
        planner := { s.planner with
          pan := clampInt g.panMin g.panMax pan.toInt
          tilt := clampInt g.tiltMin g.tiltMax tilt.toInt }
        colour := { s.colour with lastTemp := some temp.toInt }
        drive := { s.drive with
          absentCount := 0
          lastStatus := some (status &&& 0x3F)
          lastEncoders := some (pan.toInt, tilt.toInt)
          panHomed := true
          tiltHomed := true
          panRun := 0
          tiltRun := 0
          homing := none }
        station := { s.station with mode := .ready, statusAsserted := false } })
    ∧ ∀ (s : State) (g : Figures) (status pan tilt temp : Slot),
    (s.station.mode = .ready ∨ s.station.mode = .isolated) → s.station.figures = some g → status.getLsbD 0 = true →
    status.getLsbD 3 = false → status.getLsbD 4 = false → status.getLsbD 5 = false →
    s.drive.outFrame.axisEnable = true → s.cover.role = none → s.drive.panRun < 19 → s.drive.tiltRun < 19 →
    g.derate + 5 ≤ g.shutdown → (s.colour.thermal = .shutdown ∨ temp.toInt < 2 * g.shutdown) →
    let tau := temp.toInt
    let low := tau ≤ 2 * (g.derate : Int) - 10
    let fell := fun (was now : Bool) (n : Nat) => if was = true ∧ now = false then satInc n else n
    exec (.inFrame status pan tilt temp) s = .next
      { s with
        colour := { s.colour with
          lastTemp := some tau
          thermal := match s.colour.thermal with
            | .normal => if 2 * (g.derate : Int) ≤ tau then .derated else .normal
            | .derated => if low then .normal else .derated
            | .shutdown => if 2 * (g.shutdown : Int) - 10 < tau then .shutdown else if low then .normal else .derated
          counters := { s.colour.counters with
            derates := if s.colour.thermal = .normal ∧ 2 * (g.derate : Int) ≤ tau then satInc s.colour.counters.derates
              else s.colour.counters.derates } }
        drive := { s.drive with
          absentCount := 0
          lastStatus := some (status &&& 0x3F)
          lastEncoders := some (pan.toInt, tilt.toInt)
          panHomed := status.getLsbD 1
          tiltHomed := status.getLsbD 2
          panRun := if g.followErrorLimit < (s.drive.outFrame.pan - pan.toInt).natAbs then s.drive.panRun + 1 else 0
          tiltRun := if g.followErrorLimit < (s.drive.outFrame.tilt - tilt.toInt).natAbs then s.drive.tiltRun + 1 else 0
          counters := { s.drive.counters with
            homingLost := fell s.drive.tiltHomed (status.getLsbD 2)
              (fell s.drive.panHomed (status.getLsbD 1) s.drive.counters.homingLost) } } }

/-- The faults of the drive port and the thermal shutdown in a monitored mode: the tenth absent IN_FRAME in a row (code 6),
HOMING_TIMEOUT at 20000 ticks (8), a present IN_FRAME with a temperature at the shutdown temperature (7), and in READY or
ISOLATED one with a fault bit set (5), with the 20th large follow error of pan (3) or of tilt (4). Each enters FAULTED with
its code, the status line ASSERTED, the levels 0, the motion stopped where it stands, every call ended, the lowering to base
claim and both hold watts sought, the axes-on flag kept. From ISOLATED with solo mode ON, solo mode goes OFF and the own
granted claim is that figure at once (R122, R167, R175 to R180, R190). That a thermal shutdown in HOMING leaves the commanded
position where it stood, the encoders of its frame not followed, is the model's choice (log 18): R81 and R175 do not order
the two. That the figure is sought from STARTING too where less than it is held, as the 0 W after a power-on reset, is the
model's choice (log 56). -/
def Obligations.DriveFaultsEnterFaulted : Prop :=
  ∀ (s : State) (g : Figures) (c : Instr) (status pan tilt temp : Slot) (code : Nat), Quiet s → StoreInv s →
    s.station.figures = some g →
    ((c = .inFrame status pan tilt temp ∧ status.getLsbD 0 = false ∧ s.station.mode.monitored = true
        ∧ s.drive.absentCount = 9 ∧ code = 6)
      ∨ (c = .homingTimeout ∧ s.station.mode = .homing ∧ s.drive.homing = some 20000 ∧ code = 8)
      ∨ (c = .inFrame status pan tilt temp ∧ status.getLsbD 0 = true ∧ s.station.mode.monitored = true
        ∧ s.colour.thermal ≠ .shutdown ∧ 2 * (g.shutdown : Int) ≤ temp.toInt ∧ code = 7)
      ∨ (c = .inFrame status pan tilt temp ∧ status.getLsbD 0 = true
        ∧ (s.station.mode = .ready ∨ s.station.mode = .isolated) ∧ s.colour.thermal = .normal ∧ temp.toInt < 2 * g.derate ∧ g.derate ≤ g.shutdown
        ∧ ((status.getLsbD 3 = true ∨ status.getLsbD 4 = true ∨ status.getLsbD 5 = true) ∧ code = 5
          ∨ status.getLsbD 3 = false ∧ status.getLsbD 4 = false ∧ status.getLsbD 5 = false
            ∧ s.drive.outFrame.axisEnable = true
            ∧ (s.drive.panRun = 19 ∧ g.followErrorLimit < (s.drive.outFrame.pan - pan.toInt).natAbs ∧ code = 3
              ∨ (s.drive.outFrame.pan - pan.toInt).natAbs ≤ g.followErrorLimit ∧ s.drive.tiltRun = 19
                ∧ g.followErrorLimit < (s.drive.outFrame.tilt - tilt.toInt).natAbs ∧ code = 4)))) →
    ∃ t : State, exec c s = .next t
      ∧ t.station.mode = .faulted ∧ t.station.faultCode = code ∧ t.station.statusAsserted = true
      ∧ t.colour.levels = [0, 0, 0, 0, 0, 0] ∧ t.colour.fade = none ∧ (code = 7 → t.colour.thermal = .shutdown)
      ∧ t.planner.motion = none ∧ t.planner.pan = s.planner.pan ∧ t.planner.tilt = s.planner.tilt
      ∧ t.store.calls = [] ∧ t.store.poolFree = 64
      ∧ t.power.round.map Round.request = some (g.baseClaim + (g.pan.hold + g.tilt.hold))
      ∧ t.power.round.map Round.purpose = some .lowering ∧ t.power.solo = none
      ∧ t.power.granted = (match s.power.solo with
          | none => s.power.granted
          | some _ => g.baseClaim + (g.pan.hold + g.tilt.hold))
      ∧ t.drive.axesOn = s.drive.axesOn ∧ t.drive.absentCount = 0 ∧ t.drive.panRun = 0 ∧ t.drive.tiltRun = 0
      ∧ t.drive.homing = none ∧ t.clock.linkClock = s.clock.linkClock ∧ t.pending = s.pending

/-! ### Invariants and whole-machine rules -/

/-- The state after a power-on reset meets every invariant below. -/
def Obligations.ResetIsSafe : Prop := Safe State.reset

/-- Every command leaves nothing to tell from one event to the next: the model's own fields of log 12 are at rest (R103, R115,
R116). -/
def Obligations.QuietKept : Prop :=
  ∀ (s t : State) (c : Instr), Quiet s → exec c s = .next t → Quiet t

/-- Every command keeps the status line, the line state and the beacon timer as the station mode gives them
(R3, R38, R192). -/
def Obligations.ModeInvKept : Prop :=
  ∀ (s t : State) (c : Instr), ModeInv s → exec c s = .next t → ModeInv t

/-- Every command keeps solo mode ON only in ISOLATED (R120, R122), and the owner of the segment under way: a call held in
the table, or the follow role, whose call is held (R82, R98, R140, R153). In a RESET that waits for its release solo mode and
the segment stand as they were, the model's choice (log 29). -/
def Obligations.SoloAndOwnerKept : Prop :=
  (∀ (s t : State) (c : Instr), SoloInv s → exec c s = .next t → SoloInv t)
    ∧ ∀ (s t : State) (c : Instr), OwnerInv s → exec c s = .next t → OwnerInv t

/-- Every command keeps the transmit queue within 12 entries, no two of one kind and subject, attempts at most 3 (R14). -/
def Obligations.QueueInvKept : Prop :=
  ∀ (s t : State) (c : Instr), QueueInv s → exec c s = .next t → QueueInv t

/-- Every command keeps at most 8 calls of distinct ids, and 64 segments free and chained together (R41, R42). -/
def Obligations.StoreInvKept : Prop :=
  ∀ (s t : State) (c : Instr), StoreInv s → exec c s = .next t → StoreInv t

/-- Every command keeps every counter of every block within its 16 bits: none rises above 65535
(R23, R40, R64, R79, R99, R124, R136, R155, R170, R182). -/
def Obligations.CountsKept : Prop :=
  ∀ (s t : State) (c : Instr), CountInv s → exec c s = .next t → CountInv t

/-- Every command keeps the peer table within 96 entries, in ascending order of station, without the own station (R30). -/
def Obligations.PeerInvKept : Prop :=
  ∀ (s t : State) (c : Instr), ModeInv s → PeerInv s → exec c s = .next t → PeerInv t

/-- Every command keeps sixteen holder lists of at most 5 entries, no two of one station, at most one RELIEVED (R144). -/
def Obligations.CoverInvKept : Prop :=
  ∀ (s t : State) (c : Instr), CoverInv s → exec c s = .next t → CoverInv t

/-- A power-on reset sets the link clock and the tick count to 0; outside RESET a tick advances both by one; no other command
moves the tick count, and no other command moves the link clock but a BEACON, from another station or the own one read back,
by a step to its stamp plus one, forward by less than 2^31 (R25). -/
def Obligations.ClockOnlyForward : Prop :=
  ∀ (s t : State) (c : Instr), exec c s = .next t →
    (c = .powerOnReset → t.clock.linkClock = 0 ∧ t.clock.tickCount = 0)
      ∧ (c = .tick → s.station.mode ≠ .reset →
          t.clock.linkClock = s.clock.linkClock + 1 ∧ t.clock.tickCount = s.clock.tickCount + 1)
      ∧ (c ≠ .powerOnReset → c ≠ .tick →
          t.clock.tickCount = s.clock.tickCount
            ∧ (t.clock.linkClock = s.clock.linkClock
              ∨ ∃ (st : Byte) (f : BeaconFields),
                  (c = .beacon st f ∨ c = .transmissionSuccess ∧ s.link.txFrame = some ⟨st, .beacon f⟩)
                  ∧ t.clock.linkClock = f.linkClock + 1
                  ∧ (f.linkClock + 1 - s.clock.linkClock).toNat < 2 ^ 31))

/-- The station mode changes only as the table of R184 lets it, one row or, where a mode is left again in the same event
(READY with the link lost, R189; READY with a fault found, R190), two: RESET is entered by the reset pin and left by the
release alone; CONFIG is entered by a reset or a RESTART to the own number and left by the end of the read or a reset;
HOMING is entered from STARTING at the readback of an own CLAIM; READY is entered from STARTING at the end of the view settle
time, from HOMING at an in-frame, and from ISOLATED with the link-lost condition cleared; ISOLATED is entered with that
condition set, from READY by a stuck line or a clash that sets it, and from STARTING or HOMING by the events that would enter
READY with it set; FAULTED is entered from a monitored mode by an in-frame or a homing timeout, and left by a RESTART or a reset alone. The
state is one between two events: nothing is left to tell, and solo mode is ON only in ISOLATED (R120, R122) or in RESET. -/
def Obligations.ModeChangesByTable : Prop :=
  ∀ (s t : State) (c : Instr), Quiet s → ModeInv s → SoloInv s → exec c s = .next t →
    t.station.mode ≠ s.station.mode →
    let readied := s.station.mode = .starting ∧ c = .viewSettleEnd
      ∨ s.station.mode = .homing ∧ ∃ status pan tilt temp, c = .inFrame status pan tilt temp
    (t.station.mode = .reset → c = .resetAsserted)
      ∧ (s.station.mode = .reset → c = .powerOnReset ∧ t.station.mode = .config)
      ∧ (t.station.mode = .config → c = .powerOnReset
          ∨ ∃ (st : Byte) (f : StopFields), c = .stop st f ∧ f.flags.getLsbD 2 = true ∧ f.scopeType = 1
              ∧ f.scopeValue = s.station.ownStation)
      ∧ (s.station.mode = .config → c = .resetAsserted
          ∨ (∃ bytes, c = .configurationReadEnd bytes)
              ∧ (t.station.mode = .starting ∨ t.station.mode = .unconfigured))
      ∧ (t.station.mode = .starting ∨ t.station.mode = .unconfigured → s.station.mode = .config)
      ∧ (t.station.mode = .homing → s.station.mode = .starting ∧ c = .transmissionSuccess
          ∧ ∃ (st : Byte) (f : ClaimFields), s.link.txFrame = some ⟨st, .claim f⟩)
      ∧ (t.station.mode = .ready → t.link.linkLost = false ∧ (readied ∨ s.station.mode = .isolated ∧ s.link.linkLost = true))
      ∧ (t.station.mode = .isolated → t.link.linkLost = true
          ∧ (readied ∨ s.station.mode = .ready ∧ s.link.linkLost = false ∧ (c = .stuckLine ∨ ∃ p, c = .clash p)))
      ∧ (t.station.mode = .faulted → s.station.mode.monitored = true
          ∧ ((∃ status pan tilt temp, c = .inFrame status pan tilt temp) ∨ c = .homingTimeout))
      ∧ (s.station.mode = .faulted ∨ s.station.mode = .unconfigured →
          t.station.mode = .reset ∨ t.station.mode = .config)

/-- With solo mode OFF before and after, outside ISOLATED and with the link not lost, the own granted claim is written by the
readback of an own CLAIM, by a configuration read and by a power-on reset, and by no other command (R101). -/
def Obligations.GrantWrittenOnlyByGrants : Prop :=
  ∀ (s t : State) (c : Instr), exec c s = .next t → s.station.mode ≠ .isolated → s.link.linkLost = false →
    s.power.solo = none → t.power.solo = none → t.power.granted ≠ s.power.granted →
    (c = .transmissionSuccess ∧ ∃ (st : Byte) (f : ClaimFields), s.link.txFrame = some ⟨st, .claim f⟩
        ∧ t.power.granted = f.requested.toNat)
      ∨ (∃ bytes, c = .configurationReadEnd bytes) ∨ c = .powerOnReset

/-- Every command keeps at most one call of those held that has reached go: a go preempts the rest (R53, R55). -/
def Obligations.OneCallPastGo : Prop :=
  ∀ (s t : State) (c : Instr), StoreInv s → (s.store.calls.filter CallRecord.reachedGo).length ≤ 1 →
    exec c s = .next t → (t.store.calls.filter CallRecord.reachedGo).length ≤ 1
end

