-- ==== Sys2Proof/Laws/State.lean ====
section
/-! SUPPORT. What each named record update leaves and writes, field by field, all true by rfl. -/

namespace Sys2Proof.Machine

/-! haltMotion -/

@[simp] theorem haltMotion_link (s : State) : (haltMotion s).link = s.link := rfl
@[simp] theorem haltMotion_clock (s : State) : (haltMotion s).clock = s.clock := rfl
@[simp] theorem haltMotion_store (s : State) : (haltMotion s).store = s.store := rfl
@[simp] theorem haltMotion_aim (s : State) : (haltMotion s).aim = s.aim := rfl
@[simp] theorem haltMotion_planner (s : State) : (haltMotion s).planner = { s.planner with motion := none } := rfl
@[simp] theorem haltMotion_power (s : State) : (haltMotion s).power = s.power := rfl
@[simp] theorem haltMotion_landing (s : State) : (haltMotion s).landing = s.landing := rfl
@[simp] theorem haltMotion_cover (s : State) : (haltMotion s).cover = s.cover := rfl
@[simp] theorem haltMotion_colour (s : State) : (haltMotion s).colour = s.colour := rfl
@[simp] theorem haltMotion_drive (s : State) : (haltMotion s).drive = s.drive := rfl
@[simp] theorem haltMotion_station (s : State) : (haltMotion s).station = s.station := rfl
@[simp] theorem haltMotion_notices (s : State) : (haltMotion s).notices = s.notices := rfl
@[simp] theorem haltMotion_pending (s : State) : (haltMotion s).pending = s.pending := rfl

/-! dark -/

@[simp] theorem dark_link (s : State) : (dark s).link = s.link := rfl
@[simp] theorem dark_clock (s : State) : (dark s).clock = s.clock := rfl
@[simp] theorem dark_store (s : State) : (dark s).store = s.store := rfl
@[simp] theorem dark_aim (s : State) : (dark s).aim = s.aim := rfl
@[simp] theorem dark_planner (s : State) : (dark s).planner = s.planner := rfl
@[simp] theorem dark_power (s : State) : (dark s).power = s.power := rfl
@[simp] theorem dark_landing (s : State) : (dark s).landing = s.landing := rfl
@[simp] theorem dark_cover (s : State) : (dark s).cover = s.cover := rfl
@[simp] theorem dark_colour (s : State) : (dark s).colour = { s.colour with levels := darkLevels, fade := none } := rfl
@[simp] theorem dark_drive (s : State) : (dark s).drive = s.drive := rfl
@[simp] theorem dark_station (s : State) : (dark s).station = s.station := rfl
@[simp] theorem dark_notices (s : State) : (dark s).notices = s.notices := rfl
@[simp] theorem dark_pending (s : State) : (dark s).pending = s.pending := rfl

/-! commandWithin -/

@[simp] theorem commandWithin_link (g : Figures) (p t : Int) (s : State) : (commandWithin g p t s).link = s.link := rfl
@[simp] theorem commandWithin_clock (g : Figures) (p t : Int) (s : State) :
    (commandWithin g p t s).clock = s.clock := rfl
@[simp] theorem commandWithin_store (g : Figures) (p t : Int) (s : State) :
    (commandWithin g p t s).store = s.store := rfl
@[simp] theorem commandWithin_aim (g : Figures) (p t : Int) (s : State) : (commandWithin g p t s).aim = s.aim := rfl
@[simp] theorem commandWithin_planner (g : Figures) (p t : Int) (s : State) :
    (commandWithin g p t s).planner =
      { s.planner with pan := clampInt g.panMin g.panMax p, tilt := clampInt g.tiltMin g.tiltMax t } := rfl
@[simp] theorem commandWithin_power (g : Figures) (p t : Int) (s : State) :
    (commandWithin g p t s).power = s.power := rfl
@[simp] theorem commandWithin_landing (g : Figures) (p t : Int) (s : State) :
    (commandWithin g p t s).landing = s.landing := rfl
@[simp] theorem commandWithin_cover (g : Figures) (p t : Int) (s : State) :
    (commandWithin g p t s).cover = s.cover := rfl
@[simp] theorem commandWithin_colour (g : Figures) (p t : Int) (s : State) :
    (commandWithin g p t s).colour = s.colour := rfl
@[simp] theorem commandWithin_drive (g : Figures) (p t : Int) (s : State) :
    (commandWithin g p t s).drive = s.drive := rfl
@[simp] theorem commandWithin_station (g : Figures) (p t : Int) (s : State) :
    (commandWithin g p t s).station = s.station := rfl
@[simp] theorem commandWithin_notices (g : Figures) (p t : Int) (s : State) :
    (commandWithin g p t s).notices = s.notices := rfl
@[simp] theorem commandWithin_pending (g : Figures) (p t : Int) (s : State) :
    (commandWithin g p t s).pending = s.pending := rfl

/-! updateCall -/

@[simp] theorem updateCall_link (id : Word16) (f : CallRecord → CallRecord) (s : State) :
    (updateCall id f s).link = s.link := rfl
@[simp] theorem updateCall_clock (id : Word16) (f : CallRecord → CallRecord) (s : State) :
    (updateCall id f s).clock = s.clock := rfl
@[simp] theorem updateCall_store (id : Word16) (f : CallRecord → CallRecord) (s : State) :
    (updateCall id f s).store =
      { s.store with calls := s.store.calls.map (fun r => if r.callId == id then f r else r) } := rfl
@[simp] theorem updateCall_aim (id : Word16) (f : CallRecord → CallRecord) (s : State) :
    (updateCall id f s).aim = s.aim := rfl
@[simp] theorem updateCall_planner (id : Word16) (f : CallRecord → CallRecord) (s : State) :
    (updateCall id f s).planner = s.planner := rfl
@[simp] theorem updateCall_power (id : Word16) (f : CallRecord → CallRecord) (s : State) :
    (updateCall id f s).power = s.power := rfl
@[simp] theorem updateCall_landing (id : Word16) (f : CallRecord → CallRecord) (s : State) :
    (updateCall id f s).landing = s.landing := rfl
@[simp] theorem updateCall_cover (id : Word16) (f : CallRecord → CallRecord) (s : State) :
    (updateCall id f s).cover = s.cover := rfl
@[simp] theorem updateCall_colour (id : Word16) (f : CallRecord → CallRecord) (s : State) :
    (updateCall id f s).colour = s.colour := rfl
@[simp] theorem updateCall_drive (id : Word16) (f : CallRecord → CallRecord) (s : State) :
    (updateCall id f s).drive = s.drive := rfl
@[simp] theorem updateCall_station (id : Word16) (f : CallRecord → CallRecord) (s : State) :
    (updateCall id f s).station = s.station := rfl
@[simp] theorem updateCall_notices (id : Word16) (f : CallRecord → CallRecord) (s : State) :
    (updateCall id f s).notices = s.notices := rfl
@[simp] theorem updateCall_pending (id : Word16) (f : CallRecord → CallRecord) (s : State) :
    (updateCall id f s).pending = s.pending := rfl

/-! updateLanding -/

@[simp] theorem updateLanding_link (id : Word16) (f : LandingRecord → LandingRecord) (s : State) :
    (updateLanding id f s).link = s.link := rfl
@[simp] theorem updateLanding_clock (id : Word16) (f : LandingRecord → LandingRecord) (s : State) :
    (updateLanding id f s).clock = s.clock := rfl
@[simp] theorem updateLanding_store (id : Word16) (f : LandingRecord → LandingRecord) (s : State) :
    (updateLanding id f s).store = s.store := rfl
@[simp] theorem updateLanding_aim (id : Word16) (f : LandingRecord → LandingRecord) (s : State) :
    (updateLanding id f s).aim = s.aim := rfl
@[simp] theorem updateLanding_planner (id : Word16) (f : LandingRecord → LandingRecord) (s : State) :
    (updateLanding id f s).planner = s.planner := rfl
@[simp] theorem updateLanding_power (id : Word16) (f : LandingRecord → LandingRecord) (s : State) :
    (updateLanding id f s).power = s.power := rfl
@[simp] theorem updateLanding_landing (id : Word16) (f : LandingRecord → LandingRecord) (s : State) :
    (updateLanding id f s).landing =
      { s.landing with records := s.landing.records.map (fun r => if r.callId == id then f r else r) } := rfl
@[simp] theorem updateLanding_cover (id : Word16) (f : LandingRecord → LandingRecord) (s : State) :
    (updateLanding id f s).cover = s.cover := rfl
@[simp] theorem updateLanding_colour (id : Word16) (f : LandingRecord → LandingRecord) (s : State) :
    (updateLanding id f s).colour = s.colour := rfl
@[simp] theorem updateLanding_drive (id : Word16) (f : LandingRecord → LandingRecord) (s : State) :
    (updateLanding id f s).drive = s.drive := rfl
@[simp] theorem updateLanding_station (id : Word16) (f : LandingRecord → LandingRecord) (s : State) :
    (updateLanding id f s).station = s.station := rfl
@[simp] theorem updateLanding_notices (id : Word16) (f : LandingRecord → LandingRecord) (s : State) :
    (updateLanding id f s).notices = s.notices := rfl
@[simp] theorem updateLanding_pending (id : Word16) (f : LandingRecord → LandingRecord) (s : State) :
    (updateLanding id f s).pending = s.pending := rfl

/-! removeLanding -/

@[simp] theorem removeLanding_link (id : Word16) (s : State) : (removeLanding id s).link = s.link := rfl
@[simp] theorem removeLanding_clock (id : Word16) (s : State) : (removeLanding id s).clock = s.clock := rfl
@[simp] theorem removeLanding_store (id : Word16) (s : State) : (removeLanding id s).store = s.store := rfl
@[simp] theorem removeLanding_aim (id : Word16) (s : State) : (removeLanding id s).aim = s.aim := rfl
@[simp] theorem removeLanding_planner (id : Word16) (s : State) : (removeLanding id s).planner = s.planner := rfl
@[simp] theorem removeLanding_power (id : Word16) (s : State) : (removeLanding id s).power = s.power := rfl
@[simp] theorem removeLanding_landing (id : Word16) (s : State) :
    (removeLanding id s).landing =
      { s.landing with records := s.landing.records.filter (fun r => r.callId != id) } := rfl
@[simp] theorem removeLanding_cover (id : Word16) (s : State) : (removeLanding id s).cover = s.cover := rfl
@[simp] theorem removeLanding_colour (id : Word16) (s : State) : (removeLanding id s).colour = s.colour := rfl
@[simp] theorem removeLanding_drive (id : Word16) (s : State) : (removeLanding id s).drive = s.drive := rfl
@[simp] theorem removeLanding_station (id : Word16) (s : State) : (removeLanding id s).station = s.station := rfl
@[simp] theorem removeLanding_notices (id : Word16) (s : State) : (removeLanding id s).notices = s.notices := rfl
@[simp] theorem removeLanding_pending (id : Word16) (s : State) : (removeLanding id s).pending = s.pending := rfl

/-! updatePeer -/

@[simp] theorem updatePeer_link (st : Byte) (f : Peer → Peer) (s : State) : (updatePeer st f s).link = s.link := rfl
@[simp] theorem updatePeer_clock (st : Byte) (f : Peer → Peer) (s : State) :
    (updatePeer st f s).clock =
      { s.clock with peers := s.clock.peers.map (fun p => if p.station == st then f p else p) } := rfl
@[simp] theorem updatePeer_store (st : Byte) (f : Peer → Peer) (s : State) : (updatePeer st f s).store = s.store := rfl
@[simp] theorem updatePeer_aim (st : Byte) (f : Peer → Peer) (s : State) : (updatePeer st f s).aim = s.aim := rfl
@[simp] theorem updatePeer_planner (st : Byte) (f : Peer → Peer) (s : State) :
    (updatePeer st f s).planner = s.planner := rfl
@[simp] theorem updatePeer_power (st : Byte) (f : Peer → Peer) (s : State) : (updatePeer st f s).power = s.power := rfl
@[simp] theorem updatePeer_landing (st : Byte) (f : Peer → Peer) (s : State) :
    (updatePeer st f s).landing = s.landing := rfl
@[simp] theorem updatePeer_cover (st : Byte) (f : Peer → Peer) (s : State) : (updatePeer st f s).cover = s.cover := rfl
@[simp] theorem updatePeer_colour (st : Byte) (f : Peer → Peer) (s : State) :
    (updatePeer st f s).colour = s.colour := rfl
@[simp] theorem updatePeer_drive (st : Byte) (f : Peer → Peer) (s : State) : (updatePeer st f s).drive = s.drive := rfl
@[simp] theorem updatePeer_station (st : Byte) (f : Peer → Peer) (s : State) :
    (updatePeer st f s).station = s.station := rfl
@[simp] theorem updatePeer_notices (st : Byte) (f : Peer → Peer) (s : State) :
    (updatePeer st f s).notices = s.notices := rfl
@[simp] theorem updatePeer_pending (st : Byte) (f : Peer → Peer) (s : State) :
    (updatePeer st f s).pending = s.pending := rfl

/-! setHolders -/

@[simp] theorem setHolders_link (t : Nat) (l : List Holder) (s : State) : (setHolders t l s).link = s.link := rfl
@[simp] theorem setHolders_clock (t : Nat) (l : List Holder) (s : State) : (setHolders t l s).clock = s.clock := rfl
@[simp] theorem setHolders_store (t : Nat) (l : List Holder) (s : State) : (setHolders t l s).store = s.store := rfl
@[simp] theorem setHolders_aim (t : Nat) (l : List Holder) (s : State) : (setHolders t l s).aim = s.aim := rfl
@[simp] theorem setHolders_planner (t : Nat) (l : List Holder) (s : State) :
    (setHolders t l s).planner = s.planner := rfl
@[simp] theorem setHolders_power (t : Nat) (l : List Holder) (s : State) : (setHolders t l s).power = s.power := rfl
@[simp] theorem setHolders_landing (t : Nat) (l : List Holder) (s : State) :
    (setHolders t l s).landing = s.landing := rfl
@[simp] theorem setHolders_cover (t : Nat) (l : List Holder) (s : State) :
    (setHolders t l s).cover = { s.cover with lists := s.cover.lists.set t l } := rfl
@[simp] theorem setHolders_colour (t : Nat) (l : List Holder) (s : State) : (setHolders t l s).colour = s.colour := rfl
@[simp] theorem setHolders_drive (t : Nat) (l : List Holder) (s : State) : (setHolders t l s).drive = s.drive := rfl
@[simp] theorem setHolders_station (t : Nat) (l : List Holder) (s : State) :
    (setHolders t l s).station = s.station := rfl
@[simp] theorem setHolders_notices (t : Nat) (l : List Holder) (s : State) :
    (setHolders t l s).notices = s.notices := rfl
@[simp] theorem setHolders_pending (t : Nat) (l : List Holder) (s : State) :
    (setHolders t l s).pending = s.pending := rfl

/-! dropFromLists -/

@[simp] theorem dropFromLists_link (st : Byte) (s : State) : (dropFromLists st s).link = s.link := rfl
@[simp] theorem dropFromLists_clock (st : Byte) (s : State) : (dropFromLists st s).clock = s.clock := rfl
@[simp] theorem dropFromLists_store (st : Byte) (s : State) : (dropFromLists st s).store = s.store := rfl
@[simp] theorem dropFromLists_aim (st : Byte) (s : State) : (dropFromLists st s).aim = s.aim := rfl
@[simp] theorem dropFromLists_planner (st : Byte) (s : State) : (dropFromLists st s).planner = s.planner := rfl
@[simp] theorem dropFromLists_power (st : Byte) (s : State) : (dropFromLists st s).power = s.power := rfl
@[simp] theorem dropFromLists_landing (st : Byte) (s : State) : (dropFromLists st s).landing = s.landing := rfl
@[simp] theorem dropFromLists_cover (st : Byte) (s : State) :
    (dropFromLists st s).cover = { s.cover with lists := s.cover.lists.map (removeHolder s.clock.tickCount st) } := rfl
@[simp] theorem dropFromLists_colour (st : Byte) (s : State) : (dropFromLists st s).colour = s.colour := rfl
@[simp] theorem dropFromLists_drive (st : Byte) (s : State) : (dropFromLists st s).drive = s.drive := rfl
@[simp] theorem dropFromLists_station (st : Byte) (s : State) : (dropFromLists st s).station = s.station := rfl
@[simp] theorem dropFromLists_notices (st : Byte) (s : State) : (dropFromLists st s).notices = s.notices := rfl
@[simp] theorem dropFromLists_pending (st : Byte) (s : State) : (dropFromLists st s).pending = s.pending := rfl

/-! clearRole -/

@[simp] theorem clearRole_link (s : State) : (clearRole s).link = s.link := rfl
@[simp] theorem clearRole_clock (s : State) : (clearRole s).clock = s.clock := rfl
@[simp] theorem clearRole_store (s : State) : (clearRole s).store = s.store := rfl
@[simp] theorem clearRole_aim (s : State) : (clearRole s).aim = s.aim := rfl
@[simp] theorem clearRole_planner (s : State) : (clearRole s).planner = s.planner := rfl
@[simp] theorem clearRole_power (s : State) : (clearRole s).power = s.power := rfl
@[simp] theorem clearRole_landing (s : State) : (clearRole s).landing = s.landing := rfl
@[simp] theorem clearRole_cover (s : State) :
    (clearRole s).cover =
      { s.cover with role := none, restate := none, onTarget := false, holdoff := none, followEnd := none } := rfl
@[simp] theorem clearRole_colour (s : State) : (clearRole s).colour = s.colour := rfl
@[simp] theorem clearRole_drive (s : State) : (clearRole s).drive = s.drive := rfl
@[simp] theorem clearRole_station (s : State) : (clearRole s).station = s.station := rfl
@[simp] theorem clearRole_notices (s : State) : (clearRole s).notices = s.notices := rfl
@[simp] theorem clearRole_pending (s : State) : (clearRole s).pending = s.pending := rfl

/-! recordTrack -/

@[simp] theorem recordTrack_link (f : TrackFields) (s : State) : (recordTrack f s).link = s.link := rfl
@[simp] theorem recordTrack_clock (f : TrackFields) (s : State) : (recordTrack f s).clock = s.clock := rfl
@[simp] theorem recordTrack_store (f : TrackFields) (s : State) : (recordTrack f s).store = s.store := rfl
@[simp] theorem recordTrack_aim (f : TrackFields) (s : State) : (recordTrack f s).aim = s.aim := rfl
@[simp] theorem recordTrack_planner (f : TrackFields) (s : State) : (recordTrack f s).planner = s.planner := rfl
@[simp] theorem recordTrack_power (f : TrackFields) (s : State) : (recordTrack f s).power = s.power := rfl
@[simp] theorem recordTrack_landing (f : TrackFields) (s : State) : (recordTrack f s).landing = s.landing := rfl
@[simp] theorem recordTrack_cover (f : TrackFields) (s : State) :
    (recordTrack f s).cover =
      { s.cover with tracks := s.cover.tracks.set f.target.toNat ⟨.tracked, f.x, f.y, f.z, f.stamp, s.clock.tickCount⟩ } := rfl
@[simp] theorem recordTrack_colour (f : TrackFields) (s : State) : (recordTrack f s).colour = s.colour := rfl
@[simp] theorem recordTrack_drive (f : TrackFields) (s : State) : (recordTrack f s).drive = s.drive := rfl
@[simp] theorem recordTrack_station (f : TrackFields) (s : State) : (recordTrack f s).station = s.station := rfl
@[simp] theorem recordTrack_notices (f : TrackFields) (s : State) : (recordTrack f s).notices = s.notices := rfl
@[simp] theorem recordTrack_pending (f : TrackFields) (s : State) : (recordTrack f s).pending = s.pending := rfl

/-! handFollow -/

@[simp] theorem handFollow_link (p t : Int) (s : State) : (handFollow p t s).link = s.link := rfl
@[simp] theorem handFollow_clock (p t : Int) (s : State) : (handFollow p t s).clock = s.clock := rfl
@[simp] theorem handFollow_store (p t : Int) (s : State) : (handFollow p t s).store = s.store := rfl
@[simp] theorem handFollow_aim (p t : Int) (s : State) : (handFollow p t s).aim = s.aim := rfl
@[simp] theorem handFollow_power (p t : Int) (s : State) : (handFollow p t s).power = s.power := rfl
@[simp] theorem handFollow_landing (p t : Int) (s : State) : (handFollow p t s).landing = s.landing := rfl
@[simp] theorem handFollow_colour (p t : Int) (s : State) : (handFollow p t s).colour = s.colour := rfl
@[simp] theorem handFollow_drive (p t : Int) (s : State) : (handFollow p t s).drive = s.drive := rfl
@[simp] theorem handFollow_station (p t : Int) (s : State) : (handFollow p t s).station = s.station := rfl
@[simp] theorem handFollow_notices (p t : Int) (s : State) : (handFollow p t s).notices = s.notices := rfl
@[simp] theorem handFollow_pending (p t : Int) (s : State) : (handFollow p t s).pending = s.pending := rfl

/-! closeGranted -/

@[simp] theorem closeGranted_link (w : Nat) (p : Purpose) (s : State) : (closeGranted w p s).link = s.link := rfl
@[simp] theorem closeGranted_clock (w : Nat) (p : Purpose) (s : State) : (closeGranted w p s).clock = s.clock := rfl
@[simp] theorem closeGranted_store (w : Nat) (p : Purpose) (s : State) : (closeGranted w p s).store = s.store := rfl
@[simp] theorem closeGranted_aim (w : Nat) (p : Purpose) (s : State) : (closeGranted w p s).aim = s.aim := rfl
@[simp] theorem closeGranted_planner (w : Nat) (p : Purpose) (s : State) :
    (closeGranted w p s).planner = s.planner := rfl
@[simp] theorem closeGranted_power (w : Nat) (p : Purpose) (s : State) :
    (closeGranted w p s).power = { s.power with round := none, reclaim := none } := rfl
@[simp] theorem closeGranted_landing (w : Nat) (p : Purpose) (s : State) :
    (closeGranted w p s).landing = s.landing := rfl
@[simp] theorem closeGranted_cover (w : Nat) (p : Purpose) (s : State) : (closeGranted w p s).cover = s.cover := rfl
@[simp] theorem closeGranted_colour (w : Nat) (p : Purpose) (s : State) : (closeGranted w p s).colour = s.colour := rfl
@[simp] theorem closeGranted_drive (w : Nat) (p : Purpose) (s : State) : (closeGranted w p s).drive = s.drive := rfl
@[simp] theorem closeGranted_station (w : Nat) (p : Purpose) (s : State) :
    (closeGranted w p s).station = s.station := rfl
@[simp] theorem closeGranted_notices (w : Nat) (p : Purpose) (s : State) :
    (closeGranted w p s).notices = s.notices ++ [.granted p w, .rearm] := rfl
@[simp] theorem closeGranted_pending (w : Nat) (p : Purpose) (s : State) :
    (closeGranted w p s).pending = s.pending := rfl

/-! endRound -/

@[simp] theorem endRound_link (s : State) : (endRound s).link = s.link := rfl
@[simp] theorem endRound_clock (s : State) : (endRound s).clock = s.clock := rfl
@[simp] theorem endRound_store (s : State) : (endRound s).store = s.store := rfl
@[simp] theorem endRound_aim (s : State) : (endRound s).aim = s.aim := rfl
@[simp] theorem endRound_planner (s : State) : (endRound s).planner = s.planner := rfl
@[simp] theorem endRound_power (s : State) :
    (endRound s).power = { s.power with round := none, reclaim := none, deferred := [], abandoned := false } := rfl
@[simp] theorem endRound_landing (s : State) : (endRound s).landing = s.landing := rfl
@[simp] theorem endRound_cover (s : State) : (endRound s).cover = s.cover := rfl
@[simp] theorem endRound_colour (s : State) : (endRound s).colour = s.colour := rfl
@[simp] theorem endRound_drive (s : State) : (endRound s).drive = s.drive := rfl
@[simp] theorem endRound_station (s : State) : (endRound s).station = s.station := rfl
@[simp] theorem endRound_notices (s : State) : (endRound s).notices = s.notices := rfl
@[simp] theorem endRound_pending (s : State) : (endRound s).pending = s.pending := rfl

/-! awaitRound -/

@[simp] theorem awaitRound_link (r : Round) (s : State) : (awaitRound r s).link = s.link := rfl
@[simp] theorem awaitRound_clock (r : Round) (s : State) : (awaitRound r s).clock = s.clock := rfl
@[simp] theorem awaitRound_store (r : Round) (s : State) : (awaitRound r s).store = s.store := rfl
@[simp] theorem awaitRound_aim (r : Round) (s : State) : (awaitRound r s).aim = s.aim := rfl
@[simp] theorem awaitRound_planner (r : Round) (s : State) : (awaitRound r s).planner = s.planner := rfl
@[simp] theorem awaitRound_power (r : Round) (s : State) :
    (awaitRound r s).power =
      { s.power with round := some { r with awaiting := true }, reclaim := some Config.reclaimTicks } := rfl
@[simp] theorem awaitRound_landing (r : Round) (s : State) : (awaitRound r s).landing = s.landing := rfl
@[simp] theorem awaitRound_cover (r : Round) (s : State) : (awaitRound r s).cover = s.cover := rfl
@[simp] theorem awaitRound_colour (r : Round) (s : State) : (awaitRound r s).colour = s.colour := rfl
@[simp] theorem awaitRound_drive (r : Round) (s : State) : (awaitRound r s).drive = s.drive := rfl
@[simp] theorem awaitRound_station (r : Round) (s : State) : (awaitRound r s).station = s.station := rfl
@[simp] theorem awaitRound_notices (r : Round) (s : State) : (awaitRound r s).notices = s.notices := rfl
@[simp] theorem awaitRound_pending (r : Round) (s : State) : (awaitRound r s).pending = s.pending := rfl

/-! countReclaim -/

@[simp] theorem countReclaim_link (s : State) : (countReclaim s).link = s.link := rfl
@[simp] theorem countReclaim_clock (s : State) : (countReclaim s).clock = s.clock := rfl
@[simp] theorem countReclaim_store (s : State) : (countReclaim s).store = s.store := rfl
@[simp] theorem countReclaim_aim (s : State) : (countReclaim s).aim = s.aim := rfl
@[simp] theorem countReclaim_planner (s : State) : (countReclaim s).planner = s.planner := rfl
@[simp] theorem countReclaim_power (s : State) :
    (countReclaim s).power =
      { s.power with counters := { s.power.counters with reclaims := satInc s.power.counters.reclaims } } := rfl
@[simp] theorem countReclaim_landing (s : State) : (countReclaim s).landing = s.landing := rfl
@[simp] theorem countReclaim_cover (s : State) : (countReclaim s).cover = s.cover := rfl
@[simp] theorem countReclaim_colour (s : State) : (countReclaim s).colour = s.colour := rfl
@[simp] theorem countReclaim_drive (s : State) : (countReclaim s).drive = s.drive := rfl
@[simp] theorem countReclaim_station (s : State) : (countReclaim s).station = s.station := rfl
@[simp] theorem countReclaim_notices (s : State) : (countReclaim s).notices = s.notices := rfl
@[simp] theorem countReclaim_pending (s : State) : (countReclaim s).pending = s.pending := rfl

/-! dropRecord -/

@[simp] theorem dropRecord_link (r : CallRecord) (o : CallOutcome) (s : State) : (dropRecord r o s).link = s.link := rfl
@[simp] theorem dropRecord_clock (r : CallRecord) (o : CallOutcome) (s : State) :
    (dropRecord r o s).clock = s.clock := rfl
@[simp] theorem dropRecord_aim (r : CallRecord) (o : CallOutcome) (s : State) : (dropRecord r o s).aim = s.aim := rfl
@[simp] theorem dropRecord_planner (r : CallRecord) (o : CallOutcome) (s : State) :
    (dropRecord r o s).planner = s.planner := rfl
@[simp] theorem dropRecord_power (r : CallRecord) (o : CallOutcome) (s : State) :
    (dropRecord r o s).power = s.power := rfl
@[simp] theorem dropRecord_landing (r : CallRecord) (o : CallOutcome) (s : State) :
    (dropRecord r o s).landing = s.landing := rfl
@[simp] theorem dropRecord_cover (r : CallRecord) (o : CallOutcome) (s : State) :
    (dropRecord r o s).cover = s.cover := rfl
@[simp] theorem dropRecord_colour (r : CallRecord) (o : CallOutcome) (s : State) :
    (dropRecord r o s).colour = s.colour := rfl
@[simp] theorem dropRecord_drive (r : CallRecord) (o : CallOutcome) (s : State) :
    (dropRecord r o s).drive = s.drive := rfl
@[simp] theorem dropRecord_station (r : CallRecord) (o : CallOutcome) (s : State) :
    (dropRecord r o s).station = s.station := rfl
@[simp] theorem dropRecord_notices (r : CallRecord) (o : CallOutcome) (s : State) :
    (dropRecord r o s).notices = s.notices := rfl
@[simp] theorem dropRecord_pending (r : CallRecord) (o : CallOutcome) (s : State) :
    (dropRecord r o s).pending = s.pending := rfl

/-! runSegment -/

@[simp] theorem runSegment_link (r : CallRecord) (g : PoolSegment) (s : State) : (runSegment r g s).link = s.link := rfl
@[simp] theorem runSegment_clock (r : CallRecord) (g : PoolSegment) (s : State) :
    (runSegment r g s).clock = s.clock := rfl
@[simp] theorem runSegment_store (r : CallRecord) (g : PoolSegment) (s : State) :
    (runSegment r g s).store = s.store := rfl
@[simp] theorem runSegment_power (r : CallRecord) (g : PoolSegment) (s : State) :
    (runSegment r g s).power = s.power := rfl
@[simp] theorem runSegment_cover (r : CallRecord) (g : PoolSegment) (s : State) :
    (runSegment r g s).cover = s.cover := rfl
@[simp] theorem runSegment_colour (r : CallRecord) (g : PoolSegment) (s : State) :
    (runSegment r g s).colour = s.colour := rfl
@[simp] theorem runSegment_drive (r : CallRecord) (g : PoolSegment) (s : State) :
    (runSegment r g s).drive = s.drive := rfl
@[simp] theorem runSegment_station (r : CallRecord) (g : PoolSegment) (s : State) :
    (runSegment r g s).station = s.station := rfl
@[simp] theorem runSegment_notices (r : CallRecord) (g : PoolSegment) (s : State) :
    (runSegment r g s).notices = s.notices := rfl
@[simp] theorem runSegment_pending (r : CallRecord) (g : PoolSegment) (s : State) :
    (runSegment r g s).pending = s.pending := rfl

/-! activateSegment -/

@[simp] theorem activateSegment_link (r : CallRecord) (g : PoolSegment) (s : State) :
    (activateSegment r g s).link = s.link := rfl
@[simp] theorem activateSegment_clock (r : CallRecord) (g : PoolSegment) (s : State) :
    (activateSegment r g s).clock = s.clock := rfl
@[simp] theorem activateSegment_aim (r : CallRecord) (g : PoolSegment) (s : State) :
    (activateSegment r g s).aim = s.aim := rfl
@[simp] theorem activateSegment_planner (r : CallRecord) (g : PoolSegment) (s : State) :
    (activateSegment r g s).planner = s.planner := rfl
@[simp] theorem activateSegment_power (r : CallRecord) (g : PoolSegment) (s : State) :
    (activateSegment r g s).power = s.power := rfl
@[simp] theorem activateSegment_landing (r : CallRecord) (g : PoolSegment) (s : State) :
    (activateSegment r g s).landing = s.landing := rfl
@[simp] theorem activateSegment_cover (r : CallRecord) (g : PoolSegment) (s : State) :
    (activateSegment r g s).cover = s.cover := rfl
@[simp] theorem activateSegment_colour (r : CallRecord) (g : PoolSegment) (s : State) :
    (activateSegment r g s).colour = s.colour := rfl
@[simp] theorem activateSegment_drive (r : CallRecord) (g : PoolSegment) (s : State) :
    (activateSegment r g s).drive = s.drive := rfl
@[simp] theorem activateSegment_station (r : CallRecord) (g : PoolSegment) (s : State) :
    (activateSegment r g s).station = s.station := rfl
@[simp] theorem activateSegment_notices (r : CallRecord) (g : PoolSegment) (s : State) :
    (activateSegment r g s).notices = s.notices := rfl
@[simp] theorem activateSegment_pending (r : CallRecord) (g : PoolSegment) (s : State) :
    (activateSegment r g s).pending = s.pending := rfl

/-! advanceClocks -/

@[simp] theorem advanceClocks_link (s : State) : (advanceClocks s).link = s.link := rfl
@[simp] theorem advanceClocks_clock (s : State) :
    (advanceClocks s).clock =
      { s.clock with linkClock := s.clock.linkClock + 1, tickCount := s.clock.tickCount + 1 } := rfl
@[simp] theorem advanceClocks_store (s : State) : (advanceClocks s).store = s.store := rfl
@[simp] theorem advanceClocks_aim (s : State) : (advanceClocks s).aim = s.aim := rfl
@[simp] theorem advanceClocks_planner (s : State) : (advanceClocks s).planner = s.planner := rfl
@[simp] theorem advanceClocks_power (s : State) : (advanceClocks s).power = s.power := rfl
@[simp] theorem advanceClocks_landing (s : State) : (advanceClocks s).landing = s.landing := rfl
@[simp] theorem advanceClocks_cover (s : State) : (advanceClocks s).cover = s.cover := rfl
@[simp] theorem advanceClocks_colour (s : State) : (advanceClocks s).colour = s.colour := rfl
@[simp] theorem advanceClocks_drive (s : State) : (advanceClocks s).drive = s.drive := rfl
@[simp] theorem advanceClocks_station (s : State) : (advanceClocks s).station = s.station := rfl
@[simp] theorem advanceClocks_notices (s : State) : (advanceClocks s).notices = s.notices := rfl
@[simp] theorem advanceClocks_pending (s : State) : (advanceClocks s).pending = s.pending := rfl

/-! frameSync -/

@[simp] theorem frameSync_link (s : State) : (frameSync s).link = s.link := rfl
@[simp] theorem frameSync_clock (s : State) : (frameSync s).clock = s.clock := rfl
@[simp] theorem frameSync_store (s : State) : (frameSync s).store = s.store := rfl
@[simp] theorem frameSync_aim (s : State) : (frameSync s).aim = s.aim := rfl
@[simp] theorem frameSync_planner (s : State) : (frameSync s).planner = s.planner := rfl
@[simp] theorem frameSync_power (s : State) : (frameSync s).power = s.power := rfl
@[simp] theorem frameSync_landing (s : State) : (frameSync s).landing = s.landing := rfl
@[simp] theorem frameSync_cover (s : State) : (frameSync s).cover = s.cover := rfl
@[simp] theorem frameSync_colour (s : State) : (frameSync s).colour = s.colour := rfl
@[simp] theorem frameSync_drive (s : State) : (frameSync s).drive = { s.drive with outFrame := s.composeOut } := rfl
@[simp] theorem frameSync_station (s : State) : (frameSync s).station = s.station := rfl
@[simp] theorem frameSync_notices (s : State) : (frameSync s).notices = s.notices := rfl
@[simp] theorem frameSync_pending (s : State) : (frameSync s).pending = s.pending := rfl

/-! timersTick -/

@[simp] theorem timersTick_link (s : State) : (timersTick s).link = s.link := rfl
@[simp] theorem timersTick_store (s : State) : (timersTick s).store = s.store := rfl
@[simp] theorem timersTick_aim (s : State) : (timersTick s).aim = s.aim := rfl
@[simp] theorem timersTick_planner (s : State) : (timersTick s).planner = s.planner := rfl
@[simp] theorem timersTick_landing (s : State) : (timersTick s).landing = s.landing := rfl
@[simp] theorem timersTick_colour (s : State) : (timersTick s).colour = s.colour := rfl
@[simp] theorem timersTick_station (s : State) : (timersTick s).station = s.station := rfl
@[simp] theorem timersTick_notices (s : State) : (timersTick s).notices = s.notices := rfl
@[simp] theorem timersTick_pending (s : State) : (timersTick s).pending = s.pending := rfl

/-! stepClock -/

@[simp] theorem stepClock_link (f : BeaconFields) (s : State) : (stepClock f s).link = s.link := rfl
@[simp] theorem stepClock_clock (f : BeaconFields) (s : State) :
    (stepClock f s).clock =
      { s.clock with linkClock := f.linkClock + 1, counters := { s.clock.counters with clockSteps := satInc s.clock.counters.clockSteps } } := rfl
@[simp] theorem stepClock_store (f : BeaconFields) (s : State) : (stepClock f s).store = s.store := rfl
@[simp] theorem stepClock_aim (f : BeaconFields) (s : State) : (stepClock f s).aim = s.aim := rfl
@[simp] theorem stepClock_planner (f : BeaconFields) (s : State) : (stepClock f s).planner = s.planner := rfl
@[simp] theorem stepClock_power (f : BeaconFields) (s : State) : (stepClock f s).power = s.power := rfl
@[simp] theorem stepClock_landing (f : BeaconFields) (s : State) : (stepClock f s).landing = s.landing := rfl
@[simp] theorem stepClock_cover (f : BeaconFields) (s : State) : (stepClock f s).cover = s.cover := rfl
@[simp] theorem stepClock_colour (f : BeaconFields) (s : State) : (stepClock f s).colour = s.colour := rfl
@[simp] theorem stepClock_drive (f : BeaconFields) (s : State) : (stepClock f s).drive = s.drive := rfl
@[simp] theorem stepClock_station (f : BeaconFields) (s : State) : (stepClock f s).station = s.station := rfl
@[simp] theorem stepClock_notices (f : BeaconFields) (s : State) : (stepClock f s).notices = s.notices := rfl
@[simp] theorem stepClock_pending (f : BeaconFields) (s : State) : (stepClock f s).pending = s.pending := rfl

/-! discardFrame -/

@[simp] theorem discardFrame_clock (r : DiscardReason) (l : List Bool) (s : State) :
    (discardFrame r l s).clock = s.clock := rfl
@[simp] theorem discardFrame_store (r : DiscardReason) (l : List Bool) (s : State) :
    (discardFrame r l s).store = s.store := rfl
@[simp] theorem discardFrame_aim (r : DiscardReason) (l : List Bool) (s : State) :
    (discardFrame r l s).aim = s.aim := rfl
@[simp] theorem discardFrame_planner (r : DiscardReason) (l : List Bool) (s : State) :
    (discardFrame r l s).planner = s.planner := rfl
@[simp] theorem discardFrame_power (r : DiscardReason) (l : List Bool) (s : State) :
    (discardFrame r l s).power = s.power := rfl
@[simp] theorem discardFrame_landing (r : DiscardReason) (l : List Bool) (s : State) :
    (discardFrame r l s).landing = s.landing := rfl
@[simp] theorem discardFrame_cover (r : DiscardReason) (l : List Bool) (s : State) :
    (discardFrame r l s).cover = s.cover := rfl
@[simp] theorem discardFrame_colour (r : DiscardReason) (l : List Bool) (s : State) :
    (discardFrame r l s).colour = s.colour := rfl
@[simp] theorem discardFrame_drive (r : DiscardReason) (l : List Bool) (s : State) :
    (discardFrame r l s).drive = s.drive := rfl
@[simp] theorem discardFrame_station (r : DiscardReason) (l : List Bool) (s : State) :
    (discardFrame r l s).station = s.station := rfl
@[simp] theorem discardFrame_notices (r : DiscardReason) (l : List Bool) (s : State) :
    (discardFrame r l s).notices = s.notices := rfl
@[simp] theorem discardFrame_pending (r : DiscardReason) (l : List Bool) (s : State) :
    (discardFrame r l s).pending = s.pending := rfl

/-! countReceived -/

@[simp] theorem countReceived_clock (l : List Bool) (s : State) : (countReceived l s).clock = s.clock := rfl
@[simp] theorem countReceived_store (l : List Bool) (s : State) : (countReceived l s).store = s.store := rfl
@[simp] theorem countReceived_aim (l : List Bool) (s : State) : (countReceived l s).aim = s.aim := rfl
@[simp] theorem countReceived_planner (l : List Bool) (s : State) : (countReceived l s).planner = s.planner := rfl
@[simp] theorem countReceived_power (l : List Bool) (s : State) : (countReceived l s).power = s.power := rfl
@[simp] theorem countReceived_landing (l : List Bool) (s : State) : (countReceived l s).landing = s.landing := rfl
@[simp] theorem countReceived_cover (l : List Bool) (s : State) : (countReceived l s).cover = s.cover := rfl
@[simp] theorem countReceived_colour (l : List Bool) (s : State) : (countReceived l s).colour = s.colour := rfl
@[simp] theorem countReceived_drive (l : List Bool) (s : State) : (countReceived l s).drive = s.drive := rfl
@[simp] theorem countReceived_station (l : List Bool) (s : State) : (countReceived l s).station = s.station := rfl
@[simp] theorem countReceived_notices (l : List Bool) (s : State) : (countReceived l s).notices = s.notices := rfl
@[simp] theorem countReceived_pending (l : List Bool) (s : State) : (countReceived l s).pending = s.pending := rfl

/-! countDrop -/

@[simp] theorem countDrop_clock (s : State) : (countDrop s).clock = s.clock := rfl
@[simp] theorem countDrop_store (s : State) : (countDrop s).store = s.store := rfl
@[simp] theorem countDrop_aim (s : State) : (countDrop s).aim = s.aim := rfl
@[simp] theorem countDrop_planner (s : State) : (countDrop s).planner = s.planner := rfl
@[simp] theorem countDrop_power (s : State) : (countDrop s).power = s.power := rfl
@[simp] theorem countDrop_landing (s : State) : (countDrop s).landing = s.landing := rfl
@[simp] theorem countDrop_cover (s : State) : (countDrop s).cover = s.cover := rfl
@[simp] theorem countDrop_colour (s : State) : (countDrop s).colour = s.colour := rfl
@[simp] theorem countDrop_drive (s : State) : (countDrop s).drive = s.drive := rfl
@[simp] theorem countDrop_station (s : State) : (countDrop s).station = s.station := rfl
@[simp] theorem countDrop_notices (s : State) : (countDrop s).notices = s.notices := rfl
@[simp] theorem countDrop_pending (s : State) : (countDrop s).pending = s.pending := rfl

/-! loseArbitration -/

@[simp] theorem loseArbitration_clock (fr : Frame) (p : Nat) (s : State) :
    (loseArbitration fr p s).clock = s.clock := rfl
@[simp] theorem loseArbitration_store (fr : Frame) (p : Nat) (s : State) :
    (loseArbitration fr p s).store = s.store := rfl
@[simp] theorem loseArbitration_aim (fr : Frame) (p : Nat) (s : State) : (loseArbitration fr p s).aim = s.aim := rfl
@[simp] theorem loseArbitration_planner (fr : Frame) (p : Nat) (s : State) :
    (loseArbitration fr p s).planner = s.planner := rfl
@[simp] theorem loseArbitration_power (fr : Frame) (p : Nat) (s : State) :
    (loseArbitration fr p s).power = s.power := rfl
@[simp] theorem loseArbitration_landing (fr : Frame) (p : Nat) (s : State) :
    (loseArbitration fr p s).landing = s.landing := rfl
@[simp] theorem loseArbitration_cover (fr : Frame) (p : Nat) (s : State) :
    (loseArbitration fr p s).cover = s.cover := rfl
@[simp] theorem loseArbitration_colour (fr : Frame) (p : Nat) (s : State) :
    (loseArbitration fr p s).colour = s.colour := rfl
@[simp] theorem loseArbitration_drive (fr : Frame) (p : Nat) (s : State) :
    (loseArbitration fr p s).drive = s.drive := rfl
@[simp] theorem loseArbitration_station (fr : Frame) (p : Nat) (s : State) :
    (loseArbitration fr p s).station = s.station := rfl
@[simp] theorem loseArbitration_notices (fr : Frame) (p : Nat) (s : State) :
    (loseArbitration fr p s).notices = s.notices := rfl
@[simp] theorem loseArbitration_pending (fr : Frame) (p : Nat) (s : State) :
    (loseArbitration fr p s).pending = s.pending := rfl

/-! startAttempt -/

@[simp] theorem startAttempt_clock (b : TxBody) (s : State) : (startAttempt b s).clock = s.clock := rfl
@[simp] theorem startAttempt_store (b : TxBody) (s : State) : (startAttempt b s).store = s.store := rfl
@[simp] theorem startAttempt_aim (b : TxBody) (s : State) : (startAttempt b s).aim = s.aim := rfl
@[simp] theorem startAttempt_planner (b : TxBody) (s : State) : (startAttempt b s).planner = s.planner := rfl
@[simp] theorem startAttempt_power (b : TxBody) (s : State) : (startAttempt b s).power = s.power := rfl
@[simp] theorem startAttempt_landing (b : TxBody) (s : State) : (startAttempt b s).landing = s.landing := rfl
@[simp] theorem startAttempt_cover (b : TxBody) (s : State) : (startAttempt b s).cover = s.cover := rfl
@[simp] theorem startAttempt_colour (b : TxBody) (s : State) : (startAttempt b s).colour = s.colour := rfl
@[simp] theorem startAttempt_drive (b : TxBody) (s : State) : (startAttempt b s).drive = s.drive := rfl
@[simp] theorem startAttempt_station (b : TxBody) (s : State) : (startAttempt b s).station = s.station := rfl
@[simp] theorem startAttempt_notices (b : TxBody) (s : State) : (startAttempt b s).notices = s.notices := rfl
@[simp] theorem startAttempt_pending (b : TxBody) (s : State) : (startAttempt b s).pending = s.pending := rfl

/-! reachOpportunity -/

@[simp] theorem reachOpportunity_link (s : State) :
    (reachOpportunity s).link = { s.link with recessiveRun := opportunityRun s.link.recessiveRun } := rfl
@[simp] theorem reachOpportunity_clock (s : State) : (reachOpportunity s).clock = s.clock := rfl
@[simp] theorem reachOpportunity_store (s : State) : (reachOpportunity s).store = s.store := rfl
@[simp] theorem reachOpportunity_aim (s : State) : (reachOpportunity s).aim = s.aim := rfl
@[simp] theorem reachOpportunity_planner (s : State) : (reachOpportunity s).planner = s.planner := rfl
@[simp] theorem reachOpportunity_power (s : State) : (reachOpportunity s).power = s.power := rfl
@[simp] theorem reachOpportunity_landing (s : State) : (reachOpportunity s).landing = s.landing := rfl
@[simp] theorem reachOpportunity_cover (s : State) : (reachOpportunity s).cover = s.cover := rfl
@[simp] theorem reachOpportunity_colour (s : State) : (reachOpportunity s).colour = s.colour := rfl
@[simp] theorem reachOpportunity_drive (s : State) : (reachOpportunity s).drive = s.drive := rfl
@[simp] theorem reachOpportunity_station (s : State) : (reachOpportunity s).station = s.station := rfl
@[simp] theorem reachOpportunity_notices (s : State) : (reachOpportunity s).notices = s.notices := rfl
@[simp] theorem reachOpportunity_pending (s : State) : (reachOpportunity s).pending = s.pending := rfl

/-! passOpportunity -/

@[simp] theorem passOpportunity_link (s : State) :
    (passOpportunity s).link = { s.link with recessiveRun := s.link.recessiveRun + Config.idleRun } := rfl
@[simp] theorem passOpportunity_clock (s : State) : (passOpportunity s).clock = s.clock := rfl
@[simp] theorem passOpportunity_store (s : State) : (passOpportunity s).store = s.store := rfl
@[simp] theorem passOpportunity_aim (s : State) : (passOpportunity s).aim = s.aim := rfl
@[simp] theorem passOpportunity_planner (s : State) : (passOpportunity s).planner = s.planner := rfl
@[simp] theorem passOpportunity_power (s : State) : (passOpportunity s).power = s.power := rfl
@[simp] theorem passOpportunity_landing (s : State) : (passOpportunity s).landing = s.landing := rfl
@[simp] theorem passOpportunity_cover (s : State) : (passOpportunity s).cover = s.cover := rfl
@[simp] theorem passOpportunity_colour (s : State) : (passOpportunity s).colour = s.colour := rfl
@[simp] theorem passOpportunity_drive (s : State) : (passOpportunity s).drive = s.drive := rfl
@[simp] theorem passOpportunity_station (s : State) : (passOpportunity s).station = s.station := rfl
@[simp] theorem passOpportunity_notices (s : State) : (passOpportunity s).notices = s.notices := rfl
@[simp] theorem passOpportunity_pending (s : State) : (passOpportunity s).pending = s.pending := rfl

/-! lineIdles -/

@[simp] theorem lineIdles_link (s : State) : (lineIdles s).link = passByteOne s.link := rfl
@[simp] theorem lineIdles_clock (s : State) : (lineIdles s).clock = s.clock := rfl
@[simp] theorem lineIdles_store (s : State) : (lineIdles s).store = s.store := rfl
@[simp] theorem lineIdles_aim (s : State) : (lineIdles s).aim = s.aim := rfl
@[simp] theorem lineIdles_planner (s : State) : (lineIdles s).planner = s.planner := rfl
@[simp] theorem lineIdles_power (s : State) : (lineIdles s).power = s.power := rfl
@[simp] theorem lineIdles_landing (s : State) : (lineIdles s).landing = s.landing := rfl
@[simp] theorem lineIdles_cover (s : State) : (lineIdles s).cover = s.cover := rfl
@[simp] theorem lineIdles_colour (s : State) : (lineIdles s).colour = s.colour := rfl
@[simp] theorem lineIdles_drive (s : State) : (lineIdles s).drive = s.drive := rfl
@[simp] theorem lineIdles_station (s : State) : (lineIdles s).station = s.station := rfl
@[simp] theorem lineIdles_notices (s : State) : (lineIdles s).notices = s.notices := rfl
@[simp] theorem lineIdles_pending (s : State) : (lineIdles s).pending = s.pending := rfl

/-! recordFrame -/

@[simp] theorem recordFrame_link (w : Slot) (e : Int × Int) (s : State) : (recordFrame w e s).link = s.link := rfl
@[simp] theorem recordFrame_clock (w : Slot) (e : Int × Int) (s : State) : (recordFrame w e s).clock = s.clock := rfl
@[simp] theorem recordFrame_store (w : Slot) (e : Int × Int) (s : State) : (recordFrame w e s).store = s.store := rfl
@[simp] theorem recordFrame_aim (w : Slot) (e : Int × Int) (s : State) : (recordFrame w e s).aim = s.aim := rfl
@[simp] theorem recordFrame_planner (w : Slot) (e : Int × Int) (s : State) :
    (recordFrame w e s).planner = s.planner := rfl
@[simp] theorem recordFrame_power (w : Slot) (e : Int × Int) (s : State) : (recordFrame w e s).power = s.power := rfl
@[simp] theorem recordFrame_landing (w : Slot) (e : Int × Int) (s : State) :
    (recordFrame w e s).landing = s.landing := rfl
@[simp] theorem recordFrame_cover (w : Slot) (e : Int × Int) (s : State) : (recordFrame w e s).cover = s.cover := rfl
@[simp] theorem recordFrame_colour (w : Slot) (e : Int × Int) (s : State) : (recordFrame w e s).colour = s.colour := rfl
@[simp] theorem recordFrame_station (w : Slot) (e : Int × Int) (s : State) :
    (recordFrame w e s).station = s.station := rfl
@[simp] theorem recordFrame_notices (w : Slot) (e : Int × Int) (s : State) :
    (recordFrame w e s).notices = s.notices := rfl
@[simp] theorem recordFrame_pending (w : Slot) (e : Int × Int) (s : State) :
    (recordFrame w e s).pending = s.pending := rfl

/-! faultDrive -/

@[simp] theorem faultDrive_link (s : State) : (faultDrive s).link = s.link := rfl
@[simp] theorem faultDrive_clock (s : State) : (faultDrive s).clock = s.clock := rfl
@[simp] theorem faultDrive_store (s : State) : (faultDrive s).store = s.store := rfl
@[simp] theorem faultDrive_aim (s : State) : (faultDrive s).aim = s.aim := rfl
@[simp] theorem faultDrive_planner (s : State) : (faultDrive s).planner = s.planner := rfl
@[simp] theorem faultDrive_power (s : State) : (faultDrive s).power = s.power := rfl
@[simp] theorem faultDrive_landing (s : State) : (faultDrive s).landing = s.landing := rfl
@[simp] theorem faultDrive_cover (s : State) : (faultDrive s).cover = s.cover := rfl
@[simp] theorem faultDrive_colour (s : State) : (faultDrive s).colour = s.colour := rfl
@[simp] theorem faultDrive_station (s : State) : (faultDrive s).station = s.station := rfl
@[simp] theorem faultDrive_notices (s : State) : (faultDrive s).notices = s.notices := rfl
@[simp] theorem faultDrive_pending (s : State) : (faultDrive s).pending = s.pending := rfl

/-! peerTableFull -/

@[simp] theorem peerTableFull_link (s : State) : (peerTableFull s).link = s.link := rfl
@[simp] theorem peerTableFull_store (s : State) : (peerTableFull s).store = s.store := rfl
@[simp] theorem peerTableFull_aim (s : State) : (peerTableFull s).aim = s.aim := rfl
@[simp] theorem peerTableFull_planner (s : State) : (peerTableFull s).planner = s.planner := rfl
@[simp] theorem peerTableFull_power (s : State) : (peerTableFull s).power = s.power := rfl
@[simp] theorem peerTableFull_landing (s : State) : (peerTableFull s).landing = s.landing := rfl
@[simp] theorem peerTableFull_cover (s : State) : (peerTableFull s).cover = s.cover := rfl
@[simp] theorem peerTableFull_colour (s : State) : (peerTableFull s).colour = s.colour := rfl
@[simp] theorem peerTableFull_drive (s : State) : (peerTableFull s).drive = s.drive := rfl
@[simp] theorem peerTableFull_station (s : State) : (peerTableFull s).station = s.station := rfl
@[simp] theorem peerTableFull_notices (s : State) : (peerTableFull s).notices = s.notices := rfl
@[simp] theorem peerTableFull_pending (s : State) : (peerTableFull s).pending = s.pending := rfl

/-! loseTrack -/

@[simp] theorem loseTrack_link (t : Nat) (s : State) : (loseTrack t s).link = s.link := rfl
@[simp] theorem loseTrack_clock (t : Nat) (s : State) : (loseTrack t s).clock = s.clock := rfl
@[simp] theorem loseTrack_store (t : Nat) (s : State) : (loseTrack t s).store = s.store := rfl
@[simp] theorem loseTrack_aim (t : Nat) (s : State) : (loseTrack t s).aim = s.aim := rfl
@[simp] theorem loseTrack_planner (t : Nat) (s : State) : (loseTrack t s).planner = s.planner := rfl
@[simp] theorem loseTrack_power (t : Nat) (s : State) : (loseTrack t s).power = s.power := rfl
@[simp] theorem loseTrack_landing (t : Nat) (s : State) : (loseTrack t s).landing = s.landing := rfl
@[simp] theorem loseTrack_colour (t : Nat) (s : State) : (loseTrack t s).colour = s.colour := rfl
@[simp] theorem loseTrack_drive (t : Nat) (s : State) : (loseTrack t s).drive = s.drive := rfl
@[simp] theorem loseTrack_station (t : Nat) (s : State) : (loseTrack t s).station = s.station := rfl
@[simp] theorem loseTrack_notices (t : Nat) (s : State) : (loseTrack t s).notices = s.notices := rfl
@[simp] theorem loseTrack_pending (t : Nat) (s : State) : (loseTrack t s).pending = s.pending := rfl

end Sys2Proof.Machine
end

