-- ==== Sys2Proof/Laws/Ops.lean ====
section
/-! SUPPORT. What each shared operation can do, said once: the transmit queue, offers, requests, changes of mode, ends of
calls and roles, the close of an event, and the arrival of a frame. -/

namespace Sys2Proof.Machine

/-! ### The transmit queue and offers -/

/-- An offer with room joins the end of the queue, and nothing else changes (R15). -/
theorem offer_room {b : TxBody} {s : State} (h : HasRoom b s.link.queue) :
    offer b s = { s with link := { s.link with queue := queued b s.link.queue } } := by
  have hany : s.link.queue.any (fun e => e.body.same b) = false := by
    rw [List.any_eq_false]; intro e he; simp [h.2 e he]
  have hq : queueOffer s.link.queue b = some (queued b s.link.queue) := by
    unfold queueOffer; rw [hany]; simp [h.1, queued]
  unfold offer; rw [hq]

/-- An offer changes the queue, or drops the frame, counts the drop and tells the block (R15, R16). -/
theorem offer_cases (b : TxBody) (s : State) :
    (∃ q, queueOffer s.link.queue b = some q ∧ offer b s = { s with link := { s.link with queue := q } })
      ∨ (queueOffer s.link.queue b = none
          ∧ offer b s = toldDrop b
              { s with link := { s.link with
                  counters := { s.link.counters with queueFull := satInc s.link.counters.queueFull } } }) := by
  cases h : queueOffer s.link.queue b with
  | some q => exact .inl ⟨q, rfl, by unfold offer; rw [h]⟩
  | none => exact .inr ⟨rfl, by unfold offer; rw [h]⟩

/-- Being told of a dropped CLAIM changes the power share unit alone (R112). -/
theorem claimDropped_eq (f : ClaimFields) (s : State) : claimDropped f s = { s with power := (claimDropped f s).power } := by
  unfold claimDropped; split
  · rfl
  · split <;> rfl

/-- Being told of a drop leaves the own granted claim (R112). -/
@[simp] theorem claimDropped_granted (f : ClaimFields) (s : State) : (claimDropped f s).power.granted = s.power.granted := by
  unfold claimDropped; split
  · rfl
  · split <;> rfl

/-- Being told of a drop leaves what is left to tell. -/
@[simp] theorem claimDropped_abandoned (f : ClaimFields) (s : State) :
    (claimDropped f s).power.abandoned = s.power.abandoned := by
  unfold claimDropped; split
  · rfl
  · split <;> rfl

@[simp] theorem claimDropped_settle (f : ClaimFields) (s : State) : (claimDropped f s).power.settle = s.power.settle := by
  unfold claimDropped; split
  · rfl
  · split <;> rfl
@[simp] theorem claimDropped_solo (f : ClaimFields) (s : State) : (claimDropped f s).power.solo = s.power.solo := by
  unfold claimDropped; split
  · rfl
  · split <;> rfl

/-! #### A dropped CLAIM -/

@[simp] theorem claimDropped_link (f : ClaimFields) (s : State) : (claimDropped f s).link = s.link := by
  rw [claimDropped_eq]
@[simp] theorem claimDropped_clock (f : ClaimFields) (s : State) : (claimDropped f s).clock = s.clock := by
  rw [claimDropped_eq]
@[simp] theorem claimDropped_store (f : ClaimFields) (s : State) : (claimDropped f s).store = s.store := by
  rw [claimDropped_eq]
@[simp] theorem claimDropped_aim (f : ClaimFields) (s : State) : (claimDropped f s).aim = s.aim := by
  rw [claimDropped_eq]
@[simp] theorem claimDropped_planner (f : ClaimFields) (s : State) : (claimDropped f s).planner = s.planner := by
  rw [claimDropped_eq]
@[simp] theorem claimDropped_landing (f : ClaimFields) (s : State) : (claimDropped f s).landing = s.landing := by
  rw [claimDropped_eq]
@[simp] theorem claimDropped_cover (f : ClaimFields) (s : State) : (claimDropped f s).cover = s.cover := by
  rw [claimDropped_eq]
@[simp] theorem claimDropped_colour (f : ClaimFields) (s : State) : (claimDropped f s).colour = s.colour := by
  rw [claimDropped_eq]
@[simp] theorem claimDropped_drive (f : ClaimFields) (s : State) : (claimDropped f s).drive = s.drive := by
  rw [claimDropped_eq]
@[simp] theorem claimDropped_station (f : ClaimFields) (s : State) : (claimDropped f s).station = s.station := by
  rw [claimDropped_eq]
@[simp] theorem claimDropped_notices (f : ClaimFields) (s : State) : (claimDropped f s).notices = s.notices := by
  rw [claimDropped_eq]
@[simp] theorem claimDropped_pending (f : ClaimFields) (s : State) : (claimDropped f s).pending = s.pending := by
  rw [claimDropped_eq]

/-! #### The block told of a drop -/

@[simp] theorem toldDrop_clock (b : TxBody) (s : State) : (toldDrop b s).clock = s.clock := by
  cases b <;> simp [toldDrop]
@[simp] theorem toldDrop_store (b : TxBody) (s : State) : (toldDrop b s).store = s.store := by
  cases b <;> simp [toldDrop]
@[simp] theorem toldDrop_aim (b : TxBody) (s : State) : (toldDrop b s).aim = s.aim := by
  cases b <;> simp [toldDrop]
@[simp] theorem toldDrop_planner (b : TxBody) (s : State) : (toldDrop b s).planner = s.planner := by
  cases b <;> simp [toldDrop]
@[simp] theorem toldDrop_colour (b : TxBody) (s : State) : (toldDrop b s).colour = s.colour := by
  cases b <;> simp [toldDrop]
@[simp] theorem toldDrop_drive (b : TxBody) (s : State) : (toldDrop b s).drive = s.drive := by
  cases b <;> simp [toldDrop]
@[simp] theorem toldDrop_station (b : TxBody) (s : State) : (toldDrop b s).station = s.station := by
  cases b <;> simp [toldDrop]
@[simp] theorem toldDrop_notices (b : TxBody) (s : State) : (toldDrop b s).notices = s.notices := by
  cases b <;> simp [toldDrop]
@[simp] theorem toldDrop_pending (b : TxBody) (s : State) : (toldDrop b s).pending = s.pending := by
  cases b <;> simp [toldDrop]
@[simp] theorem toldDrop_power_granted (b : TxBody) (s : State) : (toldDrop b s).power.granted = s.power.granted := by
  cases b <;> simp [toldDrop]
@[simp] theorem toldDrop_power_abandoned (b : TxBody) (s : State) :
    (toldDrop b s).power.abandoned = s.power.abandoned := by
  cases b <;> simp [toldDrop]
@[simp] theorem toldDrop_power_settle (b : TxBody) (s : State) : (toldDrop b s).power.settle = s.power.settle := by
  cases b <;> simp [toldDrop]
@[simp] theorem toldDrop_power_solo (b : TxBody) (s : State) : (toldDrop b s).power.solo = s.power.solo := by
  cases b <;> simp [toldDrop]
@[simp] theorem toldDrop_cover_role (b : TxBody) (s : State) : (toldDrop b s).cover.role = s.cover.role := by
  cases b <;> simp [toldDrop]
@[simp] theorem toldDrop_cover_lists (b : TxBody) (s : State) : (toldDrop b s).cover.lists = s.cover.lists := by
  cases b <;> simp [toldDrop]
@[simp] theorem toldDrop_cover_tracks (b : TxBody) (s : State) : (toldDrop b s).cover.tracks = s.cover.tracks := by
  cases b <;> simp [toldDrop]
@[simp] theorem toldDrop_landing_records (b : TxBody) (s : State) :
    (toldDrop b s).landing.records = s.landing.records := by
  cases b <;> simp [toldDrop]

/-! #### An offer -/

@[simp] theorem offer_clock (b : TxBody) (s : State) : (offer b s).clock = s.clock := by
  rcases offer_cases b s with ⟨q, -, h⟩ | ⟨-, h⟩ <;> simp [h]
@[simp] theorem offer_store (b : TxBody) (s : State) : (offer b s).store = s.store := by
  rcases offer_cases b s with ⟨q, -, h⟩ | ⟨-, h⟩ <;> simp [h]
@[simp] theorem offer_aim (b : TxBody) (s : State) : (offer b s).aim = s.aim := by
  rcases offer_cases b s with ⟨q, -, h⟩ | ⟨-, h⟩ <;> simp [h]
@[simp] theorem offer_planner (b : TxBody) (s : State) : (offer b s).planner = s.planner := by
  rcases offer_cases b s with ⟨q, -, h⟩ | ⟨-, h⟩ <;> simp [h]
@[simp] theorem offer_colour (b : TxBody) (s : State) : (offer b s).colour = s.colour := by
  rcases offer_cases b s with ⟨q, -, h⟩ | ⟨-, h⟩ <;> simp [h]
@[simp] theorem offer_drive (b : TxBody) (s : State) : (offer b s).drive = s.drive := by
  rcases offer_cases b s with ⟨q, -, h⟩ | ⟨-, h⟩ <;> simp [h]
@[simp] theorem offer_station (b : TxBody) (s : State) : (offer b s).station = s.station := by
  rcases offer_cases b s with ⟨q, -, h⟩ | ⟨-, h⟩ <;> simp [h]
@[simp] theorem offer_notices (b : TxBody) (s : State) : (offer b s).notices = s.notices := by
  rcases offer_cases b s with ⟨q, -, h⟩ | ⟨-, h⟩ <;> simp [h]
@[simp] theorem offer_pending (b : TxBody) (s : State) : (offer b s).pending = s.pending := by
  rcases offer_cases b s with ⟨q, -, h⟩ | ⟨-, h⟩ <;> simp [h]
@[simp] theorem offer_power_granted (b : TxBody) (s : State) : (offer b s).power.granted = s.power.granted := by
  rcases offer_cases b s with ⟨q, -, h⟩ | ⟨-, h⟩ <;> simp [h]
@[simp] theorem offer_power_abandoned (b : TxBody) (s : State) : (offer b s).power.abandoned = s.power.abandoned := by
  rcases offer_cases b s with ⟨q, -, h⟩ | ⟨-, h⟩ <;> simp [h]
@[simp] theorem offer_power_settle (b : TxBody) (s : State) : (offer b s).power.settle = s.power.settle := by
  rcases offer_cases b s with ⟨q, -, h⟩ | ⟨-, h⟩ <;> simp [h]
@[simp] theorem offer_power_solo (b : TxBody) (s : State) : (offer b s).power.solo = s.power.solo := by
  rcases offer_cases b s with ⟨q, -, h⟩ | ⟨-, h⟩ <;> simp [h]
@[simp] theorem offer_cover_role (b : TxBody) (s : State) : (offer b s).cover.role = s.cover.role := by
  rcases offer_cases b s with ⟨q, -, h⟩ | ⟨-, h⟩ <;> simp [h]
@[simp] theorem offer_cover_lists (b : TxBody) (s : State) : (offer b s).cover.lists = s.cover.lists := by
  rcases offer_cases b s with ⟨q, -, h⟩ | ⟨-, h⟩ <;> simp [h]
@[simp] theorem offer_cover_tracks (b : TxBody) (s : State) : (offer b s).cover.tracks = s.cover.tracks := by
  rcases offer_cases b s with ⟨q, -, h⟩ | ⟨-, h⟩ <;> simp [h]
@[simp] theorem offer_landing_records (b : TxBody) (s : State) : (offer b s).landing.records = s.landing.records := by
  rcases offer_cases b s with ⟨q, -, h⟩ | ⟨-, h⟩ <;> simp [h]

/-! ### Changes of mode -/

/-- An offered BEACON touches the link controller alone: no block is told of its drop (R16). -/
theorem offer_beacon_eq (s : State) : offer .beacon s = { s with link := (offer .beacon s).link } := by
  rcases offer_cases .beacon s with ⟨q, -, h⟩ | ⟨-, h⟩
  · rw [h]
  · rw [h]; rfl

/-- A change of mode writes the mode and the status line, and touches the link controller and the beacon timer
(R3, R38, R192). -/
theorem setMode_eq (m : StationMode) (s : State) :
    setMode m s = { s with
      station := { s.station with mode := m, statusAsserted := m.asserts }
      link := (setMode m s).link
      clock := { s.clock with
        beaconTimer := if m.linkOff then none else some Config.beaconInterval
        beaconDue := !m.linkOff && s.clock.beaconDue } } := by
  by_cases h : m.linkOff = true
  · simp [setMode, h]
  · simp only [setMode, h, beaconNow, if_false, Bool.false_eq_true]
    rw [offer_beacon_eq]
    rfl

/-! #### What a change of mode leaves -/

@[simp] theorem setMode_store (m : StationMode) (s : State) : (setMode m s).store = s.store := by
  rw [setMode_eq]
@[simp] theorem setMode_aim (m : StationMode) (s : State) : (setMode m s).aim = s.aim := by
  rw [setMode_eq]
@[simp] theorem setMode_planner (m : StationMode) (s : State) : (setMode m s).planner = s.planner := by
  rw [setMode_eq]
@[simp] theorem setMode_power (m : StationMode) (s : State) : (setMode m s).power = s.power := by
  rw [setMode_eq]
@[simp] theorem setMode_landing (m : StationMode) (s : State) : (setMode m s).landing = s.landing := by
  rw [setMode_eq]
@[simp] theorem setMode_cover (m : StationMode) (s : State) : (setMode m s).cover = s.cover := by
  rw [setMode_eq]
@[simp] theorem setMode_colour (m : StationMode) (s : State) : (setMode m s).colour = s.colour := by
  rw [setMode_eq]
@[simp] theorem setMode_drive (m : StationMode) (s : State) : (setMode m s).drive = s.drive := by
  rw [setMode_eq]
@[simp] theorem setMode_notices (m : StationMode) (s : State) : (setMode m s).notices = s.notices := by
  rw [setMode_eq]
@[simp] theorem setMode_pending (m : StationMode) (s : State) : (setMode m s).pending = s.pending := by
  rw [setMode_eq]
@[simp] theorem setMode_clock_linkClock (m : StationMode) (s : State) :
    (setMode m s).clock.linkClock = s.clock.linkClock := by
  rw [setMode_eq]
@[simp] theorem setMode_clock_tickCount (m : StationMode) (s : State) :
    (setMode m s).clock.tickCount = s.clock.tickCount := by
  rw [setMode_eq]
@[simp] theorem setMode_clock_peers (m : StationMode) (s : State) : (setMode m s).clock.peers = s.clock.peers := by
  rw [setMode_eq]
@[simp] theorem setMode_clock_counters (m : StationMode) (s : State) :
    (setMode m s).clock.counters = s.clock.counters := by
  rw [setMode_eq]

@[simp] theorem setMode_station (m : StationMode) (s : State) :
    (setMode m s).station = { s.station with mode := m, statusAsserted := m.asserts } := by rw [setMode_eq]
@[simp] theorem setMode_beaconTimer (m : StationMode) (s : State) :
    (setMode m s).clock.beaconTimer = if m.linkOff then none else some Config.beaconInterval := by rw [setMode_eq]
@[simp] theorem setMode_beaconDue (m : StationMode) (s : State) :
    (setMode m s).clock.beaconDue = (!m.linkOff && s.clock.beaconDue) := by rw [setMode_eq]

/-! ### Requests -/

/-! #### A request decided locally (R121) -/

@[simp] theorem decideLocally_clock (w : Nat) (r : Reason) (p : Purpose) (s : State) :
    (decideLocally w r p s).clock = s.clock := by
  unfold decideLocally; split <;> simp
@[simp] theorem decideLocally_store (w : Nat) (r : Reason) (p : Purpose) (s : State) :
    (decideLocally w r p s).store = s.store := by
  unfold decideLocally; split <;> simp
@[simp] theorem decideLocally_aim (w : Nat) (r : Reason) (p : Purpose) (s : State) :
    (decideLocally w r p s).aim = s.aim := by
  unfold decideLocally; split <;> simp
@[simp] theorem decideLocally_planner (w : Nat) (r : Reason) (p : Purpose) (s : State) :
    (decideLocally w r p s).planner = s.planner := by
  unfold decideLocally; split <;> simp
@[simp] theorem decideLocally_colour (w : Nat) (r : Reason) (p : Purpose) (s : State) :
    (decideLocally w r p s).colour = s.colour := by
  unfold decideLocally; split <;> simp
@[simp] theorem decideLocally_drive (w : Nat) (r : Reason) (p : Purpose) (s : State) :
    (decideLocally w r p s).drive = s.drive := by
  unfold decideLocally; split <;> simp
@[simp] theorem decideLocally_station (w : Nat) (r : Reason) (p : Purpose) (s : State) :
    (decideLocally w r p s).station = s.station := by
  unfold decideLocally; split <;> simp
@[simp] theorem decideLocally_pending (w : Nat) (r : Reason) (p : Purpose) (s : State) :
    (decideLocally w r p s).pending = s.pending := by
  unfold decideLocally; split <;> simp
@[simp] theorem decideLocally_power_settle (w : Nat) (r : Reason) (p : Purpose) (s : State) :
    (decideLocally w r p s).power.settle = s.power.settle := by
  unfold decideLocally; split <;> simp
@[simp] theorem decideLocally_power_solo (w : Nat) (r : Reason) (p : Purpose) (s : State) :
    (decideLocally w r p s).power.solo = s.power.solo := by
  unfold decideLocally; split <;> simp
@[simp] theorem decideLocally_cover_role (w : Nat) (r : Reason) (p : Purpose) (s : State) :
    (decideLocally w r p s).cover.role = s.cover.role := by
  unfold decideLocally; split <;> simp
@[simp] theorem decideLocally_cover_lists (w : Nat) (r : Reason) (p : Purpose) (s : State) :
    (decideLocally w r p s).cover.lists = s.cover.lists := by
  unfold decideLocally; split <;> simp
@[simp] theorem decideLocally_cover_tracks (w : Nat) (r : Reason) (p : Purpose) (s : State) :
    (decideLocally w r p s).cover.tracks = s.cover.tracks := by
  unfold decideLocally; split <;> simp
@[simp] theorem decideLocally_landing_records (w : Nat) (r : Reason) (p : Purpose) (s : State) :
    (decideLocally w r p s).landing.records = s.landing.records := by
  unfold decideLocally; split <;> simp

/-! #### A round opened (R103, R119) -/

@[simp] theorem openRound_clock (w : Nat) (r : Reason) (p : Purpose) (s : State) :
    (openRound w r p s).clock = s.clock := by
  unfold openRound; dsimp only; split <;> simp
@[simp] theorem openRound_store (w : Nat) (r : Reason) (p : Purpose) (s : State) :
    (openRound w r p s).store = s.store := by
  unfold openRound; dsimp only; split <;> simp
@[simp] theorem openRound_aim (w : Nat) (r : Reason) (p : Purpose) (s : State) : (openRound w r p s).aim = s.aim := by
  unfold openRound; dsimp only; split <;> simp
@[simp] theorem openRound_planner (w : Nat) (r : Reason) (p : Purpose) (s : State) :
    (openRound w r p s).planner = s.planner := by
  unfold openRound; dsimp only; split <;> simp
@[simp] theorem openRound_colour (w : Nat) (r : Reason) (p : Purpose) (s : State) :
    (openRound w r p s).colour = s.colour := by
  unfold openRound; dsimp only; split <;> simp
@[simp] theorem openRound_drive (w : Nat) (r : Reason) (p : Purpose) (s : State) :
    (openRound w r p s).drive = s.drive := by
  unfold openRound; dsimp only; split <;> simp
@[simp] theorem openRound_station (w : Nat) (r : Reason) (p : Purpose) (s : State) :
    (openRound w r p s).station = s.station := by
  unfold openRound; dsimp only; split <;> simp
@[simp] theorem openRound_pending (w : Nat) (r : Reason) (p : Purpose) (s : State) :
    (openRound w r p s).pending = s.pending := by
  unfold openRound; dsimp only; split <;> simp
@[simp] theorem openRound_power_settle (w : Nat) (r : Reason) (p : Purpose) (s : State) :
    (openRound w r p s).power.settle = s.power.settle := by
  unfold openRound; dsimp only; split <;> simp
@[simp] theorem openRound_power_solo (w : Nat) (r : Reason) (p : Purpose) (s : State) :
    (openRound w r p s).power.solo = s.power.solo := by
  unfold openRound; dsimp only; split <;> simp
@[simp] theorem openRound_cover_role (w : Nat) (r : Reason) (p : Purpose) (s : State) :
    (openRound w r p s).cover.role = s.cover.role := by
  unfold openRound; dsimp only; split <;> simp
@[simp] theorem openRound_cover_lists (w : Nat) (r : Reason) (p : Purpose) (s : State) :
    (openRound w r p s).cover.lists = s.cover.lists := by
  unfold openRound; dsimp only; split <;> simp
@[simp] theorem openRound_cover_tracks (w : Nat) (r : Reason) (p : Purpose) (s : State) :
    (openRound w r p s).cover.tracks = s.cover.tracks := by
  unfold openRound; dsimp only; split <;> simp
@[simp] theorem openRound_landing_records (w : Nat) (r : Reason) (p : Purpose) (s : State) :
    (openRound w r p s).landing.records = s.landing.records := by
  unfold openRound; dsimp only; split <;> simp
@[simp] theorem openRound_notices (w : Nat) (r : Reason) (p : Purpose) (s : State) :
    (openRound w r p s).notices = s.notices := by
  unfold openRound; dsimp only; split <;> simp
@[simp] theorem openRound_power_granted (w : Nat) (r : Reason) (p : Purpose) (s : State) :
    (openRound w r p s).power.granted = s.power.granted := by
  unfold openRound; dsimp only; split <;> simp

/-! #### A request (R103) -/

@[simp] theorem request_clock (w : Nat) (r : Reason) (p : Purpose) (s : State) :
    (request w r p s).clock = s.clock := by
  unfold request; dsimp only; split <;> simp
@[simp] theorem request_store (w : Nat) (r : Reason) (p : Purpose) (s : State) :
    (request w r p s).store = s.store := by
  unfold request; dsimp only; split <;> simp
@[simp] theorem request_aim (w : Nat) (r : Reason) (p : Purpose) (s : State) : (request w r p s).aim = s.aim := by
  unfold request; dsimp only; split <;> simp
@[simp] theorem request_planner (w : Nat) (r : Reason) (p : Purpose) (s : State) :
    (request w r p s).planner = s.planner := by
  unfold request; dsimp only; split <;> simp
@[simp] theorem request_colour (w : Nat) (r : Reason) (p : Purpose) (s : State) :
    (request w r p s).colour = s.colour := by
  unfold request; dsimp only; split <;> simp
@[simp] theorem request_drive (w : Nat) (r : Reason) (p : Purpose) (s : State) :
    (request w r p s).drive = s.drive := by
  unfold request; dsimp only; split <;> simp
@[simp] theorem request_station (w : Nat) (r : Reason) (p : Purpose) (s : State) :
    (request w r p s).station = s.station := by
  unfold request; dsimp only; split <;> simp
@[simp] theorem request_pending (w : Nat) (r : Reason) (p : Purpose) (s : State) :
    (request w r p s).pending = s.pending := by
  unfold request; dsimp only; split <;> simp
@[simp] theorem request_power_settle (w : Nat) (r : Reason) (p : Purpose) (s : State) :
    (request w r p s).power.settle = s.power.settle := by
  unfold request; dsimp only; split <;> simp
@[simp] theorem request_power_solo (w : Nat) (r : Reason) (p : Purpose) (s : State) :
    (request w r p s).power.solo = s.power.solo := by
  unfold request; dsimp only; split <;> simp
@[simp] theorem request_cover_role (w : Nat) (r : Reason) (p : Purpose) (s : State) :
    (request w r p s).cover.role = s.cover.role := by
  unfold request; dsimp only; split <;> simp
@[simp] theorem request_cover_lists (w : Nat) (r : Reason) (p : Purpose) (s : State) :
    (request w r p s).cover.lists = s.cover.lists := by
  unfold request; dsimp only; split <;> simp
@[simp] theorem request_cover_tracks (w : Nat) (r : Reason) (p : Purpose) (s : State) :
    (request w r p s).cover.tracks = s.cover.tracks := by
  unfold request; dsimp only; split <;> simp
@[simp] theorem request_landing_records (w : Nat) (r : Reason) (p : Purpose) (s : State) :
    (request w r p s).landing.records = s.landing.records := by
  unfold request; dsimp only; split <;> simp

/-- With solo mode OFF a request tells nothing and leaves the own granted claim (R103). -/
theorem request_solo_off (w : Nat) (r : Reason) (p : Purpose) {s : State} (h : s.power.solo = none) :
    (request w r p s).notices = s.notices ∧ (request w r p s).power.granted = s.power.granted := by
  unfold request; dsimp only; rw [if_neg (by simp [State.soloOn, h])]; simp

/-! #### A lowering (R113) -/

@[simp] theorem requestLowering_clock (w : Nat) (s : State) : (requestLowering w s).clock = s.clock := by
  simp [requestLowering]
@[simp] theorem requestLowering_store (w : Nat) (s : State) : (requestLowering w s).store = s.store := by
  simp [requestLowering]
@[simp] theorem requestLowering_aim (w : Nat) (s : State) : (requestLowering w s).aim = s.aim := by
  simp [requestLowering]
@[simp] theorem requestLowering_planner (w : Nat) (s : State) : (requestLowering w s).planner = s.planner := by
  simp [requestLowering]
@[simp] theorem requestLowering_colour (w : Nat) (s : State) : (requestLowering w s).colour = s.colour := by
  simp [requestLowering]
@[simp] theorem requestLowering_drive (w : Nat) (s : State) : (requestLowering w s).drive = s.drive := by
  simp [requestLowering]
@[simp] theorem requestLowering_station (w : Nat) (s : State) : (requestLowering w s).station = s.station := by
  simp [requestLowering]
@[simp] theorem requestLowering_pending (w : Nat) (s : State) : (requestLowering w s).pending = s.pending := by
  simp [requestLowering]
@[simp] theorem requestLowering_power_settle (w : Nat) (s : State) :
    (requestLowering w s).power.settle = s.power.settle := by
  simp [requestLowering]
@[simp] theorem requestLowering_power_solo (w : Nat) (s : State) :
    (requestLowering w s).power.solo = s.power.solo := by
  simp [requestLowering]
@[simp] theorem requestLowering_cover_role (w : Nat) (s : State) :
    (requestLowering w s).cover.role = s.cover.role := by
  simp [requestLowering]
@[simp] theorem requestLowering_cover_lists (w : Nat) (s : State) :
    (requestLowering w s).cover.lists = s.cover.lists := by
  simp [requestLowering]
@[simp] theorem requestLowering_cover_tracks (w : Nat) (s : State) :
    (requestLowering w s).cover.tracks = s.cover.tracks := by
  simp [requestLowering]
@[simp] theorem requestLowering_landing_records (w : Nat) (s : State) :
    (requestLowering w s).landing.records = s.landing.records := by
  simp [requestLowering]

/-! #### The lowering at an end (R113, R114) -/

@[simp] theorem lowerAfterEnd_clock (s : State) : (lowerAfterEnd s).clock = s.clock := by
  unfold lowerAfterEnd; split
  · rfl
  · split
    · split <;> simp
    · split <;> simp
@[simp] theorem lowerAfterEnd_store (s : State) : (lowerAfterEnd s).store = s.store := by
  unfold lowerAfterEnd; split
  · rfl
  · split
    · split <;> simp
    · split <;> simp
@[simp] theorem lowerAfterEnd_aim (s : State) : (lowerAfterEnd s).aim = s.aim := by
  unfold lowerAfterEnd; split
  · rfl
  · split
    · split <;> simp
    · split <;> simp
@[simp] theorem lowerAfterEnd_planner (s : State) : (lowerAfterEnd s).planner = s.planner := by
  unfold lowerAfterEnd; split
  · rfl
  · split
    · split <;> simp
    · split <;> simp
@[simp] theorem lowerAfterEnd_colour (s : State) : (lowerAfterEnd s).colour = s.colour := by
  unfold lowerAfterEnd; split
  · rfl
  · split
    · split <;> simp
    · split <;> simp
@[simp] theorem lowerAfterEnd_drive (s : State) : (lowerAfterEnd s).drive = s.drive := by
  unfold lowerAfterEnd; split
  · rfl
  · split
    · split <;> simp
    · split <;> simp
@[simp] theorem lowerAfterEnd_station (s : State) : (lowerAfterEnd s).station = s.station := by
  unfold lowerAfterEnd; split
  · rfl
  · split
    · split <;> simp
    · split <;> simp
@[simp] theorem lowerAfterEnd_pending (s : State) : (lowerAfterEnd s).pending = s.pending := by
  unfold lowerAfterEnd; split
  · rfl
  · split
    · split <;> simp
    · split <;> simp
@[simp] theorem lowerAfterEnd_power_settle (s : State) : (lowerAfterEnd s).power.settle = s.power.settle := by
  unfold lowerAfterEnd; split
  · rfl
  · split
    · split <;> simp
    · split <;> simp
@[simp] theorem lowerAfterEnd_power_solo (s : State) : (lowerAfterEnd s).power.solo = s.power.solo := by
  unfold lowerAfterEnd; split
  · rfl
  · split
    · split <;> simp
    · split <;> simp
@[simp] theorem lowerAfterEnd_cover_role (s : State) : (lowerAfterEnd s).cover.role = s.cover.role := by
  unfold lowerAfterEnd; split
  · rfl
  · split
    · split <;> simp
    · split <;> simp
@[simp] theorem lowerAfterEnd_cover_lists (s : State) : (lowerAfterEnd s).cover.lists = s.cover.lists := by
  unfold lowerAfterEnd; split
  · rfl
  · split
    · split <;> simp
    · split <;> simp
@[simp] theorem lowerAfterEnd_cover_tracks (s : State) : (lowerAfterEnd s).cover.tracks = s.cover.tracks := by
  unfold lowerAfterEnd; split
  · rfl
  · split
    · split <;> simp
    · split <;> simp
@[simp] theorem lowerAfterEnd_landing_records (s : State) :
    (lowerAfterEnd s).landing.records = s.landing.records := by
  unfold lowerAfterEnd; split
  · rfl
  · split
    · split <;> simp
    · split <;> simp

/-! #### The fresh figure (R115) -/

@[simp] theorem freshen_clock (s : State) : (freshen s).clock = s.clock := by
  unfold freshen; split <;> simp
@[simp] theorem freshen_store (s : State) : (freshen s).store = s.store := by
  unfold freshen; split <;> simp
@[simp] theorem freshen_aim (s : State) : (freshen s).aim = s.aim := by
  unfold freshen; split <;> simp
@[simp] theorem freshen_planner (s : State) : (freshen s).planner = s.planner := by
  unfold freshen; split <;> simp
@[simp] theorem freshen_colour (s : State) : (freshen s).colour = s.colour := by
  unfold freshen; split <;> simp
@[simp] theorem freshen_drive (s : State) : (freshen s).drive = s.drive := by
  unfold freshen; split <;> simp
@[simp] theorem freshen_station (s : State) : (freshen s).station = s.station := by
  unfold freshen; split <;> simp
@[simp] theorem freshen_pending (s : State) : (freshen s).pending = s.pending := by
  unfold freshen; split <;> simp
@[simp] theorem freshen_power_settle (s : State) : (freshen s).power.settle = s.power.settle := by
  unfold freshen; split <;> simp
@[simp] theorem freshen_power_solo (s : State) : (freshen s).power.solo = s.power.solo := by
  unfold freshen; split <;> simp
@[simp] theorem freshen_cover_role (s : State) : (freshen s).cover.role = s.cover.role := by
  unfold freshen; split <;> simp
@[simp] theorem freshen_cover_lists (s : State) : (freshen s).cover.lists = s.cover.lists := by
  unfold freshen; split <;> simp
@[simp] theorem freshen_cover_tracks (s : State) : (freshen s).cover.tracks = s.cover.tracks := by
  unfold freshen; split <;> simp
@[simp] theorem freshen_landing_records (s : State) : (freshen s).landing.records = s.landing.records := by
  unfold freshen; split <;> simp

/-! #### The end of a purpose (R103, R115) -/

@[simp] theorem endPurpose_link (p : Purpose) (s : State) : (endPurpose p s).link = s.link := by
  unfold endPurpose; dsimp only; split
  · rfl
  · split <;> rfl
@[simp] theorem endPurpose_clock (p : Purpose) (s : State) : (endPurpose p s).clock = s.clock := by
  unfold endPurpose; dsimp only; split
  · rfl
  · split <;> rfl
@[simp] theorem endPurpose_store (p : Purpose) (s : State) : (endPurpose p s).store = s.store := by
  unfold endPurpose; dsimp only; split
  · rfl
  · split <;> rfl
@[simp] theorem endPurpose_aim (p : Purpose) (s : State) : (endPurpose p s).aim = s.aim := by
  unfold endPurpose; dsimp only; split
  · rfl
  · split <;> rfl
@[simp] theorem endPurpose_planner (p : Purpose) (s : State) : (endPurpose p s).planner = s.planner := by
  unfold endPurpose; dsimp only; split
  · rfl
  · split <;> rfl
@[simp] theorem endPurpose_landing (p : Purpose) (s : State) : (endPurpose p s).landing = s.landing := by
  unfold endPurpose; dsimp only; split
  · rfl
  · split <;> rfl
@[simp] theorem endPurpose_cover (p : Purpose) (s : State) : (endPurpose p s).cover = s.cover := by
  unfold endPurpose; dsimp only; split
  · rfl
  · split <;> rfl
@[simp] theorem endPurpose_colour (p : Purpose) (s : State) : (endPurpose p s).colour = s.colour := by
  unfold endPurpose; dsimp only; split
  · rfl
  · split <;> rfl
@[simp] theorem endPurpose_drive (p : Purpose) (s : State) : (endPurpose p s).drive = s.drive := by
  unfold endPurpose; dsimp only; split
  · rfl
  · split <;> rfl
@[simp] theorem endPurpose_station (p : Purpose) (s : State) : (endPurpose p s).station = s.station := by
  unfold endPurpose; dsimp only; split
  · rfl
  · split <;> rfl
@[simp] theorem endPurpose_notices (p : Purpose) (s : State) : (endPurpose p s).notices = s.notices := by
  unfold endPurpose; dsimp only; split
  · rfl
  · split <;> rfl
@[simp] theorem endPurpose_pending (p : Purpose) (s : State) : (endPurpose p s).pending = s.pending := by
  unfold endPurpose; dsimp only; split
  · rfl
  · split <;> rfl
@[simp] theorem endPurpose_power_granted (p : Purpose) (s : State) :
    (endPurpose p s).power.granted = s.power.granted := by
  unfold endPurpose; dsimp only; split
  · rfl
  · split <;> rfl
@[simp] theorem endPurpose_power_settle (p : Purpose) (s : State) :
    (endPurpose p s).power.settle = s.power.settle := by
  unfold endPurpose; dsimp only; split
  · rfl
  · split <;> rfl
@[simp] theorem endPurpose_power_solo (p : Purpose) (s : State) : (endPurpose p s).power.solo = s.power.solo := by
  unfold endPurpose; dsimp only; split
  · rfl
  · split <;> rfl

/-! #### A segment stopped (R98) -/

@[simp] theorem stopMotionOf_link (o : MotionOwner) (s : State) : (stopMotionOf o s).link = s.link := by
  unfold stopMotionOf; split
  · rfl
  · split <;> rfl
@[simp] theorem stopMotionOf_clock (o : MotionOwner) (s : State) : (stopMotionOf o s).clock = s.clock := by
  unfold stopMotionOf; split
  · rfl
  · split <;> rfl
@[simp] theorem stopMotionOf_store (o : MotionOwner) (s : State) : (stopMotionOf o s).store = s.store := by
  unfold stopMotionOf; split
  · rfl
  · split <;> rfl
@[simp] theorem stopMotionOf_aim (o : MotionOwner) (s : State) : (stopMotionOf o s).aim = s.aim := by
  unfold stopMotionOf; split
  · rfl
  · split <;> rfl
@[simp] theorem stopMotionOf_power (o : MotionOwner) (s : State) : (stopMotionOf o s).power = s.power := by
  unfold stopMotionOf; split
  · rfl
  · split <;> rfl
@[simp] theorem stopMotionOf_landing (o : MotionOwner) (s : State) : (stopMotionOf o s).landing = s.landing := by
  unfold stopMotionOf; split
  · rfl
  · split <;> rfl
@[simp] theorem stopMotionOf_cover (o : MotionOwner) (s : State) : (stopMotionOf o s).cover = s.cover := by
  unfold stopMotionOf; split
  · rfl
  · split <;> rfl
@[simp] theorem stopMotionOf_colour (o : MotionOwner) (s : State) : (stopMotionOf o s).colour = s.colour := by
  unfold stopMotionOf; split
  · rfl
  · split <;> rfl
@[simp] theorem stopMotionOf_drive (o : MotionOwner) (s : State) : (stopMotionOf o s).drive = s.drive := by
  unfold stopMotionOf; split
  · rfl
  · split <;> rfl
@[simp] theorem stopMotionOf_station (o : MotionOwner) (s : State) : (stopMotionOf o s).station = s.station := by
  unfold stopMotionOf; split
  · rfl
  · split <;> rfl
@[simp] theorem stopMotionOf_notices (o : MotionOwner) (s : State) : (stopMotionOf o s).notices = s.notices := by
  unfold stopMotionOf; split
  · rfl
  · split <;> rfl
@[simp] theorem stopMotionOf_pending (o : MotionOwner) (s : State) : (stopMotionOf o s).pending = s.pending := by
  unfold stopMotionOf; split
  · rfl
  · split <;> rfl
@[simp] theorem stopMotionOf_planner_pan (o : MotionOwner) (s : State) :
    (stopMotionOf o s).planner.pan = s.planner.pan := by
  unfold stopMotionOf; split
  · rfl
  · split <;> rfl
@[simp] theorem stopMotionOf_planner_tilt (o : MotionOwner) (s : State) :
    (stopMotionOf o s).planner.tilt = s.planner.tilt := by
  unfold stopMotionOf; split
  · rfl
  · split <;> rfl
@[simp] theorem stopMotionOf_planner_counters (o : MotionOwner) (s : State) :
    (stopMotionOf o s).planner.counters = s.planner.counters := by
  unfold stopMotionOf; split
  · rfl
  · split <;> rfl

/-! #### A fade stopped (R162) -/

@[simp] theorem stopFadeOf_link (o : FadeOwner) (s : State) : (stopFadeOf o s).link = s.link := by
  unfold stopFadeOf; split
  · rfl
  · split <;> rfl
@[simp] theorem stopFadeOf_clock (o : FadeOwner) (s : State) : (stopFadeOf o s).clock = s.clock := by
  unfold stopFadeOf; split
  · rfl
  · split <;> rfl
@[simp] theorem stopFadeOf_store (o : FadeOwner) (s : State) : (stopFadeOf o s).store = s.store := by
  unfold stopFadeOf; split
  · rfl
  · split <;> rfl
@[simp] theorem stopFadeOf_aim (o : FadeOwner) (s : State) : (stopFadeOf o s).aim = s.aim := by
  unfold stopFadeOf; split
  · rfl
  · split <;> rfl
@[simp] theorem stopFadeOf_planner (o : FadeOwner) (s : State) : (stopFadeOf o s).planner = s.planner := by
  unfold stopFadeOf; split
  · rfl
  · split <;> rfl
@[simp] theorem stopFadeOf_power (o : FadeOwner) (s : State) : (stopFadeOf o s).power = s.power := by
  unfold stopFadeOf; split
  · rfl
  · split <;> rfl
@[simp] theorem stopFadeOf_landing (o : FadeOwner) (s : State) : (stopFadeOf o s).landing = s.landing := by
  unfold stopFadeOf; split
  · rfl
  · split <;> rfl
@[simp] theorem stopFadeOf_cover (o : FadeOwner) (s : State) : (stopFadeOf o s).cover = s.cover := by
  unfold stopFadeOf; split
  · rfl
  · split <;> rfl
@[simp] theorem stopFadeOf_drive (o : FadeOwner) (s : State) : (stopFadeOf o s).drive = s.drive := by
  unfold stopFadeOf; split
  · rfl
  · split <;> rfl
@[simp] theorem stopFadeOf_station (o : FadeOwner) (s : State) : (stopFadeOf o s).station = s.station := by
  unfold stopFadeOf; split
  · rfl
  · split <;> rfl
@[simp] theorem stopFadeOf_notices (o : FadeOwner) (s : State) : (stopFadeOf o s).notices = s.notices := by
  unfold stopFadeOf; split
  · rfl
  · split <;> rfl
@[simp] theorem stopFadeOf_pending (o : FadeOwner) (s : State) : (stopFadeOf o s).pending = s.pending := by
  unfold stopFadeOf; split
  · rfl
  · split <;> rfl
@[simp] theorem stopFadeOf_colour_levels (o : FadeOwner) (s : State) :
    (stopFadeOf o s).colour.levels = s.colour.levels := by
  unfold stopFadeOf; split
  · rfl
  · split <;> rfl
@[simp] theorem stopFadeOf_colour_thermal (o : FadeOwner) (s : State) :
    (stopFadeOf o s).colour.thermal = s.colour.thermal := by
  unfold stopFadeOf; split
  · rfl
  · split <;> rfl
@[simp] theorem stopFadeOf_colour_lastTemp (o : FadeOwner) (s : State) :
    (stopFadeOf o s).colour.lastTemp = s.colour.lastTemp := by
  unfold stopFadeOf; split
  · rfl
  · split <;> rfl
@[simp] theorem stopFadeOf_colour_counters (o : FadeOwner) (s : State) :
    (stopFadeOf o s).colour.counters = s.colour.counters := by
  unfold stopFadeOf; split
  · rfl
  · split <;> rfl

/-! #### A fade started (R160) -/

@[simp] theorem startFade_link (l : List Nat) (n k : Nat) (o : FadeOwner) (s : State) :
    (startFade l n k o s).link = s.link := by
  unfold startFade; split <;> rfl
@[simp] theorem startFade_clock (l : List Nat) (n k : Nat) (o : FadeOwner) (s : State) :
    (startFade l n k o s).clock = s.clock := by
  unfold startFade; split <;> rfl
@[simp] theorem startFade_store (l : List Nat) (n k : Nat) (o : FadeOwner) (s : State) :
    (startFade l n k o s).store = s.store := by
  unfold startFade; split <;> rfl
@[simp] theorem startFade_aim (l : List Nat) (n k : Nat) (o : FadeOwner) (s : State) :
    (startFade l n k o s).aim = s.aim := by
  unfold startFade; split <;> rfl
@[simp] theorem startFade_planner (l : List Nat) (n k : Nat) (o : FadeOwner) (s : State) :
    (startFade l n k o s).planner = s.planner := by
  unfold startFade; split <;> rfl
@[simp] theorem startFade_power (l : List Nat) (n k : Nat) (o : FadeOwner) (s : State) :
    (startFade l n k o s).power = s.power := by
  unfold startFade; split <;> rfl
@[simp] theorem startFade_landing (l : List Nat) (n k : Nat) (o : FadeOwner) (s : State) :
    (startFade l n k o s).landing = s.landing := by
  unfold startFade; split <;> rfl
@[simp] theorem startFade_cover (l : List Nat) (n k : Nat) (o : FadeOwner) (s : State) :
    (startFade l n k o s).cover = s.cover := by
  unfold startFade; split <;> rfl
@[simp] theorem startFade_drive (l : List Nat) (n k : Nat) (o : FadeOwner) (s : State) :
    (startFade l n k o s).drive = s.drive := by
  unfold startFade; split <;> rfl
@[simp] theorem startFade_station (l : List Nat) (n k : Nat) (o : FadeOwner) (s : State) :
    (startFade l n k o s).station = s.station := by
  unfold startFade; split <;> rfl
@[simp] theorem startFade_notices (l : List Nat) (n k : Nat) (o : FadeOwner) (s : State) :
    (startFade l n k o s).notices = s.notices := by
  unfold startFade; split <;> rfl
@[simp] theorem startFade_pending (l : List Nat) (n k : Nat) (o : FadeOwner) (s : State) :
    (startFade l n k o s).pending = s.pending := by
  unfold startFade; split <;> rfl
@[simp] theorem startFade_colour_thermal (l : List Nat) (n k : Nat) (o : FadeOwner) (s : State) :
    (startFade l n k o s).colour.thermal = s.colour.thermal := by
  unfold startFade; split <;> rfl
@[simp] theorem startFade_colour_lastTemp (l : List Nat) (n k : Nat) (o : FadeOwner) (s : State) :
    (startFade l n k o s).colour.lastTemp = s.colour.lastTemp := by
  unfold startFade; split <;> rfl
@[simp] theorem startFade_colour_counters (l : List Nat) (n k : Nat) (o : FadeOwner) (s : State) :
    (startFade l n k o s).colour.counters = s.colour.counters := by
  unfold startFade; split <;> rfl

/-! ### The role and the ends of calls -/

/-! #### A YIELD offered (R150) -/

@[simp] theorem offerYield_clock (t c : Nat) (s : State) : (offerYield t c s).clock = s.clock := by
  simp [offerYield]
@[simp] theorem offerYield_store (t c : Nat) (s : State) : (offerYield t c s).store = s.store := by
  simp [offerYield]
@[simp] theorem offerYield_aim (t c : Nat) (s : State) : (offerYield t c s).aim = s.aim := by
  simp [offerYield]
@[simp] theorem offerYield_planner (t c : Nat) (s : State) : (offerYield t c s).planner = s.planner := by
  simp [offerYield]
@[simp] theorem offerYield_drive (t c : Nat) (s : State) : (offerYield t c s).drive = s.drive := by
  simp [offerYield]
@[simp] theorem offerYield_station (t c : Nat) (s : State) : (offerYield t c s).station = s.station := by
  simp [offerYield]
@[simp] theorem offerYield_notices (t c : Nat) (s : State) : (offerYield t c s).notices = s.notices := by
  simp [offerYield]
@[simp] theorem offerYield_pending (t c : Nat) (s : State) : (offerYield t c s).pending = s.pending := by
  simp [offerYield]
@[simp] theorem offerYield_power_granted (t c : Nat) (s : State) :
    (offerYield t c s).power.granted = s.power.granted := by
  simp [offerYield]
@[simp] theorem offerYield_power_abandoned (t c : Nat) (s : State) :
    (offerYield t c s).power.abandoned = s.power.abandoned := by
  simp [offerYield]
@[simp] theorem offerYield_power_settle (t c : Nat) (s : State) :
    (offerYield t c s).power.settle = s.power.settle := by
  simp [offerYield]
@[simp] theorem offerYield_power_solo (t c : Nat) (s : State) : (offerYield t c s).power.solo = s.power.solo := by
  simp [offerYield]
@[simp] theorem offerYield_landing_records (t c : Nat) (s : State) :
    (offerYield t c s).landing.records = s.landing.records := by
  simp [offerYield]
@[simp] theorem offerYield_colour (t c : Nat) (s : State) : (offerYield t c s).colour = s.colour := by
  simp [offerYield]
@[simp] theorem offerYield_cover_role (t c : Nat) (s : State) : (offerYield t c s).cover.role = s.cover.role := by
  simp [offerYield]
@[simp] theorem offerYield_cover_lists (t c : Nat) (s : State) : (offerYield t c s).cover.lists = s.cover.lists := by
  simp [offerYield]
@[simp] theorem offerYield_cover_tracks (t c : Nat) (s : State) :
    (offerYield t c s).cover.tracks = s.cover.tracks := by
  simp [offerYield]

/-! #### A HOLD offered (R150) -/

@[simp] theorem offerHold_clock (r : Role) (s : State) : (offerHold r s).clock = s.clock := by
  simp [offerHold]
@[simp] theorem offerHold_store (r : Role) (s : State) : (offerHold r s).store = s.store := by
  simp [offerHold]
@[simp] theorem offerHold_aim (r : Role) (s : State) : (offerHold r s).aim = s.aim := by
  simp [offerHold]
@[simp] theorem offerHold_planner (r : Role) (s : State) : (offerHold r s).planner = s.planner := by
  simp [offerHold]
@[simp] theorem offerHold_drive (r : Role) (s : State) : (offerHold r s).drive = s.drive := by
  simp [offerHold]
@[simp] theorem offerHold_station (r : Role) (s : State) : (offerHold r s).station = s.station := by
  simp [offerHold]
@[simp] theorem offerHold_notices (r : Role) (s : State) : (offerHold r s).notices = s.notices := by
  simp [offerHold]
@[simp] theorem offerHold_pending (r : Role) (s : State) : (offerHold r s).pending = s.pending := by
  simp [offerHold]
@[simp] theorem offerHold_power_granted (r : Role) (s : State) : (offerHold r s).power.granted = s.power.granted := by
  simp [offerHold]
@[simp] theorem offerHold_power_abandoned (r : Role) (s : State) :
    (offerHold r s).power.abandoned = s.power.abandoned := by
  simp [offerHold]
@[simp] theorem offerHold_power_settle (r : Role) (s : State) : (offerHold r s).power.settle = s.power.settle := by
  simp [offerHold]
@[simp] theorem offerHold_power_solo (r : Role) (s : State) : (offerHold r s).power.solo = s.power.solo := by
  simp [offerHold]
@[simp] theorem offerHold_landing_records (r : Role) (s : State) :
    (offerHold r s).landing.records = s.landing.records := by
  simp [offerHold]
@[simp] theorem offerHold_colour (r : Role) (s : State) : (offerHold r s).colour = s.colour := by
  simp [offerHold]
@[simp] theorem offerHold_cover_role (r : Role) (s : State) : (offerHold r s).cover.role = s.cover.role := by
  simp [offerHold]
@[simp] theorem offerHold_cover_lists (r : Role) (s : State) : (offerHold r s).cover.lists = s.cover.lists := by
  simp [offerHold]
@[simp] theorem offerHold_cover_tracks (r : Role) (s : State) : (offerHold r s).cover.tracks = s.cover.tracks := by
  simp [offerHold]

/-! #### The phase set -/

@[simp] theorem setPhase_link (p : RolePhase) (s : State) : (setPhase p s).link = s.link := by
  unfold setPhase; split <;> rfl
@[simp] theorem setPhase_clock (p : RolePhase) (s : State) : (setPhase p s).clock = s.clock := by
  unfold setPhase; split <;> rfl
@[simp] theorem setPhase_store (p : RolePhase) (s : State) : (setPhase p s).store = s.store := by
  unfold setPhase; split <;> rfl
@[simp] theorem setPhase_aim (p : RolePhase) (s : State) : (setPhase p s).aim = s.aim := by
  unfold setPhase; split <;> rfl
@[simp] theorem setPhase_planner (p : RolePhase) (s : State) : (setPhase p s).planner = s.planner := by
  unfold setPhase; split <;> rfl
@[simp] theorem setPhase_power (p : RolePhase) (s : State) : (setPhase p s).power = s.power := by
  unfold setPhase; split <;> rfl
@[simp] theorem setPhase_landing (p : RolePhase) (s : State) : (setPhase p s).landing = s.landing := by
  unfold setPhase; split <;> rfl
@[simp] theorem setPhase_colour (p : RolePhase) (s : State) : (setPhase p s).colour = s.colour := by
  unfold setPhase; split <;> rfl
@[simp] theorem setPhase_drive (p : RolePhase) (s : State) : (setPhase p s).drive = s.drive := by
  unfold setPhase; split <;> rfl
@[simp] theorem setPhase_station (p : RolePhase) (s : State) : (setPhase p s).station = s.station := by
  unfold setPhase; split <;> rfl
@[simp] theorem setPhase_notices (p : RolePhase) (s : State) : (setPhase p s).notices = s.notices := by
  unfold setPhase; split <;> rfl
@[simp] theorem setPhase_pending (p : RolePhase) (s : State) : (setPhase p s).pending = s.pending := by
  unfold setPhase; split <;> rfl
@[simp] theorem setPhase_cover_lists (p : RolePhase) (s : State) : (setPhase p s).cover.lists = s.cover.lists := by
  unfold setPhase; split <;> rfl
@[simp] theorem setPhase_cover_tracks (p : RolePhase) (s : State) : (setPhase p s).cover.tracks = s.cover.tracks := by
  unfold setPhase; split <;> rfl

/-! #### The role becomes CANDIDATE (R151, R152) -/

@[simp] theorem becomeCandidate_link (s : State) : (becomeCandidate s).link = s.link := by
  simp [becomeCandidate]
@[simp] theorem becomeCandidate_clock (s : State) : (becomeCandidate s).clock = s.clock := by
  simp [becomeCandidate]
@[simp] theorem becomeCandidate_store (s : State) : (becomeCandidate s).store = s.store := by
  simp [becomeCandidate]
@[simp] theorem becomeCandidate_aim (s : State) : (becomeCandidate s).aim = s.aim := by
  simp [becomeCandidate]
@[simp] theorem becomeCandidate_planner (s : State) : (becomeCandidate s).planner = s.planner := by
  simp [becomeCandidate]
@[simp] theorem becomeCandidate_power (s : State) : (becomeCandidate s).power = s.power := by
  simp [becomeCandidate]
@[simp] theorem becomeCandidate_landing (s : State) : (becomeCandidate s).landing = s.landing := by
  simp [becomeCandidate]
@[simp] theorem becomeCandidate_drive (s : State) : (becomeCandidate s).drive = s.drive := by
  simp [becomeCandidate]
@[simp] theorem becomeCandidate_station (s : State) : (becomeCandidate s).station = s.station := by
  simp [becomeCandidate]
@[simp] theorem becomeCandidate_notices (s : State) : (becomeCandidate s).notices = s.notices := by
  simp [becomeCandidate]
@[simp] theorem becomeCandidate_pending (s : State) : (becomeCandidate s).pending = s.pending := by
  simp [becomeCandidate]
@[simp] theorem becomeCandidate_cover_lists (s : State) : (becomeCandidate s).cover.lists = s.cover.lists := by
  simp [becomeCandidate]
@[simp] theorem becomeCandidate_cover_tracks (s : State) : (becomeCandidate s).cover.tracks = s.cover.tracks := by
  simp [becomeCandidate]

/-! #### The role follows its entry (R152) -/

@[simp] theorem ownReact_clock (b : OwnEntry) (s : State) : (ownReact b s).clock = s.clock := by
  unfold ownReact; split
  · rfl
  · split
    · rfl
    · split <;> simp
@[simp] theorem ownReact_store (b : OwnEntry) (s : State) : (ownReact b s).store = s.store := by
  unfold ownReact; split
  · rfl
  · split
    · rfl
    · split <;> simp
@[simp] theorem ownReact_aim (b : OwnEntry) (s : State) : (ownReact b s).aim = s.aim := by
  unfold ownReact; split
  · rfl
  · split
    · rfl
    · split <;> simp
@[simp] theorem ownReact_planner (b : OwnEntry) (s : State) : (ownReact b s).planner = s.planner := by
  unfold ownReact; split
  · rfl
  · split
    · rfl
    · split <;> simp
@[simp] theorem ownReact_drive (b : OwnEntry) (s : State) : (ownReact b s).drive = s.drive := by
  unfold ownReact; split
  · rfl
  · split
    · rfl
    · split <;> simp
@[simp] theorem ownReact_station (b : OwnEntry) (s : State) : (ownReact b s).station = s.station := by
  unfold ownReact; split
  · rfl
  · split
    · rfl
    · split <;> simp
@[simp] theorem ownReact_notices (b : OwnEntry) (s : State) : (ownReact b s).notices = s.notices := by
  unfold ownReact; split
  · rfl
  · split
    · rfl
    · split <;> simp
@[simp] theorem ownReact_pending (b : OwnEntry) (s : State) : (ownReact b s).pending = s.pending := by
  unfold ownReact; split
  · rfl
  · split
    · rfl
    · split <;> simp
@[simp] theorem ownReact_power_granted (b : OwnEntry) (s : State) :
    (ownReact b s).power.granted = s.power.granted := by
  unfold ownReact; split
  · rfl
  · split
    · rfl
    · split <;> simp
@[simp] theorem ownReact_power_abandoned (b : OwnEntry) (s : State) :
    (ownReact b s).power.abandoned = s.power.abandoned := by
  unfold ownReact; split
  · rfl
  · split
    · rfl
    · split <;> simp
@[simp] theorem ownReact_power_settle (b : OwnEntry) (s : State) : (ownReact b s).power.settle = s.power.settle := by
  unfold ownReact; split
  · rfl
  · split
    · rfl
    · split <;> simp
@[simp] theorem ownReact_power_solo (b : OwnEntry) (s : State) : (ownReact b s).power.solo = s.power.solo := by
  unfold ownReact; split
  · rfl
  · split
    · rfl
    · split <;> simp
@[simp] theorem ownReact_landing_records (b : OwnEntry) (s : State) :
    (ownReact b s).landing.records = s.landing.records := by
  unfold ownReact; split
  · rfl
  · split
    · rfl
    · split <;> simp
@[simp] theorem ownReact_cover_lists (b : OwnEntry) (s : State) : (ownReact b s).cover.lists = s.cover.lists := by
  unfold ownReact; split
  · rfl
  · split
    · rfl
    · split <;> simp
@[simp] theorem ownReact_cover_tracks (b : OwnEntry) (s : State) : (ownReact b s).cover.tracks = s.cover.tracks := by
  unfold ownReact; split
  · rfl
  · split
    · rfl
    · split <;> simp

/-! #### The self-yield test (R151) -/

@[simp] theorem selfYield_clock (s : State) : (selfYield s).clock = s.clock := by
  unfold selfYield; split
  · rfl
  · dsimp only; split <;> simp
@[simp] theorem selfYield_store (s : State) : (selfYield s).store = s.store := by
  unfold selfYield; split
  · rfl
  · dsimp only; split <;> simp
@[simp] theorem selfYield_aim (s : State) : (selfYield s).aim = s.aim := by
  unfold selfYield; split
  · rfl
  · dsimp only; split <;> simp
@[simp] theorem selfYield_planner (s : State) : (selfYield s).planner = s.planner := by
  unfold selfYield; split
  · rfl
  · dsimp only; split <;> simp
@[simp] theorem selfYield_drive (s : State) : (selfYield s).drive = s.drive := by
  unfold selfYield; split
  · rfl
  · dsimp only; split <;> simp
@[simp] theorem selfYield_station (s : State) : (selfYield s).station = s.station := by
  unfold selfYield; split
  · rfl
  · dsimp only; split <;> simp
@[simp] theorem selfYield_notices (s : State) : (selfYield s).notices = s.notices := by
  unfold selfYield; split
  · rfl
  · dsimp only; split <;> simp
@[simp] theorem selfYield_pending (s : State) : (selfYield s).pending = s.pending := by
  unfold selfYield; split
  · rfl
  · dsimp only; split <;> simp
@[simp] theorem selfYield_power_granted (s : State) : (selfYield s).power.granted = s.power.granted := by
  unfold selfYield; split
  · rfl
  · dsimp only; split <;> simp
@[simp] theorem selfYield_power_abandoned (s : State) : (selfYield s).power.abandoned = s.power.abandoned := by
  unfold selfYield; split
  · rfl
  · dsimp only; split <;> simp
@[simp] theorem selfYield_power_settle (s : State) : (selfYield s).power.settle = s.power.settle := by
  unfold selfYield; split
  · rfl
  · dsimp only; split <;> simp
@[simp] theorem selfYield_power_solo (s : State) : (selfYield s).power.solo = s.power.solo := by
  unfold selfYield; split
  · rfl
  · dsimp only; split <;> simp
@[simp] theorem selfYield_landing_records (s : State) : (selfYield s).landing.records = s.landing.records := by
  unfold selfYield; split
  · rfl
  · dsimp only; split <;> simp
@[simp] theorem selfYield_cover_tracks (s : State) : (selfYield s).cover.tracks = s.cover.tracks := by
  unfold selfYield; split
  · rfl
  · dsimp only; split <;> simp

/-! #### The take test (R149) -/

@[simp] theorem takeTest_clock (s : State) : (takeTest s).clock = s.clock := by
  unfold takeTest; split
  · rfl
  · dsimp only; split <;> simp
@[simp] theorem takeTest_store (s : State) : (takeTest s).store = s.store := by
  unfold takeTest; split
  · rfl
  · dsimp only; split <;> simp
@[simp] theorem takeTest_aim (s : State) : (takeTest s).aim = s.aim := by
  unfold takeTest; split
  · rfl
  · dsimp only; split <;> simp
@[simp] theorem takeTest_planner (s : State) : (takeTest s).planner = s.planner := by
  unfold takeTest; split
  · rfl
  · dsimp only; split <;> simp
@[simp] theorem takeTest_drive (s : State) : (takeTest s).drive = s.drive := by
  unfold takeTest; split
  · rfl
  · dsimp only; split <;> simp
@[simp] theorem takeTest_station (s : State) : (takeTest s).station = s.station := by
  unfold takeTest; split
  · rfl
  · dsimp only; split <;> simp
@[simp] theorem takeTest_notices (s : State) : (takeTest s).notices = s.notices := by
  unfold takeTest; split
  · rfl
  · dsimp only; split <;> simp
@[simp] theorem takeTest_pending (s : State) : (takeTest s).pending = s.pending := by
  unfold takeTest; split
  · rfl
  · dsimp only; split <;> simp
@[simp] theorem takeTest_power_granted (s : State) : (takeTest s).power.granted = s.power.granted := by
  unfold takeTest; split
  · rfl
  · dsimp only; split <;> simp
@[simp] theorem takeTest_power_abandoned (s : State) : (takeTest s).power.abandoned = s.power.abandoned := by
  unfold takeTest; split
  · rfl
  · dsimp only; split <;> simp
@[simp] theorem takeTest_power_settle (s : State) : (takeTest s).power.settle = s.power.settle := by
  unfold takeTest; split
  · rfl
  · dsimp only; split <;> simp
@[simp] theorem takeTest_power_solo (s : State) : (takeTest s).power.solo = s.power.solo := by
  unfold takeTest; split
  · rfl
  · dsimp only; split <;> simp
@[simp] theorem takeTest_landing_records (s : State) : (takeTest s).landing.records = s.landing.records := by
  unfold takeTest; split
  · rfl
  · dsimp only; split <;> simp
@[simp] theorem takeTest_colour (s : State) : (takeTest s).colour = s.colour := by
  unfold takeTest; split
  · rfl
  · dsimp only; split <;> simp
@[simp] theorem takeTest_cover_role (s : State) : (takeTest s).cover.role = s.cover.role := by
  unfold takeTest; split
  · rfl
  · dsimp only; split <;> simp
@[simp] theorem takeTest_cover_lists (s : State) : (takeTest s).cover.lists = s.cover.lists := by
  unfold takeTest; split
  · rfl
  · dsimp only; split <;> simp
@[simp] theorem takeTest_cover_tracks (s : State) : (takeTest s).cover.tracks = s.cover.tracks := by
  unfold takeTest; split
  · rfl
  · dsimp only; split <;> simp

/-! #### Both tests -/

@[simp] theorem coverTests_clock (s : State) : (coverTests s).clock = s.clock := by
  simp [coverTests]
@[simp] theorem coverTests_store (s : State) : (coverTests s).store = s.store := by
  simp [coverTests]
@[simp] theorem coverTests_aim (s : State) : (coverTests s).aim = s.aim := by
  simp [coverTests]
@[simp] theorem coverTests_planner (s : State) : (coverTests s).planner = s.planner := by
  simp [coverTests]
@[simp] theorem coverTests_drive (s : State) : (coverTests s).drive = s.drive := by
  simp [coverTests]
@[simp] theorem coverTests_station (s : State) : (coverTests s).station = s.station := by
  simp [coverTests]
@[simp] theorem coverTests_notices (s : State) : (coverTests s).notices = s.notices := by
  simp [coverTests]
@[simp] theorem coverTests_pending (s : State) : (coverTests s).pending = s.pending := by
  simp [coverTests]
@[simp] theorem coverTests_power_granted (s : State) : (coverTests s).power.granted = s.power.granted := by
  simp [coverTests]
@[simp] theorem coverTests_power_abandoned (s : State) : (coverTests s).power.abandoned = s.power.abandoned := by
  simp [coverTests]
@[simp] theorem coverTests_power_settle (s : State) : (coverTests s).power.settle = s.power.settle := by
  simp [coverTests]
@[simp] theorem coverTests_power_solo (s : State) : (coverTests s).power.solo = s.power.solo := by
  simp [coverTests]
@[simp] theorem coverTests_landing_records (s : State) : (coverTests s).landing.records = s.landing.records := by
  simp [coverTests]
@[simp] theorem coverTests_cover_tracks (s : State) : (coverTests s).cover.tracks = s.cover.tracks := by
  simp [coverTests]

/-! #### A holder list changed (R149, R151, R152) -/

@[simp] theorem changeHolders_clock (t : Nat) (l : List Holder) (s : State) :
    (changeHolders t l s).clock = s.clock := by
  unfold changeHolders; split
  · dsimp only; split <;> simp
  · rfl
@[simp] theorem changeHolders_store (t : Nat) (l : List Holder) (s : State) :
    (changeHolders t l s).store = s.store := by
  unfold changeHolders; split
  · dsimp only; split <;> simp
  · rfl
@[simp] theorem changeHolders_aim (t : Nat) (l : List Holder) (s : State) : (changeHolders t l s).aim = s.aim := by
  unfold changeHolders; split
  · dsimp only; split <;> simp
  · rfl
@[simp] theorem changeHolders_planner (t : Nat) (l : List Holder) (s : State) :
    (changeHolders t l s).planner = s.planner := by
  unfold changeHolders; split
  · dsimp only; split <;> simp
  · rfl
@[simp] theorem changeHolders_drive (t : Nat) (l : List Holder) (s : State) :
    (changeHolders t l s).drive = s.drive := by
  unfold changeHolders; split
  · dsimp only; split <;> simp
  · rfl
@[simp] theorem changeHolders_station (t : Nat) (l : List Holder) (s : State) :
    (changeHolders t l s).station = s.station := by
  unfold changeHolders; split
  · dsimp only; split <;> simp
  · rfl
@[simp] theorem changeHolders_notices (t : Nat) (l : List Holder) (s : State) :
    (changeHolders t l s).notices = s.notices := by
  unfold changeHolders; split
  · dsimp only; split <;> simp
  · rfl
@[simp] theorem changeHolders_pending (t : Nat) (l : List Holder) (s : State) :
    (changeHolders t l s).pending = s.pending := by
  unfold changeHolders; split
  · dsimp only; split <;> simp
  · rfl
@[simp] theorem changeHolders_power_granted (t : Nat) (l : List Holder) (s : State) :
    (changeHolders t l s).power.granted = s.power.granted := by
  unfold changeHolders; split
  · dsimp only; split <;> simp
  · rfl
@[simp] theorem changeHolders_power_abandoned (t : Nat) (l : List Holder) (s : State) :
    (changeHolders t l s).power.abandoned = s.power.abandoned := by
  unfold changeHolders; split
  · dsimp only; split <;> simp
  · rfl
@[simp] theorem changeHolders_power_settle (t : Nat) (l : List Holder) (s : State) :
    (changeHolders t l s).power.settle = s.power.settle := by
  unfold changeHolders; split
  · dsimp only; split <;> simp
  · rfl
@[simp] theorem changeHolders_power_solo (t : Nat) (l : List Holder) (s : State) :
    (changeHolders t l s).power.solo = s.power.solo := by
  unfold changeHolders; split
  · dsimp only; split <;> simp
  · rfl
@[simp] theorem changeHolders_landing_records (t : Nat) (l : List Holder) (s : State) :
    (changeHolders t l s).landing.records = s.landing.records := by
  unfold changeHolders; split
  · dsimp only; split <;> simp
  · rfl
@[simp] theorem changeHolders_cover_tracks (t : Nat) (l : List Holder) (s : State) :
    (changeHolders t l s).cover.tracks = s.cover.tracks := by
  unfold changeHolders; split
  · dsimp only; split <;> simp
  · rfl

/-! #### A station no longer heard (R148) -/

@[simp] theorem stationGone_clock (st : Byte) (s : State) : (stationGone st s).clock = s.clock := by
  unfold stationGone; dsimp only; split <;> simp
@[simp] theorem stationGone_store (st : Byte) (s : State) : (stationGone st s).store = s.store := by
  unfold stationGone; dsimp only; split <;> simp
@[simp] theorem stationGone_aim (st : Byte) (s : State) : (stationGone st s).aim = s.aim := by
  unfold stationGone; dsimp only; split <;> simp
@[simp] theorem stationGone_planner (st : Byte) (s : State) : (stationGone st s).planner = s.planner := by
  unfold stationGone; dsimp only; split <;> simp
@[simp] theorem stationGone_drive (st : Byte) (s : State) : (stationGone st s).drive = s.drive := by
  unfold stationGone; dsimp only; split <;> simp
@[simp] theorem stationGone_station (st : Byte) (s : State) : (stationGone st s).station = s.station := by
  unfold stationGone; dsimp only; split <;> simp
@[simp] theorem stationGone_notices (st : Byte) (s : State) : (stationGone st s).notices = s.notices := by
  unfold stationGone; dsimp only; split <;> simp
@[simp] theorem stationGone_pending (st : Byte) (s : State) : (stationGone st s).pending = s.pending := by
  unfold stationGone; dsimp only; split <;> simp
@[simp] theorem stationGone_power_granted (st : Byte) (s : State) :
    (stationGone st s).power.granted = s.power.granted := by
  unfold stationGone; dsimp only; split <;> simp
@[simp] theorem stationGone_power_abandoned (st : Byte) (s : State) :
    (stationGone st s).power.abandoned = s.power.abandoned := by
  unfold stationGone; dsimp only; split <;> simp
@[simp] theorem stationGone_power_settle (st : Byte) (s : State) :
    (stationGone st s).power.settle = s.power.settle := by
  unfold stationGone; dsimp only; split <;> simp
@[simp] theorem stationGone_power_solo (st : Byte) (s : State) : (stationGone st s).power.solo = s.power.solo := by
  unfold stationGone; dsimp only; split <;> simp
@[simp] theorem stationGone_landing_records (st : Byte) (s : State) :
    (stationGone st s).landing.records = s.landing.records := by
  unfold stationGone; dsimp only; split <;> simp
@[simp] theorem stationGone_cover_tracks (st : Byte) (s : State) :
    (stationGone st s).cover.tracks = s.cover.tracks := by
  unfold stationGone; dsimp only; split <;> simp

/-! #### The own entry given up (R153) -/

@[simp] theorem giveUpEntry_clock (r : Role) (s : State) : (giveUpEntry r s).clock = s.clock := by
  unfold giveUpEntry; split <;> simp
@[simp] theorem giveUpEntry_store (r : Role) (s : State) : (giveUpEntry r s).store = s.store := by
  unfold giveUpEntry; split <;> simp
@[simp] theorem giveUpEntry_aim (r : Role) (s : State) : (giveUpEntry r s).aim = s.aim := by
  unfold giveUpEntry; split <;> simp
@[simp] theorem giveUpEntry_planner (r : Role) (s : State) : (giveUpEntry r s).planner = s.planner := by
  unfold giveUpEntry; split <;> simp
@[simp] theorem giveUpEntry_drive (r : Role) (s : State) : (giveUpEntry r s).drive = s.drive := by
  unfold giveUpEntry; split <;> simp
@[simp] theorem giveUpEntry_station (r : Role) (s : State) : (giveUpEntry r s).station = s.station := by
  unfold giveUpEntry; split <;> simp
@[simp] theorem giveUpEntry_notices (r : Role) (s : State) : (giveUpEntry r s).notices = s.notices := by
  unfold giveUpEntry; split <;> simp
@[simp] theorem giveUpEntry_pending (r : Role) (s : State) : (giveUpEntry r s).pending = s.pending := by
  unfold giveUpEntry; split <;> simp
@[simp] theorem giveUpEntry_power_granted (r : Role) (s : State) :
    (giveUpEntry r s).power.granted = s.power.granted := by
  unfold giveUpEntry; split <;> simp
@[simp] theorem giveUpEntry_power_abandoned (r : Role) (s : State) :
    (giveUpEntry r s).power.abandoned = s.power.abandoned := by
  unfold giveUpEntry; split <;> simp
@[simp] theorem giveUpEntry_power_settle (r : Role) (s : State) :
    (giveUpEntry r s).power.settle = s.power.settle := by
  unfold giveUpEntry; split <;> simp
@[simp] theorem giveUpEntry_power_solo (r : Role) (s : State) : (giveUpEntry r s).power.solo = s.power.solo := by
  unfold giveUpEntry; split <;> simp
@[simp] theorem giveUpEntry_landing_records (r : Role) (s : State) :
    (giveUpEntry r s).landing.records = s.landing.records := by
  unfold giveUpEntry; split <;> simp
@[simp] theorem giveUpEntry_colour (r : Role) (s : State) : (giveUpEntry r s).colour = s.colour := by
  unfold giveUpEntry; split <;> simp
@[simp] theorem giveUpEntry_cover_role (r : Role) (s : State) : (giveUpEntry r s).cover.role = s.cover.role := by
  unfold giveUpEntry; split <;> simp
@[simp] theorem giveUpEntry_cover_tracks (r : Role) (s : State) :
    (giveUpEntry r s).cover.tracks = s.cover.tracks := by
  unfold giveUpEntry; split <;> simp

/-! #### The end of a role (R153) -/

@[simp] theorem endRole_clock (s : State) : (endRole s).clock = s.clock := by
  unfold endRole; split <;> simp
@[simp] theorem endRole_store (s : State) : (endRole s).store = s.store := by
  unfold endRole; split <;> simp
@[simp] theorem endRole_aim (s : State) : (endRole s).aim = s.aim := by
  unfold endRole; split <;> simp
@[simp] theorem endRole_drive (s : State) : (endRole s).drive = s.drive := by
  unfold endRole; split <;> simp
@[simp] theorem endRole_station (s : State) : (endRole s).station = s.station := by
  unfold endRole; split <;> simp
@[simp] theorem endRole_notices (s : State) : (endRole s).notices = s.notices := by
  unfold endRole; split <;> simp
@[simp] theorem endRole_pending (s : State) : (endRole s).pending = s.pending := by
  unfold endRole; split <;> simp
@[simp] theorem endRole_power_granted (s : State) : (endRole s).power.granted = s.power.granted := by
  unfold endRole; split <;> simp
@[simp] theorem endRole_power_settle (s : State) : (endRole s).power.settle = s.power.settle := by
  unfold endRole; split <;> simp
@[simp] theorem endRole_power_solo (s : State) : (endRole s).power.solo = s.power.solo := by
  unfold endRole; split <;> simp
@[simp] theorem endRole_landing_records (s : State) : (endRole s).landing.records = s.landing.records := by
  unfold endRole; split <;> simp
@[simp] theorem endRole_planner_pan (s : State) : (endRole s).planner.pan = s.planner.pan := by
  unfold endRole; split <;> simp
@[simp] theorem endRole_planner_tilt (s : State) : (endRole s).planner.tilt = s.planner.tilt := by
  unfold endRole; split <;> simp
@[simp] theorem endRole_planner_counters (s : State) : (endRole s).planner.counters = s.planner.counters := by
  unfold endRole; split <;> simp
@[simp] theorem endRole_cover_tracks (s : State) : (endRole s).cover.tracks = s.cover.tracks := by
  unfold endRole; split <;> simp

/-! #### The end of a call's role (R153) -/

@[simp] theorem endRoleOf_clock (id : Word16) (s : State) : (endRoleOf id s).clock = s.clock := by
  unfold endRoleOf; split
  · rfl
  · split <;> simp
@[simp] theorem endRoleOf_store (id : Word16) (s : State) : (endRoleOf id s).store = s.store := by
  unfold endRoleOf; split
  · rfl
  · split <;> simp
@[simp] theorem endRoleOf_aim (id : Word16) (s : State) : (endRoleOf id s).aim = s.aim := by
  unfold endRoleOf; split
  · rfl
  · split <;> simp
@[simp] theorem endRoleOf_drive (id : Word16) (s : State) : (endRoleOf id s).drive = s.drive := by
  unfold endRoleOf; split
  · rfl
  · split <;> simp
@[simp] theorem endRoleOf_station (id : Word16) (s : State) : (endRoleOf id s).station = s.station := by
  unfold endRoleOf; split
  · rfl
  · split <;> simp
@[simp] theorem endRoleOf_notices (id : Word16) (s : State) : (endRoleOf id s).notices = s.notices := by
  unfold endRoleOf; split
  · rfl
  · split <;> simp
@[simp] theorem endRoleOf_pending (id : Word16) (s : State) : (endRoleOf id s).pending = s.pending := by
  unfold endRoleOf; split
  · rfl
  · split <;> simp
@[simp] theorem endRoleOf_power_granted (id : Word16) (s : State) :
    (endRoleOf id s).power.granted = s.power.granted := by
  unfold endRoleOf; split
  · rfl
  · split <;> simp
@[simp] theorem endRoleOf_power_settle (id : Word16) (s : State) :
    (endRoleOf id s).power.settle = s.power.settle := by
  unfold endRoleOf; split
  · rfl
  · split <;> simp
@[simp] theorem endRoleOf_power_solo (id : Word16) (s : State) : (endRoleOf id s).power.solo = s.power.solo := by
  unfold endRoleOf; split
  · rfl
  · split <;> simp
@[simp] theorem endRoleOf_landing_records (id : Word16) (s : State) :
    (endRoleOf id s).landing.records = s.landing.records := by
  unfold endRoleOf; split
  · rfl
  · split <;> simp
@[simp] theorem endRoleOf_planner_pan (id : Word16) (s : State) : (endRoleOf id s).planner.pan = s.planner.pan := by
  unfold endRoleOf; split
  · rfl
  · split <;> simp
@[simp] theorem endRoleOf_planner_tilt (id : Word16) (s : State) :
    (endRoleOf id s).planner.tilt = s.planner.tilt := by
  unfold endRoleOf; split
  · rfl
  · split <;> simp
@[simp] theorem endRoleOf_planner_counters (id : Word16) (s : State) :
    (endRoleOf id s).planner.counters = s.planner.counters := by
  unfold endRoleOf; split
  · rfl
  · split <;> simp
@[simp] theorem endRoleOf_cover_tracks (id : Word16) (s : State) :
    (endRoleOf id s).cover.tracks = s.cover.tracks := by
  unfold endRoleOf; split
  · rfl
  · split <;> simp

/-! #### The end of a call (R59) -/

@[simp] theorem endCall_clock (id : Word16) (o : CallOutcome) (s : State) : (endCall id o s).clock = s.clock := by
  unfold endCall; split <;> simp
@[simp] theorem endCall_aim (id : Word16) (o : CallOutcome) (s : State) : (endCall id o s).aim = s.aim := by
  unfold endCall; split <;> simp
@[simp] theorem endCall_drive (id : Word16) (o : CallOutcome) (s : State) : (endCall id o s).drive = s.drive := by
  unfold endCall; split <;> simp
@[simp] theorem endCall_station (id : Word16) (o : CallOutcome) (s : State) :
    (endCall id o s).station = s.station := by
  unfold endCall; split <;> simp
@[simp] theorem endCall_notices (id : Word16) (o : CallOutcome) (s : State) :
    (endCall id o s).notices = s.notices := by
  unfold endCall; split <;> simp
@[simp] theorem endCall_pending (id : Word16) (o : CallOutcome) (s : State) :
    (endCall id o s).pending = s.pending := by
  unfold endCall; split <;> simp
@[simp] theorem endCall_power_granted (id : Word16) (o : CallOutcome) (s : State) :
    (endCall id o s).power.granted = s.power.granted := by
  unfold endCall; split <;> simp
@[simp] theorem endCall_power_settle (id : Word16) (o : CallOutcome) (s : State) :
    (endCall id o s).power.settle = s.power.settle := by
  unfold endCall; split <;> simp
@[simp] theorem endCall_power_solo (id : Word16) (o : CallOutcome) (s : State) :
    (endCall id o s).power.solo = s.power.solo := by
  unfold endCall; split <;> simp
@[simp] theorem endCall_planner_pan (id : Word16) (o : CallOutcome) (s : State) :
    (endCall id o s).planner.pan = s.planner.pan := by
  unfold endCall; split <;> simp
@[simp] theorem endCall_planner_tilt (id : Word16) (o : CallOutcome) (s : State) :
    (endCall id o s).planner.tilt = s.planner.tilt := by
  unfold endCall; split <;> simp
@[simp] theorem endCall_planner_counters (id : Word16) (o : CallOutcome) (s : State) :
    (endCall id o s).planner.counters = s.planner.counters := by
  unfold endCall; split <;> simp
@[simp] theorem endCall_cover_tracks (id : Word16) (o : CallOutcome) (s : State) :
    (endCall id o s).cover.tracks = s.cover.tracks := by
  unfold endCall; split <;> simp

/-- Calls that end leave what the end of one leaves (R60, R62). -/
theorem endCalls_induction {P : State → Prop} (o : CallOutcome) (h : ∀ id s, P s → P (endCall id o s)) :
    ∀ (ids : List Word16) (s : State), P s → P (endCalls o ids s)
  | [], _, hs => hs
  | id :: ids, s, hs => endCalls_induction o h ids (endCall id o s) (h id s hs)

/-- The lowering of an event is made where a call has ended in it, and nothing is done elsewhere (R59, R113). -/
theorem lowerFrom_eq (s t : State) : lowerFrom s t = t ∨ lowerFrom s t = lowerAfterEnd t := by
  unfold lowerFrom; split
  · exact .inr rfl
  · exact .inl rfl

/-- An event in which as many calls stand after as before makes no lowering. -/
theorem lowerFrom_of_kept {s t : State} (h : s.store.calls.length ≤ t.store.calls.length) : lowerFrom s t = t := by
  unfold lowerFrom; rw [if_neg (by omega)]

/-- A completion that is not reached leaves the state (R58). -/
theorem endIfComplete_cases (id : Word16) (s : State) : endIfComplete id s = s ∨ endIfComplete id s = endCall id .done s := by
  unfold endIfComplete
  split
  · exact .inl rfl
  · split
    · exact .inr rfl
    · exact .inl rfl

/-- What one call's go keeps, the go of every due call keeps (R51, R55). -/
theorem goAll_induction {P : State → Prop} (h : ∀ rest id s, P s → P (goOne rest id s)) :
    ∀ (ids : List Word16) (s : State), P s → P (goAll ids s)
  | [], _, hs => hs
  | id :: rest, s, hs => goAll_induction h rest (goOne rest id s) (h rest id s hs)

/-- With no call due, the go tests change nothing (R51). -/
theorem goTests_of_none {s : State} (h : s.dueCalls = []) : goTests s = s := by
  unfold goTests; rw [h]; rfl

/-! ### The close of an event -/

/-- Every event ends with nothing left to tell (log 12). -/
theorem settle_quiet : ∀ (n : Nat) (s : State), Quiet (settle n s)
  | 0, _ => ⟨rfl, rfl⟩
  | n + 1, s => by
    unfold settle
    split
    · exact settle_quiet n _
    · rename_i ha
      split
      · rename_i hn
        exact ⟨hn, by simpa using ha⟩
      · exact settle_quiet n _

/-- With nothing to tell, nothing is told. -/
theorem settle_of_quiet : ∀ (n : Nat) {s : State}, Quiet s → settle n s = s
  | 0, s, h => by
    obtain ⟨h1, h2⟩ := h
    cases s with
    | mk link clock store aim planner power landing cover colour drive station notices pending =>
      cases power
      simp only at h1 h2
      simp only [settle, h1, h2]
  | n + 1, s, h => by
    unfold settle
    simp [h.1, h.2]

theorem conclude_quiet (s : State) : Quiet (conclude s) := by
  unfold conclude
  dsimp only
  split <;> exact settle_quiet _ _

theorem conclude_of_quiet {s : State} (h : Quiet s) : conclude s = s := by
  unfold conclude
  simp [settle_of_quiet _ h]

/-- With nothing to tell, nothing is told in the middle of an event. -/
theorem tellSoFar_of_none : ∀ (n : Nat) {s : State}, s.notices = [] → tellSoFar n s = s
  | 0, _, _ => rfl
  | n + 1, s, h => by
    unfold tellSoFar
    simp [h]

/-- With nothing to tell and no next call, the close of an event changes nothing (R50). -/
theorem closeEvent_of_none {s : State} (h : Quiet s) (hn : s.nextCall = none) : closeEvent s = s := by
  unfold closeEvent review
  split
  · exact conclude_of_quiet h
  · rw [hn]; exact conclude_of_quiet h

/-! ### The line -/

/-- A line that has sampled nothing of a frame can be at the beginning of any (R4). -/
theorem LinkState.begins_of_nil {k : LinkState} (h : k.rxBuffer = []) (hb : k.rxBits = []) (bytes : List Byte)
    (fault : Option SymbolFault) : k.begins bytes fault = true := by
  simp [LinkState.begins, h, hb]

/-- Passing the stop bit of byte 1 moves the line state alone (R3). -/
theorem passByteOne_eq (k : LinkState) :
    passByteOne k = { k with lineState := if k.lineState = .arbitrating then .sending else k.lineState } := by
  unfold passByteOne
  split <;> simp

/-- The number that n levels make, its bit n - 1 first (R183). -/
theorem foldl_testBit (x : Nat) : ∀ n a : Nat,
    ((List.range n).map (fun i => x.testBit (n - 1 - i))).foldl (fun n b => 2 * n + b.toNat) a = a * 2 ^ n + x % 2 ^ n
  | 0, a => by simp [Nat.mod_one]
  | n + 1, a => by
    have h : (fun i => x.testBit (n + 1 - 1 - i)) ∘ Nat.succ = fun i => x.testBit (n - 1 - i) := by
      funext i
      simp only [Function.comp_apply]
      congr 1
      omega
    rw [List.range_succ_eq_map, List.map_cons, List.map_map, h, List.foldl_cons, foldl_testBit x n,
      Nat.mod_pow_succ]
    simp only [Nat.add_sub_cancel, Nat.sub_zero, Nat.toNat_testBit]
    ring

/-- A slot sampled bit 23 first is the slot that was sent bit 23 first (R171, R183). -/
theorem slotOfLevels_slotLevels (w : Slot) : slotOfLevels (slotLevels w) = w := by
  apply BitVec.eq_of_toNat_eq
  unfold slotOfLevels slotLevels
  simp only [BitVec.toNat_ofNat, BitVec.getLsbD]
  have h := foldl_testBit w.toNat 24 0
  simp only [Nat.reduceSub] at h
  rw [h]
  have := w.isLt
  omega

/-! ### Counters (R23) -/

/-- A counted event leaves its counter within 16 bits. -/
theorem satInc_le (n : Nat) : satInc n ≤ 65535 := Nat.min_le_left ..

/-- Several counted at once leave it within 16 bits. -/
theorem satAdd_le (n k : Nat) : satAdd n k ≤ 65535 := Nat.min_le_left ..

/-- A counter within 16 bits stays so, counted or not. -/
theorem satIf_le {n : Nat} (h : n ≤ 65535) (c : Bool) : satIf c n ≤ 65535 := by
  cases c
  · exact h
  · exact satInc_le n

/-- Nothing counted leaves a counter within 16 bits as it stands. -/
theorem satAdd_zero {n : Nat} (h : n ≤ 65535) : satAdd n 0 = n := Nat.min_eq_right h

/-! ### The runs of the line (R2) -/

/-- After levels of which one was dominant, the recessive run is the recessive levels at their end (R2). -/
theorem recessiveAfter_of_dominant {levels : List Bool} (h : false ∈ levels) (run : Nat) :
    recessiveAfter run levels = trailingRun true levels := by
  have hn : ¬levels.all id = true := fun ha => absurd (List.all_eq_true.mp ha false h) (by decide)
  unfold recessiveAfter
  rw [if_neg hn]

/-- Levels all recessive go on with the run that stood before them (R2). -/
theorem recessiveAfter_of_recessive {levels : List Bool} (h : levels.all id = true) (run : Nat) :
    recessiveAfter run levels = run + levels.length := by
  unfold recessiveAfter
  rw [if_pos h]

/-- The first level of a symbol is its dominant start bit (R1). -/
theorem false_mem_lineLevels {b : Byte} {l : List Byte} : false ∈ lineLevels (b :: l) := by
  simp [lineLevels, symbolLevels]

/-- A frame holds the line dominant at its first bit, so that the run after it is that of its last levels (R1, R2). -/
@[simp] theorem recessiveAfter_frame (fr : Frame) (run : Nat) :
    recessiveAfter run (lineLevels fr.bytes) = trailingRun true (lineLevels fr.bytes) :=
  recessiveAfter_of_dominant false_mem_lineLevels run

/-- A start opportunity comes at the multiple of 12 at or after the run (R2). -/
theorem opportunityRun_eq {run n : Nat} (h : run ≤ 12 * n) (hn : 12 * n < run + 12) : opportunityRun run = 12 * n := by
  simp only [opportunityRun, Config.idleRun]
  omega

/-! ### Arrivals -/

/-- The checks of an arriving frame find nothing in a well-formed frame of another station (R5, R6). -/
theorem verdictOf_wf {own : Byte} {fr : Frame} (h : fr.wf = true) (hn : fr.station ≠ own) : verdictOf own fr = none := by
  unfold Frame.wf at h
  simp only [Bool.and_eq_true, beq_iff_eq] at h
  unfold verdictOf
  simp [h.1.1, h.1.2, h.2, hn]

/-- Marks that do not end the link-lost condition change nothing but the receive mark (R22). -/
theorem markReceive_of_arrives {fr : Frame} {s : State} (h : Arrives fr s) :
    markReceive (countReceived (lineLevels fr.bytes) s) = { s with link := arrivedLink fr s.link } := by
  unfold markReceive checkMarks
  rcases h.2.2.2.2 with hl | hl
  · simp [countReceived, toWaitIdle, arrivedLink, hl]
  · simp [countReceived, toWaitIdle, arrivedLink, hl]

/-- A good frame from another station: the link controller, the peer-entry stage, the blocks of its kind, the close of the
event (R5, R12). -/
theorem receiveFrame_of_arrives {fr : Frame} {act : State → State} {s : State} (h : Arrives fr s) :
    receiveFrame fr act s = conclude (act (peerStage fr { s with link := arrivedLink fr s.link })) := by
  have hr : s.receives fr.bytes none = true := by simp [State.receives, h.2.1.1, h.2.1.2]
  unfold receiveFrame
  rw [if_pos hr, verdictOf_wf h.2.2.1 h.2.2.2.1, markReceive_of_arrives h]

/-- The peer-entry stage of a kind that creates no entry (R31). -/
theorem refreshPeer_arrived (fr : Frame) (s : State) :
    refreshPeer fr.station { s with link := arrivedLink fr s.link } = arrived fr s := rfl

/-- A state between two events is still one after the arrival of a frame that tells nothing. -/
theorem quiet_arrived {fr : Frame} {s : State} (h : Quiet s) : Quiet (arrived fr s) := h

end Sys2Proof.Machine
end

