-- ==== Sys2Proof/Tests/Slice0.lean ====
section
/-! SUPPORT. Tests: the well-formedness smoke, frames written out from the layouts of R24, worked figures of the spec,
and for each statement with hypotheses a state and operands that meet them. -/

namespace Sys2Proof.Tests

open Sys2Proof Sys2Proof.Machine

/-! ### Ill-formed commands are refused -/

theorem test_short_read_ill_formed : Instr.wf (.configurationReadEnd [0, 1]) = false := by decide
theorem test_arbitration_at_start_bit_ill_formed :
    Instr.wf (.arbitrationLost 0) = false ∧ Instr.wf (.arbitrationLost 9) = false ∧ Instr.wf (.arbitrationLost 19) = false := by
  decide
theorem test_clash_past_frame_ill_formed : Instr.wf (.clash 530) = false := by decide
theorem test_long_discard_ill_formed : Instr.wf (.frameDiscard (List.replicate 54 0) none) = false := by decide
theorem test_station_range_ill_formed :
    Instr.wf (.stop 0 ⟨1, 30, 0⟩) = false ∧ Instr.wf (.stop 255 ⟨1, 30, 0⟩) = false := by decide
theorem test_stop_fields_ill_formed :
    Instr.wf (.stop 200 ⟨2, 30, 0⟩) = false ∧ Instr.wf (.stop 200 ⟨0, 32, 0⟩) = false
      ∧ Instr.wf (.stop 200 ⟨1, 255, 0⟩) = false ∧ Instr.wf (.stop 200 ⟨0, 0, 4⟩) = false := by decide
theorem test_claim_fields_ill_formed :
    Instr.wf (.claim 12 ⟨16, 0, 0⟩) = false ∧ Instr.wf (.claim 12 ⟨15, 0, 4⟩) = false := by decide
theorem test_track_fields_ill_formed : Instr.wf (.track 100 ⟨16, 0, 0, 0, 0⟩) = false := by decide
theorem test_cover_fields_ill_formed :
    Instr.wf (.cover 31 ⟨16, 0, 0, 1, 0⟩) = false ∧ Instr.wf (.cover 31 ⟨2, 3, 0, 1, 0⟩) = false
      ∧ Instr.wf (.cover 31 ⟨2, 0, 0, 0, 0⟩) = false ∧ Instr.wf (.cover 31 ⟨2, 0, 0, 5, 0⟩) = false := by decide
theorem test_offer_fields_ill_formed : Instr.wf (.offer 22 ⟨77, 32, 0⟩) = false := by decide
theorem test_call_fields_ill_formed :
    Instr.wf (.call 200 ⟨1, 2, 0, 0, 0, 0, 1, 0, 0, 0, 0, 0, 0, 0⟩) = false
      ∧ Instr.wf (.call 200 ⟨1, 0, 0, 4, 0, 0, 1, 0, 0, 0, 0, 0, 0, 0⟩) = false
      ∧ Instr.wf (.call 200 ⟨1, 0, 0, 2, 0, 8, 0, 0, 0, 0, 0, 0, 16, 1⟩) = false
      ∧ Instr.wf (.call 200 ⟨1, 0, 0, 2, 0, 8, 0, 0, 0, 0, 0, 0, 2, 5⟩) = false := by decide
theorem test_segment_station_ill_formed : Instr.wf (.segment 0 ⟨1, 0, 0, 0, 0, 0, 0, 0⟩) = false := by decide
theorem test_beacon_fields_ill_formed :
    Instr.wf (.beacon 22 ⟨4, 5, 4, 0, 0, 0, 0, 0, 0, 255⟩) = false
      ∧ Instr.wf (.beacon 22 ⟨0, 5, 16, 0, 0, 0, 0, 0, 0, 255⟩) = false
      ∧ Instr.wf (.beacon 22 ⟨0, 5, 4, 0, 0, 0, 0, 0, 0, 16⟩) = false := by decide
theorem test_probe_fields_ill_formed :
    Instr.wf (.probe 200 ⟨0, 0, 0⟩) = false ∧ Instr.wf (.probe 200 ⟨30, 5, 0⟩) = false := by decide
theorem test_report_length_ill_formed : Instr.wf (.report 22 ⟨0, List.replicate 46 0⟩) = false := by decide
theorem test_ageing_station_ill_formed :
    Instr.wf (.peerSilent 0) = false ∧ Instr.wf (.peerRemoved 255) = false := by decide
theorem test_target_range_ill_formed :
    Instr.wf (.trackTimeout 16) = false ∧ Instr.wf (.reliefDeadline 16) = false
      ∧ Instr.wf (.holderLapse 16 30) = false ∧ Instr.wf (.holderLapse 15 0) = false := by decide

/-! ### Frames as bytes, written out from the layouts of R24 and the check of R11 -/

/-- The two check values that R11 states. -/
theorem test_check_values :
    checkValue [0x00] = 0xE1F0
      ∧ checkValue [0x31, 0x32, 0x33, 0x34, 0x35, 0x36, 0x37, 0x38, 0x39] = 0x29B1 := by decide +kernel

theorem test_claim_bytes :
    Frame.checked ⟨12, .claim ⟨4, 360, 1⟩⟩ = [0x01, 0x0C, 0x04, 0x04, 0x01, 0x68, 0x01] := by decide
theorem test_stop_bytes : Frame.checked ⟨200, .stop ⟨1, 30, 4⟩⟩ = [0x00, 0xC8, 0x03, 0x01, 0x1E, 0x04] := by decide
theorem test_offer_bytes :
    Frame.checked ⟨22, .offer ⟨77, 3, 901125⟩⟩ = [0x04, 0x16, 0x07, 0x00, 0x4D, 0x03, 0x00, 0x0D, 0xC0, 0x05] := by decide

/-- Start bit, 0x4C most significant bit first, stop bit (R1). -/
theorem test_symbol_levels :
    symbolLevels 0x4C = [false, false, true, false, false, true, true, false, false, true] := by decide

/-! ### Worked figures of the spec -/

/-- One segment, tick by tick (05): D = 1000, R = 250, 4000 to 12000. -/
theorem test_profile_figures :
    profilePosition 4000 12000 1000 250 7 = 4001 ∧ profilePosition 4000 12000 1000 250 250 = 5333
      ∧ profilePosition 4000 12000 1000 250 750 = 10666 ∧ profilePosition 4000 12000 1000 250 751 = 10678
      ∧ profilePosition 4000 12000 1000 250 994 = 12000 ∧ rampRate 8000 1000 250 = 44 := by decide

/-- Tilt with vmax 12, qmax 200; pan is still (the mandatory stretch, 05). -/
def slowTilt : Figures :=
  { Figures.blank with pan := ⟨20, 60, 1, 0, 0⟩, tilt := ⟨12, 200, 40, 0, 0⟩ }

theorem test_mandatory_stretch : mandatoryStretch slowTilt ⟨0, 5000⟩ 300 50 = ⟨833, 416, 0⟩ := by decide +kernel

/-- The matrix and watts of the mix example (09). -/
def mixer : Figures :=
  { Figures.blank with
    emitterWatts := [90, 70, 60, 40, 60, 50]
    matrix := [[16384, 0, 0], [0, 16384, 2048], [0, 0, 16384], [4096, 8192, -2048], [8192, 2048, -4096],
      [-2048, 6144, 6144]]
    derate := 85
    shutdown := 100 }

theorem test_mix_levels :
    colourTarget mixer ⟨65535, 32768, 0, 49152, 0⟩ 65536 = [49152, 24576, 0, 24576, 27648, 3072]
      ∧ colourTarget mixer ⟨65535, 32768, 0, 49152, 0⟩ 57344 = [43008, 21504, 0, 21504, 24192, 2688]
      ∧ emitterClaim mixer.emitterWatts [49152, 24576, 0, 24576, 27648, 3072] = 137 := by decide

/-- Thermal hysteresis (09). -/
theorem test_thermal_states :
    thermalNext 85 100 .normal 170 = .derated ∧ thermalNext 85 100 .derated 161 = .derated
      ∧ thermalNext 85 100 .derated 160 = .normal ∧ thermalNext 85 100 .derated 200 = .shutdown
      ∧ thermalNext 85 100 .shutdown 192 = .shutdown ∧ thermalNext 85 100 .shutdown 190 = .derated := by decide

/-- The head of the worked cases of 04, INVERTED. -/
def trussHead : Figures :=
  { Figures.blank with
    hang := .inverted
    mountX := 2000
    mountY := -6000
    mountZ := 9000
    yaw := 5760
    panMax := 34560
    tiltMin := 1000
    tiltMax := 16280
    maxThrow := 40000 }

theorem test_aim_flips_from_centre :
    solve trussHead trussHead.pose 17280 8640 5000 (-2000) 1500 = ⟨13880, 6484, .solved, 9013, 64634⟩ := by
  decide +kernel
theorem test_aim_ties_to_lower_pan :
    solve trussHead trussHead.pose 8120 8640 5000 (-2000) 1500 = ⟨2360, 10796, .solved, 9013, 64634⟩ := by
  decide +kernel

/-! ### A small station for the witnesses -/

/-- Figures of a fixture on circuit 4. -/
def figs : Figures :=
  { mixer with
    circuit := 4
    groupMask := 9
    budget := 1200
    baseClaim := 35
    soloAllowance := 300
    homingAllowance := 50
    followAllowance := 200
    aging := 1000
    panMax := 34560
    tiltMax := 17280
    maxThrow := 60000
    pan := ⟨20, 60, 10, 20, 8000⟩
    tilt := ⟨20, 60, 10, 15, 8000⟩
    followErrorLimit := 64
    followLag := 50
    trackTimeout := 500
    handoffMargin := 2000 }

/-- Station 30 in READY, its line idle. -/
def ready : State :=
  { State.reset with
    link.lineState := .idle
    link.recessiveRun := 12
    clock.linkClock := 900000
    clock.tickCount := 5000
    clock.beaconTimer := some 150
    aim.pose := some figs.pose
    planner.pan := 17280
    planner.tilt := 8640
    power.granted := 70
    drive.axesOn := true
    drive.panHomed := true
    drive.tiltHomed := true
    drive.outFrame := ⟨true, false, true, 17280, 8640, [0, 0, 0, 0, 0, 0]⟩
    station.mode := .ready
    station.statusAsserted := false
    station.figures := some figs
    station.ownStation := 30
    station.homingNeeded := false }

/-- The state a command leads to. -/
def go1 (c : Instr) (s : State) : State :=
  match exec c s with
  | .next t => t
  | .fault _ => s
  | .refused _ => s

/-- The line is RECEIVING with no byte yet. -/
def hearing (s : State) : State := { s with link.lineState := .receiving, link.recessiveRun := 0 }

/-- A frame of this station is on the line, its entry the one in flight. -/
def sending (b : TxBody) (attempts : Nat) (s : State) : State :=
  { s with
    link.lineState := .arbitrating
    link.queue := [⟨b, attempts, true, none⟩]
    link.txFrame := some (s.frameOf b) }

/-- A call of the given state, with one segment held. -/
def call (id : Word16) (mode : CallMode) (st : CallState) : CallRecord where
  callId := id
  scope := .group 3
  mode := mode
  goTime := 900000
  sync := false
  stretch := 0
  expected := 1
  colour := none
  target := 2
  count := 2
  chain := [⟨0, true, 1000, 250, 18000, 8640, 0, .queued⟩]
  received := 1
  closed := true
  state := st
  plan := none
  waitStart := none
  holdStart := none
  reachedGo := false
  arrival := 0

/-- A table of one call; its segment is off the free list. -/
def withCall (r : CallRecord) (s : State) : State :=
  { s with store.calls := [r], store.poolFree := 64 - r.chain.length }

/-- A peer of circuit 4. -/
def peer (st : Byte) (granted : Nat) : Peer := ⟨st, .fixture, 4, 9, granted, .live, 4000⟩

/-- A role on target 2. -/
def role (p : RolePhase) : Role := ⟨p, 2, 9, 2, ⟨65535, 0, 0, 65535, 0⟩, 200⟩

/-- Two holders of target 2. -/
def twoHolders (s : State) : State :=
  { s with cover.lists := s.cover.lists.set 2 [⟨31, 64200, .holder, 4900⟩, ⟨32, 62000, .holder, 4900⟩] }

/-- A CLAIM payload on circuit 4. -/
def claim (w : Word16) : ClaimFields := ⟨4, w, 3⟩

/-- A configuration record of these figures; the sum of its bytes stands in the last two. -/
def goodRecord : List Byte :=
  let b : List Byte :=
    [30, 4, 0, 0, 0, 9, 4, 176, 0, 35, 1, 44, 0, 50, 0, 200, 1, 0] ++ List.replicate 12 0 ++ [0, 0, 0, 0, 0x87, 0x00, 0, 0,
      0x43, 0x80, 0, 0, 0xEA, 0x60, 20, 20, 0, 60, 0, 60, 0, 10, 0, 10, 20, 15, 0x1F, 0x40, 0x1F, 0x40, 4, 0, 0, 64, 50, 0,
      1, 0xF4, 7, 0xD0, 90, 0, 0, 0, 0, 0] ++ List.replicate 36 0 ++ [80, 100] ++ List.replicate 140 0
  b ++ natBytes 2 (b.map BitVec.toNat).sum

/-! ### Witnesses: the queue of commands, resets, the configuration read, the tick -/

theorem witness_StepRunsFrontCommand :
    ({ ready with pending := [.tick, .go] } : State).pending = [.tick, .go] ∧ ready.pending = [] := by decide

/-- An attempt with no command waiting has byte 1 read back, and is SENDING (R3). -/
theorem test_attempt_passes_to_sending :
    (match step { ready with link.lineState := .arbitrating } with
      | .next t => decide (t.link.lineState = .sending)
      | .fault _ => false
      | .refused _ => false) = true := by decide

theorem witness_FailedReadUnconfigures :
    State.reset.station.mode = .config ∧ checksumOk (recordBytes []) = false
      ∧ checksumOk (recordBytes (List.replicate 256 0)) = true
      ∧ recordRangeOk (recordBytes (List.replicate 256 0)) = false := by decide +kernel

theorem witness_PassedReadStarts :
    State.reset.station.mode = .config ∧ State.reset.station.restarted = false ∧ State.reset.drive.axesOn = false
      ∧ State.reset.power.round = none ∧ State.reset.power.deferred = [] ∧ State.reset.power.solo = none
      ∧ Quiet State.reset ∧ checksumOk (recordBytes goodRecord) = true ∧ recordRangeOk (recordBytes goodRecord) = true := by
  unfold Quiet; decide +kernel

/-- A station in the CONFIG of a RESTART, homed. -/
def restarting : State := { ready with station.mode := .config, station.restarted := true, link.lineState := .off }

/-- Positions within the record's limits, and one count outside each. -/
theorem witness_RestartedReadKeepsAxes :
    restarting.station.mode = .config ∧ restarting.station.restarted = true ∧ restarting.drive.axesOn = true
      ∧ restarting.drive.panHomed = true ∧ restarting.drive.tiltHomed = true ∧ restarting.power.round = none
      ∧ Quiet restarting ∧ checksumOk (recordBytes goodRecord) = true ∧ recordRangeOk (recordBytes goodRecord) = true
      ∧ (parseFigures (recordBytes goodRecord)).panMin = 0 ∧ (parseFigures (recordBytes goodRecord)).panMax = 34560
      ∧ (parseFigures (recordBytes goodRecord)).tiltMin = 0 ∧ (parseFigures (recordBytes goodRecord)).tiltMax = 17280
      ∧ ∀ x ∈ [((34561 : Int), (-1 : Int)), (-1, 17281)],
        let s : State := { restarting with planner.pan := x.1, planner.tilt := x.2 }
        s.station.mode = .config ∧ (x.1 < 0 ∨ 34560 < x.1) ∧ (x.2 < 0 ∨ 17280 < x.2) := by
  unfold Quiet; decide +kernel

theorem witness_TickAdvances :
    ready.station.mode = .ready ∧ ready.planner.motion = none ∧ ready.colour.fade = none
      ∧ State.reset.station.mode ≠ .reset ∧ State.reset.station.mode ≠ .ready ∧ State.reset.station.mode ≠ .isolated
      ∧ ({ ready with station.mode := .isolated } : State).station.mode = .isolated
      ∧ ({ ready with station.mode := .reset } : State).station.mode = .reset := by
  decide

/-- A segment at its second last tick, and no fade. -/
def moving : State := { ready with planner.motion := some ⟨17280, 8640, 18000, 8640, 1000, 250, 998, 60, .follow⟩ }

/-- A fade of ten ticks, so many of them taken, and no segment. -/
def fading (t : Nat) : State :=
  { ready with colour.fade := some ⟨darkLevels, [65535, 0, 0, 0, 0, 1], 10, t, false, 65536, .role⟩ }

/-- A segment that moves, one that stands at its D; a fade with two ticks to go, and with one. -/
theorem witness_TickMovesMotionAndFade :
    moving.station.mode ≠ .reset ∧ moving.colour.fade = none
      ∧ moving.planner.motion = some ⟨17280, 8640, 18000, 8640, 1000, 250, 998, 60, .follow⟩ ∧ 998 < 1000
      ∧ ({ ready with planner.motion := some ⟨17280, 8640, 18000, 8640, 1000, 250, 1000, 60, .follow⟩ } : State).planner.motion
          = some ⟨17280, 8640, 18000, 8640, 1000, 250, 1000, 60, .follow⟩
      ∧ ∀ t ∈ [8, 9], (fading t).station.mode ≠ .reset ∧ (fading t).planner.motion = none
        ∧ (fading t).colour.fade = some ⟨darkLevels, [65535, 0, 0, 0, 0, 1], 10, t, false, 65536, .role⟩
        ∧ darkLevels.length = [65535, 0, 0, 0, 0, 1].length := by decide +kernel

/-- Nine tenths of the way, and the last step left to FADE_COMPLETE (R161). -/
theorem test_fade_stands_one_tick_short :
    (match exec .tick (fading 8), exec .tick (fading 9) with
      | .next t, .next u => decide (t.colour.levels = [58981, 0, 0, 0, 0, 0])
          && decide (u.colour.levels = darkLevels ∧ u.colour.fade.map Fade.due = some true)
      | _, _ => false) = true := by decide +kernel

theorem witness_ProfileStaysBetweenEnds : 1 ≤ 250 ∧ 2 * 250 ≤ 1000 ∧ 1000 ≤ 1000 ∧ 250 ≤ 1000 ∧ 750 ≤ 1000 := by decide

/-! ### Witnesses: the line -/

/-- A CLAIM waits behind a COVER. -/
def twoWaiting : State :=
  { ready with link.queue := [⟨.cover ⟨2, 1, 64000, 2, 0⟩, 0, false, none⟩, ⟨.claim (claim 70), 3, false, none⟩] }

theorem twoWaiting_queueInv : QueueInv twoWaiting := by
  refine ⟨by decide, by decide, ?_⟩
  intro e he
  simp only [twoWaiting, List.mem_cons, List.not_mem_nil, or_false] at he
  rcases he with rfl | rfl <;> exact ⟨trivial, by decide⟩

/-- Runs at the first opportunity and one past it; a CLAIM before a COVER, and nothing waiting; a line not idle. -/
theorem witness_IdleLineStartsFrames :
    twoWaiting.link.lineState = .idle ∧ (∀ x ∈ [(12, 1), (13, 2), (24, 2)], 12 ≤ x.1 ∧ x.1 ≤ 12 * x.2 ∧ 12 * x.2 < x.1 + 12)
      ∧ QueueInv { twoWaiting with link.recessiveRun := 13 }
      ∧ twoWaiting.link.queue = [⟨.cover ⟨2, 1, 64000, 2, 0⟩, 0, false, none⟩] ++ ⟨.claim (claim 70), 3, false, none⟩ :: []
      ∧ (∀ x ∈ [TxEntry.mk (.cover ⟨2, 1, 64000, 2, 0⟩) 0 false none], x.inFlight = false →
          (TxBody.claim (claim 70)).kind < x.body.kind)
      ∧ ready.link.queue = [] ∧ State.reset.link.lineState ≠ .idle :=
  ⟨rfl, by decide, twoWaiting_queueInv, rfl, by decide, rfl, by decide⟩

/-- An attempt of a CLAIM of 300 W, reason 3, from station 30. -/
def claiming (attempts : Nat) : State := sending (.claim (claim 300)) attempts ready

/-- The frame of that attempt. -/
def claimOnLine : Frame := ⟨30, .claim (claim 300)⟩

/-- The attempt, a newer payload held behind it. -/
def claimingNewer (attempts : Nat) : State :=
  { claiming attempts with link.queue := [⟨.claim (claim 300), attempts, true, some (.claim (claim 200))⟩] }

theorem witness_ArbitrationLossReturnsEntry :
    (claiming 2).link.lineState = .arbitrating ∧ (claiming 2).link.txFrame = some claimOnLine
      ∧ arbitrationBit 14 = true ∧ (lineLevels claimOnLine.bytes)[14]? = some true
      ∧ (claiming 2).link.queue = [] ++ ⟨.claim (claim 300), 2, true, none⟩ :: []
      ∧ (claimingNewer 2).link.queue = [] ++ ⟨.claim (claim 300), 2, true, some (.claim (claim 200))⟩ :: [] := by
  decide +kernel

/-- The loss at bit time 14, the bit of weight 16 of station 30: the frame of station 12 goes on as the one received, and
one of station 22, whose number has that bit, is none that the line can carry (R8). -/
theorem test_lost_bits_bind_the_winner :
    (match exec (.arbitrationLost 14) (claiming 2) with
      | .next t => decide (t.link.rxBuffer = [1] ∧ t.link.rxBits = [false, false, false, false, false])
          && t.receives (Frame.bytes ⟨12, .claim (claim 300)⟩) none
          && !t.receives (Frame.bytes ⟨22, .claim (claim 300)⟩) none
      | .fault _ => false
      | .refused _ => false) = true := by decide +kernel

/-- A start bit of byte 0 that reads back recessive lengthens the run of 12 at whose opportunity it was driven, the discard
leaves it at 13, and the line is idle again with it (R2, R4, R9). -/
theorem test_recessive_start_bit_keeps_run :
    (go1 (.clash 0) (claiming 2)).link.recessiveRun = 13
      ∧ (go1 (.frameDiscard [] (some .startBitRecessive)) (go1 (.clash 0) (claiming 2))).link.recessiveRun = 13
      ∧ (go1 .lineIdle { claiming 2 with link.lineState := .waitIdle, link.recessiveRun := 13 }).link.recessiveRun = 13 := by
  decide +kernel

/-- A clash on the last bit of a frame and on the first: the third attempt, and the fourth with a newer payload held. -/
theorem witness_ClashRetries :
    (claiming 2).link.lineState = .arbitrating ∧ (claiming 2).link.txFrame = some claimOnLine
      ∧ (∀ p ∈ [0, 89], p < (lineLevels claimOnLine.bytes).length
        ∧ ¬(arbitrationBit p = true ∧ (lineLevels claimOnLine.bytes)[p]? = some true))
      ∧ (claiming 2).link.queue = [] ++ ⟨.claim (claim 300), 2, true, none⟩ :: [] ∧ 2 < 3
      ∧ (claimingNewer 3).link.lineState = .arbitrating ∧ (claimingNewer 3).link.txFrame = some claimOnLine
      ∧ (claimingNewer 3).link.queue = [] ++ ⟨.claim (claim 300), 3, true, some (.claim (claim 200))⟩ :: [] := by
  decide +kernel

/-- A REPORT of this station. -/
def page : ReportFields := ⟨4, List.replicate 47 0⟩

/-- That REPORT on the line, a newer one held behind it or not. -/
def reporting (next : Option TxBody) : State :=
  { sending (.report page) 1 ready with link.queue := [⟨.report page, 1, true, next⟩] }

theorem witness_SuccessRemovesEntry :
    ∀ n ∈ [none, some (TxBody.report page)],
      Quiet (reporting n) ∧ (reporting n).link.lineState = .arbitrating
        ∧ (reporting n).link.txFrame = some ⟨30, .report page⟩ ∧ (reporting n).link.linkLost = false
        ∧ (reporting n).link.queue = [] ++ ⟨.report page, 1, true, n⟩ :: [] := by
  unfold Quiet; decide +kernel

/-- The own TAKE for target 2 on the line, the role CANDIDATE with a fade of so many ticks; one HOLDER of two stands. -/
def taking (fade : Nat) : State :=
  { sending (.cover ⟨2, 0, 64000, 2, 0⟩) 0 ready with
    cover.role := some { role .candidate with colour := ⟨65535, 0, 0, 65535, fade⟩ }
    cover.ownQ := 1
    cover.lists := ready.cover.lists.set 2 [⟨31, 64200, .holder, 4900⟩] }

theorem witness_SuccessRemovesEntry_take :
    ∀ n ∈ [0, 20],
      Quiet (taking n) ∧ (taking n).link.lineState = .arbitrating ∧ (taking n).link.linkLost = false
        ∧ (taking n).link.queue = [] ++ ⟨.cover ⟨2, 0, 64000, 2, 0⟩, 0, true, none⟩ :: []
        ∧ (taking n).link.txFrame = some ⟨(taking n).station.ownStation, .cover ⟨2, 0, 64000, 2, 0⟩⟩
        ∧ Frame.wf ⟨(taking n).station.ownStation, .cover ⟨2, 0, 64000, 2, 0⟩⟩ = true
        ∧ (taking n).station.mode.appliesCover = true ∧ (taking n).station.figures = some figs ∧ 0 < (taking n).cover.ownQ
        ∧ (taking n).cover.role = some { role .candidate with colour := ⟨65535, 0, 0, 65535, n⟩ }
        ∧ (taking n).cover.lists[2]? = some [⟨31, 64200, .holder, 4900⟩]
        ∧ (∀ x ∈ [Holder.mk 31 64200 .holder 4900], x.station ≠ (taking n).station.ownStation)
        ∧ ([Holder.mk 31 64200 .holder 4900].filter Holder.isHolder).length < (2 : Byte).toNat := by
  unfold Quiet; decide +kernel

/-- The plan of a move that asks for no more than the position in hand. -/
def shortPlan : Plan := ⟨17280, 8640, [⟨18000, 8640, 1000, 250, 1000, 250, 43⟩], .asRequested, 65536, 0, 78, 78⟩

/-- A COLOUR call of red over so many ticks, its plan made. -/
def lit (st : CallState) (fade : Nat) : CallRecord :=
  { call 78 .colour st with
    chain := []
    colour := some ⟨65535, 0, 0, 65535, fade⟩
    plan := some ⟨17280, 8640, [], .asRequested, 65536, 90, 160, 160⟩ }

/-- A move with that plan. -/
def planned (st : CallState) : CallRecord := { call 77 .angles st with plan := some shortPlan }

/-- An own CLAIM of an OPEN round on the line, the others on circuit 4 holding so many watts. -/
def asking (w : Word16) (reason : Reason) (p : Purpose) (others : Nat) (s : State) : State :=
  { sending (.claim ⟨4, w, BitVec.ofNat 8 reason.code⟩) 0 s with
    power.round := some ⟨false, w.toNat, reason, p, false⟩
    clock.peers := [peer 22 others] }

/-- STARTING, the homing claim sought. -/
def starting : State := { ready with station.mode := .starting, station.homingNeeded := true, drive.axesOn := false }

/-- The budget of 1200 W met to the watt, and passed by one; a call CLAIMING, a COLOUR call and a move WAITING, a role
CLAIMING, the homing claim. -/
theorem witness_RoundsReachTheirPurpose :
    (∀ x ∈ [(Reason.move, Purpose.move 77, 900, withCall (planned .claiming) ready),
        (.move, .move 77, 901, withCall (planned .claiming) ready),
        (.move, .move 78, 900, withCall (lit .waiting 20) ready),
        (.move, .move 77, 900, withCall (planned .waiting) ready),
        (.follow, .follow, 900, { ready with cover.role := some (role .claiming) }),
        (.homing, .homing, 900, starting)],
      let s := asking 300 x.1 x.2.1 x.2.2.1 x.2.2.2
      Quiet s ∧ s.link.lineState = .arbitrating
        ∧ s.link.txFrame = some ⟨30, .claim ⟨4, 300, BitVec.ofNat 8 x.1.code⟩⟩
        ∧ Frame.wf ⟨30, .claim ⟨4, 300, BitVec.ofNat 8 x.1.code⟩⟩ = true ∧ s.link.linkLost = false
        ∧ s.power.solo = none ∧ s.power.deferred = [] ∧ s.station.figures = some figs
        ∧ s.power.round = some ⟨false, 300, x.1, x.2.1, false⟩
        ∧ x.1.code = (BitVec.ofNat 8 x.1.code).toNat ∧ s.landing.records = [] ∧ s.planner.counters.ceiling ≤ 65535)
      ∧ 300 + 900 = figs.budget ∧ ¬300 ≤ ready.power.granted ∧ (planned .claiming).state = .claiming
      ∧ (lit .waiting 20).mode = .colour ∧ 0 < 20 ∧ (lit .waiting 20).chain = []
      ∧ (planned .waiting).chain = [⟨0, true, 1000, 250, 18000, 8640, 0, .queued⟩]
      ∧ checksOk figs (travel 17280 8640 18000 8640) 1000 250 = true
      ∧ figs.baseClaim + segmentClaim figs (travel 17280 8640 18000 8640) 1000 250 + shortPlan.emitterTerm ≤ 300
      ∧ (role .claiming).phase = .claiming ∧ starting.station.mode = .starting := by
  unfold Quiet; decide +kernel

/-- A sync call CLAIMING for group 3, its plan landing 125 ticks later than asked, exactly as asked, and for this station. -/
theorem witness_RoundsReachTheirPurpose_offer :
    ∀ x ∈ [(Scope.group 3, 1125), (.group 3, 1000), (.station 30, 1125)],
      let s : State :=
        { asking 300 .move (.move 77) 900 (withCall (planned .claiming) ready) with
          landing.records := [⟨77, x.1, 900000, some 1000, some x.2, 0, .opened, none⟩] }
      s.store.calls = [planned .claiming] ∧ (planned .claiming).state = .claiming
        ∧ s.landing.records = [⟨77, x.1, 900000, some 1000, some x.2, 0, .opened, none⟩]
        ∧ s.link.queue = ⟨.claim ⟨4, 300, 1⟩, 0, true, none⟩ :: [] ∧ s.power.round = some ⟨false, 300, .move, .move 77, false⟩
        ∧ (x.1 = .group 3 ∨ x.1 = .station 30) ∧ Quiet s ∧ s.link.txFrame = some ⟨30, .claim ⟨4, 300, 1⟩⟩ := by
  unfold Quiet; decide +kernel

/-- The fourth attempt, so many drops before it, the link lost or not, in a mode. -/
def dropping (failures : Nat) (lost : Bool) (m : StationMode) : State :=
  { claiming 3 with link.failures := failures, link.linkLost := lost, station.mode := m }

/-- ISOLATED with the link lost, the send mark set or not. -/
def alone (sent : Bool) (s : State) : State :=
  { s with station.mode := .isolated, link.linkLost := true, link.sendMark := sent, power.solo := some 0 }

/-- The eighth drop in READY and in HOMING, and one past it; a REPORT heard before and after a success; a success before and
after a REPORT; ISOLATED left with no call, with a PLANNED one, and with a role. -/
theorem witness_LinkLostAndRecovered :
    (∀ x ∈ [(7, false, StationMode.ready), (7, false, .homing), (8, true, .isolated)],
      let s := dropping x.1 x.2.1 x.2.2
      Quiet s ∧ s.link.lineState = .arbitrating ∧ s.link.txFrame = some claimOnLine
        ∧ 89 < (lineLevels claimOnLine.bytes).length
        ∧ ¬(arbitrationBit 89 = true ∧ (lineLevels claimOnLine.bytes)[89]? = some true)
        ∧ s.link.queue = [] ++ ⟨.claim (claim 300), 3, true, none⟩ :: [])
      ∧ (∀ b : Bool, ∀ m ∈ [StationMode.faulted, .isolated],
          let s : State := { alone b (hearing ready) with station.mode := m }
          Quiet s ∧ Listening ⟨22, .report page⟩ s ∧ Frame.wf ⟨22, .report page⟩ = true ∧ (22 : Byte) ≠ 30
            ∧ s.link.linkLost = true ∧ s.link.sendMark = b)
      ∧ (∀ b : Bool, ∀ m ∈ [StationMode.faulted, .isolated],
          let s : State :=
            { reporting none with station.mode := m, link.linkLost := true, link.receiveMark := b }
          Quiet s ∧ s.link.lineState = .arbitrating ∧ s.link.txFrame = some ⟨30, .report page⟩ ∧ s.link.linkLost = true)
      ∧ ∀ s ∈ [hearing ready, withCall (planned .planned) (hearing ready),
          { withCall { call 77 .follow .running with chain := [] } (hearing ready) with
            cover.role := some (role .holder) }],
        Quiet (alone true s) ∧ Listening ⟨22, .report page⟩ (alone true s) ∧ (alone true s).station.mode = .isolated
          ∧ s.station.figures = some figs ∧ s.power.round = none ∧ s.planner.motion = none ∧ s.colour.fade = none
          ∧ s.drive.axesOn = true ∧ 0 < s.power.granted := by
  unfold Quiet Listening; decide +kernel

/-- That attempt is the fourth, and an OPEN round stands for its request. -/
def lastAttempt : State := { claiming 3 with power.round := some ⟨false, 300, .idle, .lowering, false⟩ }

theorem witness_FourthClashDrops :
    Quiet lastAttempt ∧ lastAttempt.link.lineState = .arbitrating ∧ lastAttempt.link.txFrame = some claimOnLine
      ∧ 0 < (lineLevels claimOnLine.bytes).length
      ∧ ¬(arbitrationBit 0 = true ∧ (lineLevels claimOnLine.bytes)[0]? = some true)
      ∧ lastAttempt.link.queue = [] ++ ⟨.claim (claim 300), 3, true, none⟩ :: [] ∧ lastAttempt.link.failures < 7
      ∧ lastAttempt.power.round = some ⟨false, 300, .idle, .lowering, false⟩
      ∧ (300 : Nat) = (claim 300).requested.toNat ∧ Reason.idle.code = (claim 300).reason.toNat := by
  unfold Quiet; decide +kernel

/-- A COVER on its fourth attempt: the drop of no CLAIM. -/
theorem witness_FourthClashDrops_cover :
    (sending (.cover ⟨2, 1, 64000, 2, 0⟩) 3 ready).link.queue
      = [] ++ ⟨.cover ⟨2, 1, 64000, 2, 0⟩, 3, true, none⟩ :: []
      ∧ (∀ f, TxBody.cover ⟨2, 1, 64000, 2, 0⟩ ≠ .claim f) := ⟨rfl, fun _ => nofun⟩

/-- The attempt with its round OPEN; the others on circuit 4 hold so many watts. -/
def readingBack (others : Nat) : State :=
  { claiming 0 with power.round := some ⟨false, 300, .idle, .lowering, false⟩, clock.peers := [peer 22 others] }

/-- The claim of 300 W: exactly within the budget of 1200 W beside 900 W, one watt above it beside 901 W. -/
theorem witness_OwnClaimReadback :
    (∀ n ∈ [900, 901],
      Quiet (readingBack n) ∧ (readingBack n).link.lineState = .arbitrating
        ∧ (readingBack n).link.txFrame = some claimOnLine ∧ claimOnLine.wf = true ∧ (readingBack n).link.linkLost = false
        ∧ (readingBack n).power.solo = none ∧ (readingBack n).power.deferred = []
        ∧ (readingBack n).station.figures = some figs
        ∧ (readingBack n).power.round = some ⟨false, 300, .idle, .lowering, false⟩
        ∧ (300 : Nat) = (claim 300).requested.toNat ∧ Reason.idle.code = (claim 300).reason.toNat
        ∧ ¬(claim 300).requested.toNat ≤ (readingBack n).power.granted)
      ∧ (claim 300).requested.toNat + 900 ≤ figs.budget ∧ ¬(claim 300).requested.toNat + 901 ≤ figs.budget := by
  unfold Quiet; decide +kernel

/-- FAULTED, the link lost or not. -/
def faulted (lost : Bool) : State :=
  { ready with station.mode := .faulted, station.statusAsserted := true, link.linkLost := lost }

theorem witness_StuckLineSetsLinkLost :
    State.reset.link.lineState = .off ∧ ready.link.lineState ≠ .off
      ∧ ∀ b, Quiet (faulted b) ∧ (faulted b).link.lineState ≠ .off ∧ (faulted b).station.mode ≠ .ready
      ∧ (faulted b).link.linkLost = b := by
  unfold Quiet; decide

theorem witness_LinkLossIsolates :
    Quiet ready ∧ ready.link.lineState ≠ .off ∧ ready.station.mode = .ready ∧ ready.link.linkLost = false
      ∧ ready.station.figures = some figs ∧ ready.store.calls = [] ∧ ready.cover.role = none ∧ ready.colour.fade = none
      ∧ ready.drive.axesOn = true ∧ 0 < ready.power.granted
      ∧ figs.baseClaim + (figs.pan.hold + figs.tilt.hold) + emitterClaim figs.emitterWatts ready.colour.levels
          ≤ figs.soloAllowance := by
  unfold Quiet; decide +kernel

/-- Every emitter lit: 70 W and 370 W of light, above the solo allowance of 300 W until the seventh dim step. -/
theorem witness_LinkLossIsolates_dims :
    let s : State := { ready with colour.levels := List.replicate 6 65535 }
    let claim := fun (k : Nat) => figs.baseClaim + (figs.pan.hold + figs.tilt.hold)
      + emitterClaim figs.emitterWatts (s.colour.levels.map (fun l => l * (65536 - 4096 * k) / 65536))
    Quiet s ∧ s.station.mode = .ready ∧ s.store.calls = [] ∧ s.cover.role = none ∧ s.colour.fade = none
      ∧ figs.soloAllowance < figs.baseClaim + (figs.pan.hold + figs.tilt.hold) + emitterClaim figs.emitterWatts s.colour.levels
      ∧ claim 7 ≤ figs.soloAllowance ∧ ∀ k ∈ [1, 2, 3, 4, 5, 6], figs.soloAllowance < claim k := by
  unfold Quiet; decide +kernel

/-- One run of bytes for each check that can fail. -/
theorem witness_DiscardCountsOneReason :
    (hearing ready).link.lineState = .receiving ∧ (hearing ready).link.begins [1, 12] (some .startBitRecessive) = true
      ∧ (hearing ready).link.begins (Frame.bytes ⟨12, .probe ⟨30, 5, 0⟩⟩) none = true
      ∧ judge 30 [1, 12] (some .startBitRecessive) = .discard .symbolError 2
      ∧ judge 30 [10] none = .discard .unknownKind 1 ∧ judge 30 [1, 255] none = .discard .badStation 2
      ∧ judge 30 [1, 12, 5] none = .discard .badLength 3
      ∧ judge 30 [8, 12, 3, 30, 0, 0, 0, 0] none = .discard .badCrc 8
      ∧ judge 30 (Frame.bytes ⟨12, .probe ⟨30, 5, 0⟩⟩) none = .discard .badField 8
      ∧ judge 30 (Frame.bytes ⟨30, .probe ⟨12, 4, 0⟩⟩) none = .discard .ownNumber 8 := by decide +kernel

theorem witness_FramesReadBack :
    claimOnLine.wf = true ∧ claimOnLine.station ≠ 12 ∧ claimOnLine.station = 30 ∧ (1 : Byte) ≠ 0 := by decide

/-! ### Witnesses: arrivals -/

/-- Two peers on circuit 4, and the line RECEIVING. -/
def heard : State := { hearing ready with clock.peers := [peer 22 300, peer 200 500] }

theorem witness_ReportAndTrackRecorded :
    Arrives ⟨22, .report page⟩ heard ∧ Arrives ⟨100, .track ⟨15, 0, 0, 0, 0⟩⟩ heard ∧ heard.cover.role = none
      ∧ Arrives ⟨100, .track ⟨0, 0, 0, 0, 0⟩⟩ { heard with station.mode := .unconfigured } := by
  unfold Arrives Quiet Listening; decide +kernel

/-- A call under way, its segment moving, in a mode. -/
def inAct (m : StationMode) (solo : Option Nat) : State :=
  { withCall { call 77 .angles .running with chain := [⟨0, true, 1000, 250, 18000, 8640, 0, .active⟩] } heard with
    station.mode := m
    power.solo := solo
    planner.motion := some ⟨17280, 8640, 18000, 8640, 1000, 250, 998, 60, .call 77⟩ }

/-- STOPs with FREEZE and BLACKOUT to group 3, with neither to station 30; in READY with a segment moving, in ISOLATED on
the solo allowance, in STARTING with an empty table, and in the two modes that take no intake. -/
theorem witness_StopEndsEveryCall :
    (∀ f ∈ [StopFields.mk 0 3 3, ⟨1, 30, 0⟩],
      (∀ s ∈ [inAct .ready none, inAct .isolated (some 0), { starting with link := heard.link },
          inAct .unconfigured none, inAct .faulted none],
        Arrives ⟨200, .stop f⟩ s ∧ f.flags.getLsbD 2 = false
          ∧ ((f.scopeType = 0 ∧ s.ownGroups.getLsbD f.scopeValue.toNat = true)
            ∨ (f.scopeType = 1 ∧ f.scopeValue = s.station.ownStation)) ∧ StoreInv s))
      ∧ StationMode.takesIntake .ready = true ∧ StationMode.takesIntake .isolated = true
      ∧ StationMode.takesIntake .starting = true := by
  unfold Arrives Quiet Listening StoreInv chained; decide +kernel

/-- The owner of that segment stands: the call 77 is held. -/
theorem inAct_ownerInv (m : StationMode) (solo : Option Nat) : OwnerInv (inAct m solo) :=
  ⟨fun _ h => by cases h; exact ⟨_, List.mem_cons_self, rfl⟩, nofun⟩

theorem witness_StopEndsEveryCall_owner :
    OwnerInv (inAct .ready none) ∧ OwnerInv (inAct .isolated (some 0)) ∧ OwnerInv { starting with link := heard.link } :=
  ⟨inAct_ownerInv _ _, inAct_ownerInv _ _, nofun, nofun⟩

/-- Solo mode ON in ISOLATED; a segment under way with its call; each goes on by a tick. -/
theorem witness_SoloAndOwnerKept :
    SoloInv (inAct .isolated (some 0)) ∧ (∃ t, exec .tick (inAct .isolated (some 0)) = .next t)
      ∧ OwnerInv (inAct .ready none) ∧ ∃ t, exec .tick (inAct .ready none) = .next t :=
  ⟨fun _ => .inl rfl, ⟨_, rfl⟩, inAct_ownerInv _ _, _, rfl⟩

theorem witness_RestartKeepsAndClears :
    (∀ fl ∈ [(4 : Byte), 6], ∀ s ∈ [heard, alone false heard],
      Arrives ⟨200, .stop ⟨1, 30, fl⟩⟩ s ∧ fl.getLsbD 2 = true ∧ s.station.ownStation = 30
        ∧ s.station.figures = some figs ∧ s.store.calls = [] ∧ s.cover.role = none ∧ s.link.queue.length < 12)
      ∧ (4 : Byte).getLsbD 1 = false ∧ heard.power.solo = none ∧ (alone false heard).power.solo.isSome = true
      ∧ (alone false heard).station.mode = .isolated := by
  unfold Arrives Quiet Listening; decide +kernel

/-- ISOLATED with a WAITING call whose request of 400 W the solo allowance refused: its round is AWAITING. -/
def refusedAlone : State :=
  { withCall { planned .waiting with waitStart := some 4900 } (alone false heard) with
    power.granted := 300
    power.round := some ⟨true, 400, .move, .move 77, false⟩
    power.reclaim := some 100 }

theorem witness_RestartKeepsAndClears_abandoned :
    Arrives ⟨200, .stop ⟨1, 30, 4⟩⟩ refusedAlone ∧ refusedAlone.power.solo.isSome = true
      ∧ refusedAlone.station.mode = .isolated ∧ refusedAlone.station.figures = some figs
      ∧ refusedAlone.cover.role = none := by
  unfold Arrives Quiet Listening; decide +kernel

/-- The RESTART abandons that round, and the claim is brought down to the idle claim of 70 W: 35 W and 35 W of hold, the
head dark (R60, R113, R115, R121). -/
theorem test_restart_lowers_abandoned_claim :
    (go1 (.stop 200 ⟨1, 30, 4⟩) refusedAlone).power.granted = 70
      ∧ (go1 (.stop 200 ⟨1, 30, 4⟩) refusedAlone).station.mode = .config := by decide +kernel

/-- The claims of station 22: on circuit 5; lower than the 300 W held; 630 W, exactly within the budget beside 500 W and
the own 70 W; 631 W, one watt above. -/
theorem witness_PeerClaimTested :
    (∀ f ∈ [ClaimFields.mk 4 299 1, ⟨4, 630, 1⟩, ⟨4, 631, 1⟩], Arrives ⟨22, .claim f⟩ heard ∧ f.circuit.toNat = 4)
      ∧ heard.station.mode.testsClaims = true ∧ heard.station.figures = some figs
      ∧ heard.clock.peers.find? (fun q => q.station == 22) = some (peer 22 300)
      ∧ (∀ q ∈ heard.clock.peers, q.station = 22 → q = peer 22 300)
      ∧ 630 + (othersOn figs 22 heard.clock.peers + heard.power.granted) = figs.budget := by
  unfold Arrives Quiet Listening; decide +kernel

/-- The same, the sender on another circuit. -/
theorem witness_PeerClaimTested_elsewhere :
    Arrives ⟨22, .claim ⟨5, 900, 1⟩⟩ { heard with clock.peers := [{ peer 22 300 with circuit := 5 }] } ∧ 5 ≠ figs.circuit := by
  unfold Arrives Quiet Listening; decide +kernel

/-- Station 22 with 300 W on circuit 5. -/
def elsewhere : State := { heard with clock.peers := [{ peer 22 300 with circuit := 5 }, peer 200 500] }

/-- The sender comes to circuit 4, its 300 W put to 0: nothing asked for, and each side of the budget. -/
theorem witness_PeerClaimTested_moved :
    (∀ f ∈ [ClaimFields.mk 4 0 1, ⟨4, 630, 1⟩, ⟨4, 631, 1⟩], Arrives ⟨22, .claim f⟩ elsewhere)
      ∧ elsewhere.clock.peers.find? (fun q => q.station == 22) = some { peer 22 300 with circuit := 5 }
      ∧ (∀ q ∈ elsewhere.clock.peers, q.station = 22 → q = { peer 22 300 with circuit := 5 })
      ∧ elsewhere.power.round = none := by
  unfold Arrives Quiet Listening; decide +kernel

/-- So many peers, of stations 100 on, on circuit 4 with no claim, but for the first on a circuit in a state. -/
def peersOf (n : Nat) (circuit : Nat) (st : PeerState) : List Peer :=
  { peer 100 0 with circuit := circuit, state := st }
    :: (List.range (n - 1)).map (fun i => peer (BitVec.ofNat 8 (i + 101)) 0)

/-- A sender with no entry: one room left and none, on the own circuit and on another. -/
theorem witness_PeerClaimTested_new :
    ∀ n ∈ [95, 96], ∀ f ∈ [ClaimFields.mk 4 300 1, ⟨5, 300, 1⟩],
      let s : State := { heard with clock.peers := peersOf n 4 .live }
      Arrives ⟨99, .claim f⟩ s ∧ s.clock.peers = [] ++ s.clock.peers
        ∧ (∀ q ∈ s.clock.peers, (99 : Byte).toNat < q.station.toNat ∧ q.circuit = figs.circuit)
        ∧ s.clock.peers.length = n := by
  unfold Arrives Quiet Listening; decide +kernel

/-- A full table with one entry on another circuit, LIVE and SILENT. -/
theorem witness_PeerClaimTested_evicts :
    ∀ p ∈ [PeerState.live, .silent],
      let s : State := { heard with clock.peers := peersOf 96 5 p }
      let old : Peer := { peer 100 0 with circuit := 5, state := p }
      Arrives ⟨99, .claim ⟨4, 300, 1⟩⟩ s ∧ PeerInv s ∧ s.clock.peers.length = 96 ∧ s.cover.role = none
        ∧ old ∈ s.clock.peers ∧ old.circuit ≠ figs.circuit
        ∧ (∀ q ∈ s.clock.peers, q.station ≠ 99 ∧ (q.circuit ≠ figs.circuit → q = old))
        ∧ (∀ q ∈ s.clock.peers.filter (fun q => q.station != old.station), (99 : Byte).toNat < q.station.toNat) := by
  unfold Arrives Quiet Listening PeerInv; decide +kernel

/-- A round of a purpose refused and waiting. -/
def refusedRound (reason : Reason) (p : Purpose) (s : State) : State :=
  { s with power.round := some ⟨true, 300, reason, p, false⟩, power.reclaim := some 100 }

/-- A claim one watt below that held, in each wait. -/
theorem witness_PeerClaimTested_rise :
    (∀ x ∈ [(Reason.homing, Purpose.homing), (.idle, .lowering), (.follow, .follow)],
      let s : State := { refusedRound x.1 x.2 heard with cover.role := some (role .claiming) }
      Arrives ⟨22, .claim ⟨4, 299, 1⟩⟩ s ∧ s.power.solo = none ∧ s.power.settle = none ∧ s.power.deferred = []
        ∧ s.colour.fade = none ∧ s.cover.role = some (role .claiming)
        ∧ s.power.round = some ⟨true, 300, x.1, x.2, false⟩ ∧ s.link.queue = []
        ∧ s.clock.peers.find? (fun q => q.station == 22) = some (peer 22 300))
      ∧ (299 : Word16).toNat < (peer 22 300).granted ∧ (4 : Byte).toNat = figs.circuit := by
  unfold Arrives Quiet Listening; decide +kernel

/-- A holder of target 2, its head 120 counts of tilt from the aim of the point (0, 5000, 0). -/
def following : State := { heard with planner.tilt := 3000, cover.role := some (role .holder), cover.ownQ := 64000 }

/-- From there 91 ticks are the least that pass the limits. -/
theorem witness_TrackStartsFollowSegment :
    Arrives ⟨100, .track ⟨2, 0, 5000, 0, 0⟩⟩ following ∧ following.station.mode.appliesCover = true
      ∧ following.station.figures = some figs ∧ following.aim.pose = some figs.pose
      ∧ following.cover.role = some (role .holder) ∧ (role .holder).target = 2 ∧ (role .holder).phase ≠ .claiming
      ∧ (let a := solve figs figs.pose following.planner.pan following.planner.tilt 0 5000 0
         let v := travel following.planner.pan following.planner.tilt a.pan a.tilt
         let passes := fun x => checksOk figs v x (x / 2) = true ∧ segmentClaim figs v x (x / 2) ≤ figs.followAllowance
         figs.followLag ≤ 91 ∧ 91 ≤ 8 * figs.followLag ∧ passes 91 ∧ ∀ x < 91, figs.followLag ≤ x → ¬passes x) := by
  unfold Arrives Quiet Listening; decide +kernel

/-- Target 2 with two holders; with one of them relieved; with five. -/
def listed : State :=
  { heard with cover.lists := heard.cover.lists.set 2 [⟨31, 64200, .holder, 4900⟩, ⟨32, 62000, .holder, 4900⟩] }

def relieving : State :=
  { heard with
    cover.lists := heard.cover.lists.set 2 [⟨31, 64200, .holder, 4900⟩, ⟨32, 62000, .relieved 31 5500, 4900⟩] }

def fullList : State :=
  { heard with
    cover.lists := heard.cover.lists.set 2
      [⟨31, 64200, .holder, 4900⟩, ⟨32, 62000, .holder, 4900⟩, ⟨33, 62001, .holder, 4900⟩, ⟨34, 62002, .holder, 4900⟩,
        ⟨35, 62003, .holder, 4900⟩] }

/-- With C of 3 the TAKE is added; with C of 2 it relieves the weakest at the margin of 2000 and is refused one below. -/
theorem witness_TakeDecided :
    (∀ f ∈ [CoverFields.mk 2 0 64000 3 0, ⟨2, 0, 64000, 2, 0⟩, ⟨2, 0, 63999, 2, 0⟩], Arrives ⟨40, .cover f⟩ listed)
      ∧ listed.station.mode.appliesCover = true ∧ listed.station.figures = some figs ∧ CoverInv listed
      ∧ listed.cover.role = none
      ∧ listed.cover.lists[2]? = some [⟨31, 64200, .holder, 4900⟩, ⟨32, 62000, .holder, 4900⟩]
      ∧ (∀ h ∈ [Holder.mk 31 64200 .holder 4900, ⟨32, 62000, .holder, 4900⟩], h.station ≠ 40
          ∧ (h ≠ ⟨32, 62000, .holder, 4900⟩ → h.above ⟨32, 62000, .holder, 4900⟩ = true))
      ∧ 62000 + figs.handoffMargin = (64000 : Word16).toNat := by
  unfold Arrives Quiet Listening CoverInv HolderListOk; decide +kernel

/-- With C of 1 a TAKE is refused while an entry is RELIEVED, and with C of 4 in a list with no room. -/
theorem witness_TakeDecided_refused :
    Arrives ⟨40, .cover ⟨2, 0, 65535, 1, 0⟩⟩ relieving ∧ CoverInv relieving
      ∧ relieving.cover.lists[2]? = some [⟨31, 64200, .holder, 4900⟩, ⟨32, 62000, .relieved 31 5500, 4900⟩]
      ∧ Arrives ⟨40, .cover ⟨2, 0, 65535, 4, 0⟩⟩ fullList ∧ CoverInv fullList
      ∧ fullList.cover.lists[2]? = some
        [⟨31, 64200, .holder, 4900⟩, ⟨32, 62000, .holder, 4900⟩, ⟨33, 62001, .holder, 4900⟩,
          ⟨34, 62002, .holder, 4900⟩, ⟨35, 62003, .holder, 4900⟩] := by
  unfold Arrives Quiet Listening CoverInv HolderListOk; decide +kernel

/-- HOLDs of a station not listed, with room and without; of the taker of a RELIEVED entry, on target and not; a YIELD. -/
theorem witness_HoldAndYieldApplied :
    Arrives ⟨40, .cover ⟨2, 1, 63000, 2, 0⟩⟩ listed ∧ Arrives ⟨40, .cover ⟨2, 1, 63000, 2, 0⟩⟩ fullList
      ∧ (∀ h ∈ [Holder.mk 31 64200 .holder 4900, ⟨32, 62000, .holder, 4900⟩],
          h.station ≠ 40 ∧ h.relievedBy 40 = false)
      ∧ Arrives ⟨31, .cover ⟨2, 1, 63000, 2, 1⟩⟩ relieving ∧ Arrives ⟨31, .cover ⟨2, 1, 63000, 2, 0⟩⟩ relieving
      ∧ Arrives ⟨31, .cover ⟨2, 2, 0, 2, 0⟩⟩ relieving
      ∧ relieving.cover.lists[2]? = some ([] ++ ⟨31, 64200, .holder, 4900⟩ :: [⟨32, 62000, .relieved 31 5500, 4900⟩])
      ∧ (∀ x ∈ ([] : List Holder) ++ [⟨32, 62000, .relieved 31 5500, 4900⟩], x.station ≠ 31)
      ∧ Holder.relievedBy 31 ⟨31, 64200, .holder, 4900⟩ = false ∧ relieving.cover.role = none
      ∧ relieving.station.mode.appliesCover = true := by
  unfold Arrives Quiet Listening; decide +kernel

/-- One sync call's landing record, OPEN for group 3, its go at 900000. -/
def landing (d : Option Nat) : State :=
  { heard with landing.records := [⟨77, .group 3, 900000, d, some 1125, 0, .opened, none⟩] }

/-- Offers of another call, of another group, of a lead at the cap of 5 × 1000 and one past it. -/
theorem witness_OfferTaken :
    ∀ f ∈ [OfferFields.mk 78 3 901125, ⟨77, 4, 901125⟩, ⟨77, 3, 905000⟩, ⟨77, 3, 905001⟩],
      ∀ d ∈ [none, some 1000], Arrives ⟨22, .offer f⟩ (landing d) ∧ (landing d).station.mode.takesIntake = true := by
  unfold Arrives Quiet Listening; decide +kernel

/-- An ANGLES CALL of two segments, and variants. -/
def callOf (scope : Byte) (flags count : Byte) (go : Word32) : CallFields :=
  ⟨90, 0, scope, 0, go, flags, count, 0, 0, 0, 0, 0, 0, 0⟩

/-- Eight calls held. -/
def fullTable : State :=
  { heard with store.calls := (List.range 8).map (fun i => call (BitVec.ofNat 16 i) .angles .pending), store.poolFree := 56 }

theorem witness_CallRefused :
    (∀ f ∈ [callOf 7 0 2 950000, callOf 3 0 0 950000, callOf 3 1 2 950000], Arrives ⟨200, .call f⟩ heard)
      ∧ heard.inScope (callOf 7 0 2 950000).scope = false ∧ heard.inScope (callOf 3 0 0 950000).scope = true
      ∧ (callOf 3 0 0 950000).countOk = false ∧ (callOf 3 0 33 950000).countOk = false
      ∧ (callOf 3 1 2 950000).countOk = true ∧ (callOf 3 1 2 950000).sync = true
      ∧ Arrives ⟨200, .call (callOf 3 0 2 950000)⟩ { heard with store.intake := .held }
      ∧ Arrives ⟨200, .call (callOf 3 0 2 950000)⟩ fullTable ∧ (callOf 3 0 2 950000).countOk = true
      ∧ (callOf 3 0 2 950000).sync = false ∧ fullTable.store.calls.length = 8
      ∧ (∀ r ∈ fullTable.store.calls, r.callId ≠ 90) ∧ fullTable.store.intake = .opened := by
  unfold Arrives Quiet Listening; decide +kernel

/-- A call, a sync call, and a FOLLOW call with the largest stretch allowance, whose plan points are one millisecond ahead. -/
theorem witness_CallAccepted :
    ∀ f ∈ [callOf 3 0 2 900051, callOf 3 1 1 900051, { callOf 3 14 0 900051 with mode := 2, target := 15, count := 4 }],
      Arrives ⟨200, .call f⟩ heard
      ∧ heard.station.mode.takesIntake = true ∧ heard.inScope f.scope = true ∧ heard.store.intake = .opened
      ∧ f.countOk = true ∧ (f.sync = true → f.segmentCount = 1) ∧ heard.store.calls.length < 8
      ∧ (∀ r ∈ heard.store.calls, r.callId ≠ f.callId) ∧ heard.nextCall = none
      ∧ atOrAfter heard.clock.linkClock (f.goTime - 50) = false ∧ atOrAfter heard.clock.linkClock f.goTime = false := by
  unfold Arrives Quiet Listening; decide +kernel

/-- A call in hand whose plan point is still ahead, two segments expected and one held. -/
def gathering (closed : Bool) (free : Nat) : State :=
  { heard with
    store.calls := [{ call 77 .angles .pending with goTime := 950000, expected := 2, closed := closed }]
    store.poolFree := free }

/-- The next segment, a repeat, one past the count, one for another call. -/
theorem witness_SegmentDecided :
    (∀ f ∈ [SegmentFields.mk 77 1 0 1000 250 0 0 0, ⟨77, 0, 0, 1000, 250, 0, 0, 0⟩, ⟨77, 2, 0, 1000, 250, 0, 0, 0⟩,
        ⟨78, 0, 0, 1000, 250, 0, 0, 0⟩],
      ∀ free ∈ [63, 0], ∀ closed, Arrives ⟨200, .segment f⟩ (gathering closed free)
        ∧ (gathering closed free).station.mode.takesIntake = true ∧ (gathering closed free).landing.records = []
        ∧ (gathering closed free).nextCall = none
        ∧ ∀ r ∈ (gathering closed free).store.calls, r.state ≠ .waiting ∧ r.state ≠ .holdOpen) := by
  unfold Arrives Quiet Listening; decide +kernel

/-- A gap: index 1 of a call that holds none. -/
theorem witness_SegmentDecided_gap :
    Arrives ⟨200, .segment ⟨77, 1, 0, 1000, 250, 0, 0, 0⟩⟩
        (withCall { call 77 .angles .pending with goTime := 950000, expected := 2, chain := [], received := 0, closed := false }
          heard) := by
  unfold Arrives Quiet Listening; decide +kernel

/-- A BEACON of this stamp and circuit 4. -/
def beaconOf (stamp : Word32) : BeaconFields := ⟨1, 5, 4, 3, 400, stamp, 64, 8, 0, 255⟩

/-- Stamps that step the clock by one, by 2^31 - 1, and not. -/
theorem witness_BeaconStepsClock :
    ∀ f ∈ [beaconOf 900000, beaconOf (900000 + 2147483646), beaconOf 899999, beaconOf (900000 + 2147483647)],
      Listening ⟨22, .beacon f⟩ heard ∧ Frame.wf ⟨22, .beacon f⟩ = true ∧ (22 : Byte) ≠ 30 := by
  unfold Listening; decide +kernel

/-- The own BEACON on the line, the clock a tick past its composition. -/
theorem witness_BeaconStepsClock_own :
    let s : State := { sending .beacon 0 ready with link.txFrame := some ⟨30, .beacon (beaconOf 899999)⟩ }
    s.link.txFrame = some ⟨30, .beacon (beaconOf 899999)⟩ ∧ (beaconOf 899999).stationKind.toNat ≤ 3
      ∧ (beaconOf 899999).circuit.toNat ≤ 15 ∧ (beaconOf 899999).heldTarget = 255
      ∧ s.link.lineState = .arbitrating := by decide

theorem witness_StatedClaimWritten :
    Arrives ⟨22, .beacon (beaconOf 899999)⟩ heard
      ∧ isAfter ((beaconOf 899999).linkClock + 1) heard.clock.linkClock = false
      ∧ heard.clock.peers.find? (fun q => q.station == 22) = some (peer 22 300)
      ∧ (∀ q ∈ heard.clock.peers, q.station = 22 → q = peer 22 300) ∧ heard.power.round = none := by
  unfold Arrives Quiet Listening; decide +kernel

/-- The same BEACON from a station that moves from circuit 5, from one with no entry with one room left and none, and from
one whose 401 W it brings down while a lowering waits. -/
theorem witness_StatedClaimWritten_more :
    (Arrives ⟨22, .beacon (beaconOf 899999)⟩ elsewhere
        ∧ elsewhere.clock.peers.find? (fun q => q.station == 22) = some { peer 22 300 with circuit := 5 }
        ∧ elsewhere.power.round = none)
      ∧ (∀ n ∈ [95, 96],
        let s : State := { heard with clock.peers := peersOf n 4 .live }
        Arrives ⟨99, .beacon { beaconOf 899999 with circuit := 5 }⟩ s
          ∧ (∀ q ∈ s.clock.peers, (99 : Byte).toNat < q.station.toNat) ∧ s.clock.peers.length = n ∧ 5 ≠ figs.circuit)
      ∧ ∀ f ∈ [beaconOf 899999, { beaconOf 899999 with circuit := 5 }],
        let s : State := { refusedRound .idle .lowering heard with clock.peers := [peer 22 401] }
        Arrives ⟨22, .beacon f⟩ s
          ∧ s.clock.peers.find? (fun q => q.station == 22) = some (peer 22 401) ∧ (peer 22 401).circuit = figs.circuit
          ∧ s.power.round = some ⟨true, 300, .idle, .lowering, false⟩ ∧ s.link.queue = []
          ∧ (beaconOf 899999).granted.toNat < 401 := by
  unfold Arrives Quiet Listening; decide +kernel

/-- A snapshot of page 1 held, so many of its parts offered. -/
def probed (n : Nat) : State :=
  { heard with station.snapshot := some ⟨1, List.replicate 100 0, n⟩ }

/-- No snapshot held; one of another page; its parts all offered, and one of them left. -/
theorem witness_ProbeComposesPage :
    (∀ f ∈ [ProbeFields.mk 30 0 0, ⟨30, 0, 1⟩, ⟨30, 1, 1⟩, ⟨30, 2, 1⟩, ⟨30, 3, 1⟩, ⟨30, 4, 1⟩],
      ∀ s ∈ [heard, probed 3, probed 2],
        Arrives ⟨200, .probe f⟩ s ∧ s.station.mode.linkOff = false ∧ f.station = s.station.ownStation)
      ∧ heard.station.snapshot = none ∧ 45 * 2 < (List.replicate 100 (0 : Byte)).length
      ∧ (List.replicate 100 (0 : Byte)).length ≤ 45 * 3
      ∧ ∀ b n, HasRoom (.report b) (probed n).link.queue := by
  refine ⟨?_, rfl, by decide, by decide, fun b n => ⟨by show 0 < 12; decide, fun e he => ?_⟩⟩
  · unfold Arrives Quiet Listening; decide +kernel
  · exact absurd he List.not_mem_nil

/-- A full queue drops part 0 of page 1, and the counters zeroed after the offer hold nothing of it (R193). -/
theorem test_clear_follows_the_offer :
    let s : State :=
      { heard with link.queue := (List.range 12).map (fun i => ⟨.cover ⟨BitVec.ofNat 8 i, 1, 64000, 2, 0⟩, 0, false, none⟩) }
    (go1 (.probe 200 ⟨30, 1, 0⟩) s).link.counters.queueFull = 1
      ∧ (go1 (.probe 200 ⟨30, 1, 1⟩) s).link.counters = {} := by decide +kernel

/-! ### Witnesses: ageing, calls, claim rounds -/

/-- Station 22, last heard at tick 4000: its silence is exactly the aging time at tick 5000. -/
theorem witness_PeersAgeOut_silent :
    heard.clock.peers.find? (fun q => q.station == 22) = some (peer 22 300) ∧ (peer 22 300).state = .live
      ∧ heard.aging ≤ (heard.clock.tickCount - (peer 22 300).lastHeard).toNat ∧ heard.cover.role = none := by
  decide +kernel

/-- The same, SILENT for exactly twice the aging time. -/
def oldPeer : State := { ready with clock.peers := [{ peer 22 300 with state := .silent, lastHeard := 3000 }] }

theorem witness_PeersAgeOut_removed :
    Quiet oldPeer ∧ oldPeer.clock.peers.find? (fun q => q.station == 22)
        = some { peer 22 300 with state := .silent, lastHeard := 3000 }
      ∧ 2 * oldPeer.aging ≤ (oldPeer.clock.tickCount - 3000).toNat ∧ oldPeer.power.round = none := by
  unfold Quiet; decide +kernel

/-- The table of one call at its plan point, the others on circuit 4 holding so many watts: beside 1200 W no step of the
ladder fits. -/
def atPlanPoint (r : CallRecord) (others : Nat) : State := { withCall r ready with clock.peers := [peer 22 others] }

theorem witness_PlanPointOpensRound :
    ∀ n ∈ [0, 1200], ∀ r ∈ [call 77 .angles .pending, { call 78 .colour .pending with chain := [] }],
      Quiet (atPlanPoint r n) ∧ (atPlanPoint r n).station.mode = .ready ∧ r.state = .pending ∧ r.mode ≠ .follow
        ∧ (r.mode ≠ .colour → r.chain ≠ []) ∧ atOrAfter (atPlanPoint r n).clock.linkClock (r.goTime - 50) = true
        ∧ (atPlanPoint r n).power.solo = none ∧ (atPlanPoint r n).power.settle = none
        ∧ (atPlanPoint r n).station.figures = some figs ∧ (atPlanPoint r n).power.round = none ∧ (atPlanPoint r n).link.queue.length < 12 := by
  unfold Quiet; decide +kernel

/-- ISOLATED with solo mode ON, the solo allowance above the plan's request and below it: PLANNED, and CLAIMING. -/
def soloPlanning (allowance : Nat) : State :=
  { withCall (call 77 .angles .pending) ready with
    station.mode := .isolated
    station.figures := some { figs with soloAllowance := allowance }
    power.solo := some 0 }

theorem witness_PlanPointOpensRound_solo :
    ∀ x ∈ [(300, CallState.planned), (60, .claiming)],
      let s := soloPlanning x.1
      Quiet s ∧ s.station.mode = .isolated ∧ s.station.figures = some { figs with soloAllowance := x.1 }
        ∧ s.power.solo = some 0 ∧ s.store.calls = [call 77 .angles .pending] ∧ s.power.round = none
        ∧ s.power.deferred = [] ∧ s.landing.records = []
        ∧ (go1 .planPoint s).store.calls.map CallRecord.state = [x.2] := by
  unfold Quiet; decide +kernel

/-- A sync call's landing: requested D 1000, planned lead 1000, the lead offered. -/
def landingOf (offered : Nat) : LandingRecord := ⟨77, .group 3, 900000, some 1000, some 1000, offered, .opened, none⟩

/-- A planned move with its grant, and with the landing of a sync call whose offers lift its lead, or not; a COLOUR call of
twenty ticks, and of none. -/
theorem witness_GoStartsPlannedCall :
    (∀ x ∈ [(planned .planned, ([] : List LandingRecord)), (planned .planned, [landingOf 0]),
        (planned .planned, [landingOf 2000]), (lit .planned 20, []), (lit .planned 0, [])],
      let s : State := { withCall x.1 ready with power.granted := 160, landing.records := x.2 }
      Quiet s ∧ s.station.mode = .ready ∧ s.station.figures = some figs ∧ x.1.state = .planned ∧ x.1.reachedGo = false
        ∧ atOrAfter s.clock.linkClock x.1.goTime = true ∧ s.cover.role = none ∧ s.power.solo = none
        ∧ s.planner.counters.ceiling ≤ 65535)
      ∧ (planned .planned).chain = [⟨0, true, 1000, 250, 18000, 8640, 0, .queued⟩]
      ∧ (planned .planned).colour = none ∧ (planned .planned).plan = some shortPlan
      ∧ (∀ d ∈ [(1000, 250), (2000, 1000)], checksOk figs (travel 17280 8640 18000 8640) d.1 d.2 = true
          ∧ figs.baseClaim + segmentClaim figs (travel 17280 8640 18000 8640) d.1 d.2 + shortPlan.emitterTerm ≤ 160)
      ∧ min (5 * 1000) (max 1000 (max 1000 2000)) = 2000 ∧ (lit .planned 0).mode = .colour
      ∧ (lit .planned 0).chain = [] := by
  unfold Quiet; decide +kernel

/-- A call under way, past its go. -/
def under : CallRecord :=
  { call 70 .angles .running with
    goTime := 899000
    reachedGo := true
    chain := [⟨0, true, 1000, 250, 18000, 8640, 0, .active⟩] }

/-- A move that goes with no segment held. -/
def bare : CallRecord := { call 71 .point .pending with goTime := 899990, chain := [], received := 0, closed := false }

/-- A table headed by that call, whose motion and fade are under way. -/
def underWay (rest : List CallRecord) (s : State) : State :=
  { s with
    store.calls := under :: rest
    store.poolFree := 63 - chained rest
    power.granted := 160
    planner.motion := some ⟨17000, 8640, 18000, 8640, 1000, 250, 500, 60, .call 70⟩
    colour.fade := some ⟨darkLevels, [9, 0, 0, 0, 0, 0], 10, 3, false, 65536, .call 70⟩ }

/-- A PLANNED call due behind it, at once and behind a move with no segment. -/
theorem witness_GoStartsPlannedCall_cuts :
    (∀ ws ∈ [[], [bare]],
      let s := underWay (ws ++ [planned .planned]) ready
      Quiet s ∧ s.station.mode = .ready ∧ s.station.figures = some figs
        ∧ s.store.calls = under :: (ws ++ [planned .planned]) ∧ ws.length ≤ 1
        ∧ (∀ w ∈ ws, w.state = .pending ∧ (w.mode = .angles ∨ w.mode = .point) ∧ w.chain = [] ∧ w.reachedGo = false
          ∧ atOrAfter s.clock.linkClock w.goTime = true ∧ w.callId ≠ under.callId ∧ w.callId ≠ (planned .planned).callId)
        ∧ s.landing.records = [] ∧ s.cover.role = none ∧ s.power.deferred = [] ∧ s.power.round = none
        ∧ s.colour.fade = some ⟨darkLevels, [9, 0, 0, 0, 0, 0], 10, 3, false, 65536, .call under.callId⟩
        ∧ s.planner.counters.ceiling ≤ 65535)
      ∧ under.reachedGo = true ∧ under.state = .running ∧ under.callId ≠ (planned .planned).callId
      ∧ (planned .planned).reachedGo = false ∧ atOrAfter ready.clock.linkClock (planned .planned).goTime = true := by
  unfold Quiet; decide +kernel

theorem witness_GoByState_cuts :
    let s := underWay [bare] ready
    Quiet s ∧ s.station.mode = .ready ∧ s.station.figures = some figs ∧ s.store.calls = [under, bare]
      ∧ under.callId ≠ bare.callId ∧ bare.state = .pending ∧ bare.mode = .point ∧ bare.chain = [] ∧ bare.plan = none
      ∧ bare.reachedGo = false ∧ atOrAfter s.clock.linkClock bare.goTime = true ∧ s.landing.records = []
      ∧ s.cover.role = none ∧ s.power.solo = none ∧ s.power.round = none ∧ s.power.deferred = []
      ∧ s.colour.fade = some ⟨darkLevels, [9, 0, 0, 0, 0, 0], 10, 3, false, 65536, .call under.callId⟩
      ∧ s.planner.motion = some ⟨17000, 8640, 18000, 8640, 1000, 250, 500, 60, .call under.callId⟩
      ∧ s.link.queue = [] := by
  unfold Quiet; decide +kernel

/-- A late CALL with no segment yet cuts the call under way: with a PLANNED call due behind it no lowering is made, since that
call starts in the event; with none the own claim is lowered to 35 + 20 + 15 W (R59, R113). -/
theorem test_late_call_lowers_only_where_none_starts :
    let late : CallFields := { callOf 3 0 2 899980 with callId := 90 }
    (go1 (.call 200 late) (underWay [planned .planned] (hearing ready))).power.round = none
      ∧ (go1 (.call 200 late) (underWay [planned .planned] (hearing ready))).store.calls.map
          (fun r => (r.callId, r.state)) = [(77, .running)]
      ∧ (go1 (.call 200 late) (underWay [] (hearing ready))).power.round
          = some ⟨false, 70, .idle, .lowering, false⟩ := by decide +kernel

/-- A FOLLOW call that waits for its go. -/
def toFollow : CallRecord :=
  { call 79 .follow .pending with chain := [], colour := some ⟨65535, 0, 0, 65535, 20⟩ }

/-- A CLAIMING call, a PENDING move with no segment, each with no landing and with a sync call's, its requested D not known
and known, a planned lead at the cap and one past it; a PENDING COLOUR call and a PENDING move with a segment; a FOLLOW
call. -/
theorem witness_GoByState :
    (∀ l ∈ [[], [{ landingOf 0 with requestedD := none, plannedLead := none }], [{ landingOf 0 with plannedLead := some 5000 }],
        [{ landingOf 0 with plannedLead := some 5001 }]],
      ∀ r ∈ [planned .claiming, { call 77 .angles .pending with chain := [] }, call 77 .angles .pending,
          { lit .pending 20 with plan := none }, toFollow],
        let s : State := { withCall r ready with landing.records := l }
        Quiet s ∧ s.station.mode = .ready ∧ r.reachedGo = false ∧ atOrAfter s.clock.linkClock r.goTime = true
          ∧ s.station.figures = some figs ∧ s.power.solo = none ∧ s.power.settle = none ∧ s.power.round = none
          ∧ s.link.queue.length < 12)
      ∧ (landingOf 0).callId = (planned .claiming).callId ∧ (landingOf 0).requestedD = some 1000
      ∧ toFollow.mode = .follow ∧ toFollow.colour = some ⟨65535, 0, 0, 65535, 20⟩ := by
  unfold Quiet; decide +kernel

/-- A call in HOLD_OPEN past its plan of one segment. -/
def heldOpen : CallRecord :=
  { planned .holdOpen with
    chain := [⟨0, false, 1000, 250, 17280, 8640, 0, .consumed⟩]
    expected := 2
    closed := false
    holdStart := some 4900 }

/-- A WAITING call with no segment yet. -/
def empty : CallRecord :=
  { call 77 .angles .waiting with chain := [], received := 0, closed := false, waitStart := some 4900 }

/-- A call superseded under its motion; the first segment of a WAITING call; the next of one in HOLD_OPEN. -/
theorem witness_SupersedeAndWakeCalls :
    (let f : CallFields := { callOf 3 0 2 950000 with callId := 77 }
     Arrives ⟨200, .call f⟩ (inAct .ready none) ∧ (inAct .ready none).station.figures = some figs
        ∧ (inAct .ready none).inScope f.scope = true ∧ (inAct .ready none).store.intake = .opened ∧ f.countOk = true
        ∧ f.sync = false ∧ (inAct .ready none).cover.role = none ∧ (inAct .ready none).colour.fade = none
        ∧ atOrAfter (inAct .ready none).clock.linkClock (f.goTime - 50) = false
        ∧ atOrAfter (inAct .ready none).clock.linkClock f.goTime = false)
      ∧ (Arrives ⟨200, .segment ⟨77, 0, 1, 1000, 250, 18000, 8640, 0⟩⟩ (withCall empty heard)
        ∧ empty.state = .waiting ∧ empty.received < empty.expected ∧ 0 < (withCall empty heard).store.poolFree
        ∧ (withCall empty heard).power.settle = none ∧ (withCall empty heard).power.round = none)
      ∧ (let s : State := { withCall heldOpen heard with power.granted := 160 }
         Arrives ⟨200, .segment ⟨77, 1, 1, 1000, 250, 18000, 8640, 0⟩⟩ s ∧ s.station.figures = some figs
        ∧ s.planner.counters.ceiling ≤ 65535
        ∧ heldOpen.received = 1 ∧ heldOpen.received < heldOpen.expected ∧ shortPlan.segs.length ≤ 1
        ∧ limitEnd figs 18000 8640 = ((18000, 8640), false) ∧ clampD 1000 = 1000 ∧ clampR figs 1000 250 = 250
        ∧ checksOk figs (travel 17280 8640 18000 8640) 1000 250 = true
        ∧ figs.baseClaim + segmentClaim figs (travel 17280 8640 18000 8640) 1000 250 + shortPlan.emitterTerm ≤ 160) := by
  unfold Arrives Quiet Listening; decide +kernel

theorem witness_ExpiredCallsEnd :
    (∀ r ∈ [{ call 77 .angles .waiting with waitStart := some 3000 }, { call 77 .angles .holdOpen with holdStart := some 4500 }],
      Quiet (withCall r ready) ∧ (withCall r ready).station.mode = .ready ∧ r.mode ≠ .follow
        ∧ (withCall r ready).cover.role = none ∧ (withCall r ready).planner.motion = none
        ∧ (withCall r ready).power.solo = none)
      ∧ 2000 ≤ (ready.clock.tickCount - 3000).toNat ∧ 500 ≤ (ready.clock.tickCount - 4500).toNat := by
  unfold Quiet; decide +kernel

/-- A segment of a call at its D, in a chain. -/
def atEnd (closed : Bool) (rest : List PoolSegment) : State :=
  { withCall
      { planned .running with closed := closed, chain := ⟨0, false, 1000, 250, 17280, 8640, 0, .active⟩ :: rest } ready with
    power.granted := 160
    planner.motion := some ⟨17280, 8640, 17280, 8640, 1000, 250, 1000, 60, .call 77⟩ }

/-- The chain open; closed; and with a QUEUED segment of the plan. -/
theorem witness_ChainEndHoldsOpen :
    (∀ s ∈ [atEnd false [], atEnd true [], atEnd true [⟨0, true, 1000, 250, 18000, 8640, 0, .queued⟩]],
      Quiet s ∧ s.planner.motion = some ⟨17280, 8640, 17280, 8640, 1000, 250, 1000, 60, .call 77⟩
        ∧ s.station.figures = some figs ∧ s.landing.records = [] ∧ s.colour.fade = none ∧ s.cover.role = none
        ∧ s.power.solo = none ∧ s.station.mode = .ready ∧ s.planner.counters.ceiling ≤ 65535)
      ∧ (∀ r ∈ (atEnd true []).store.calls, r.callId = 77 ∧ r.state = .running ∧ r.mode ≠ .follow
          ∧ ∀ g ∈ r.chain, g.state ≠ .queued)
      ∧ checksOk figs (travel 17280 8640 18000 8640) 1000 250 = true
      ∧ figs.baseClaim + segmentClaim figs (travel 17280 8640 18000 8640) 1000 250 + shortPlan.emitterTerm ≤ 160 := by
  unfold Quiet; decide +kernel

/-- A COLOUR call whose fade has its last step due. -/
def faded : State :=
  { withCall { call 78 .colour .running with chain := [] } ready with
    colour.fade := some ⟨darkLevels, [9, 0, 0, 0, 0, 0], 10, 9, true, 65536, .call 78⟩ }

theorem witness_ColourCallDone :
    Quiet faded ∧ faded.station.mode = .ready ∧ faded.store.calls = [{ call 78 .colour .running with chain := [] }]
      ∧ faded.colour.fade = some ⟨darkLevels, [9, 0, 0, 0, 0, 0], 10, 9, true, 65536, .call 78⟩
      ∧ faded.cover.role = none ∧ faded.planner.motion = none ∧ faded.power.solo = none := by
  unfold Quiet; decide +kernel

/-- STARTING, the homing claim refused and its wait over. -/
def reclaiming : State :=
  { ready with
    station.mode := .starting
    power.reclaim := some 0
    power.round := some ⟨true, 120, .homing, .homing, false⟩ }

theorem witness_TimersOfferFrames_reclaim :
    Quiet reclaiming ∧ reclaiming.power.reclaim = some 0
      ∧ reclaiming.power.round = some ⟨true, 120, .homing, .homing, false⟩ ∧ reclaiming.power.solo = none
      ∧ reclaiming.power.settle = none ∧ reclaiming.power.deferred = [] ∧ reclaiming.station.figures = some figs
      ∧ HasRoom (.claim ⟨BitVec.ofNat 8 figs.circuit, 120, 0⟩) reclaiming.link.queue :=
  ⟨by unfold Quiet; decide, rfl, rfl, rfl, rfl, rfl, rfl, by decide, fun _ he => absurd he List.not_mem_nil⟩

/-- The round of a call refused, its wait over; a CLAIMING move and a WAITING COLOUR call, which holds no segment. -/
def replanning (r : CallRecord) : State :=
  { atPlanPoint r 1060 with
    power.reclaim := some 0
    power.round := some ⟨true, 160, .move, .move r.callId, false⟩ }

theorem witness_TimersOfferFrames_replan :
    ∀ r ∈ [planned .claiming, lit .waiting 20],
      let s := replanning r
      Quiet s ∧ s.power.reclaim = some 0 ∧ s.power.round = some ⟨true, 160, .move, .move r.callId, false⟩
        ∧ s.store.calls = [r] ∧ (r.state = .claiming ∨ r.state = .waiting) ∧ r.plan.isSome = true
        ∧ s.power.solo = none ∧ s.power.settle = none ∧ s.power.deferred = [] ∧ s.station.figures = some figs
        ∧ s.link.queue.length < 12 := by
  unfold Quiet; decide +kernel

/-- The room of 140 W left in the circuit has the COLOUR call dimmed; the round is OPEN with what it then asks. -/
theorem test_replan_dims :
    (match exec .reclaimTimer (replanning (lit .waiting 20)) with
      | .next t => decide (t.power.round.map Round.awaiting = some false)
          && (t.store.calls.map (fun r => (r.plan.map Plan.step, r.state)) == [(some (.dimmed 8), .waiting)])
      | .fault _ => false
      | .refused _ => false) = true := by decide +kernel

/-- STARTING, the view settled, the homing CLAIM held back. -/
def settled : State :=
  { ready with
    station.mode := .starting
    station.homingNeeded := true
    power.settle := some 0
    power.round := some ⟨false, 120, .homing, .homing, true⟩ }

theorem witness_TimersOfferFrames_settle :
    settled.power.settle = some 0 ∧ settled.station.mode = .starting ∧ settled.station.homingNeeded = true
      ∧ settled.station.figures = some figs ∧ settled.power.round = some ⟨false, 120, .homing, .homing, true⟩
      ∧ HasRoom (.claim ⟨BitVec.ofNat 8 figs.circuit, 120, 0⟩) settled.link.queue :=
  ⟨rfl, rfl, rfl, rfl, rfl, by decide, fun _ he => absurd he List.not_mem_nil⟩

/-- STARTING without homing, the view settled, ten entries in the queue and none of them a CLAIM or a BEACON. -/
def startsReady : State :=
  { ready with
    station.mode := .starting
    power.settle := some 0
    link.queue := (List.range 10).map (fun i => ⟨.cover ⟨BitVec.ofNat 8 i, 1, 64000, 2, 0⟩, 0, false, none⟩) }

theorem witness_TimersOfferFrames_ready :
    Quiet startsReady ∧ startsReady.power.settle = some 0 ∧ startsReady.station.mode = .starting
      ∧ startsReady.station.homingNeeded = false ∧ startsReady.station.figures = some figs
      ∧ startsReady.power.round = none ∧ startsReady.power.deferred = [] ∧ startsReady.power.solo = none
      ∧ startsReady.link.linkLost = false ∧ startsReady.link.lineState ≠ .off ∧ startsReady.store.calls = []
      ∧ startsReady.link.queue.length < 11
      ∧ (∀ e ∈ startsReady.link.queue, e.body.same .beacon = false ∧ e.body.same (.claim ⟨4, 70, 3⟩) = false) := by
  unfold Quiet; decide +kernel

/-! ### Witnesses: the cover unit and the drive port -/

/-- Target 15's position, received exactly a track timeout ago. -/
def tracked : State :=
  { ready with cover.tracks := ready.cover.tracks.set 15 ⟨.tracked, 1, 2, 3, 4, 4500⟩ }

theorem witness_CoverEntriesTimeOut_track :
    tracked.station.figures = some figs ∧ tracked.cover.tracks[(15 : Byte).toNat]? = some ⟨.tracked, 1, 2, 3, 4, 4500⟩
      ∧ figs.trackTimeout ≤ (tracked.clock.tickCount - 4500).toNat := by decide +kernel

/-- A relief whose deadline is this tick. -/
def relieved : State :=
  { ready with
    cover.lists := ready.cover.lists.set 2 [⟨31, 64200, .holder, 4900⟩, ⟨32, 62000, .relieved 31 5000, 4900⟩] }

theorem witness_CoverEntriesTimeOut_relief :
    relieved.cover.role = none
      ∧ relieved.cover.lists[(2 : Byte).toNat]? = some [⟨31, 64200, .holder, 4900⟩, ⟨32, 62000, .relieved 31 5000, 4900⟩]
      ∧ (∀ x ∈ [Holder.mk 31 64200 .holder 4900, ⟨32, 62000, .relieved 31 5000, 4900⟩],
          x.state ≠ .holder → x = ⟨32, 62000, .relieved 31 5000, 4900⟩)
      ∧ (relieved.clock.tickCount - 5000).toNat < 2 ^ 31 := by decide +kernel

/-- A holder last stated exactly 1000 ticks ago. -/
def lapsing : State :=
  { ready with cover.lists := ready.cover.lists.set 2 [⟨31, 64200, .holder, 4000⟩, ⟨32, 62000, .holder, 4900⟩] }

theorem witness_CoverEntriesTimeOut_lapse :
    lapsing.cover.role = none
      ∧ lapsing.cover.lists[(2 : Byte).toNat]? = some ([] ++ ⟨31, 64200, .holder, 4000⟩ :: [⟨32, 62000, .holder, 4900⟩])
      ∧ (∀ x ∈ ([] : List Holder) ++ [⟨32, 62000, .holder, 4900⟩], x.station ≠ 31)
      ∧ 1000 ≤ (lapsing.clock.tickCount - 4000).toNat := by decide +kernel

/-- The beacon timer has run out; it waits at 0, or a change of mode has restarted it; a BEACON in the queue or none. -/
def beaconDue (timer : Nat) (q : List TxEntry) : State :=
  { ready with clock.beaconTimer := some timer, clock.beaconDue := true, link.queue := q }

theorem witness_TimersOfferFrames_beacon :
    (∀ n ∈ [0, 200], (beaconDue n []).clock.beaconTimer = some n ∧ (beaconDue n []).clock.beaconDue = true
      ∧ (beaconDue n []).link.queue.length < 12)
      ∧ (∀ b, (beaconDue 200 [⟨.beacon, 1, b, none⟩]).link.queue = [] ++ ⟨.beacon, 1, b, none⟩ :: [])
      ∧ HasRoom .beacon (beaconDue 0 []).link.queue :=
  ⟨by decide, fun _ => rfl, by decide, fun _ he => absurd he List.not_mem_nil⟩

/-- A tick runs the timer out and a change of mode restarts it, its BEACON going on the line: the run-out stands, and
BEACON_TIMER has a second BEACON follow the first (R38). -/
theorem test_second_beacon_follows :
    (go1 .tick { ready with clock.beaconTimer := some 1 }).clock.beaconDue = true
      ∧ (go1 .stuckLine (beaconDue 0 [])).clock.beaconDue = true
      ∧ (go1 .stuckLine (beaconDue 0 [])).clock.beaconTimer = some 200
      ∧ (go1 .beaconTimer (beaconDue 200 [⟨.beacon, 1, true, none⟩])).link.queue = [⟨.beacon, 1, true, some .beacon⟩]
      ∧ (go1 .beaconTimer ready).link.queue = [] := by decide +kernel

theorem witness_TimersOfferFrames_restate :
    let s : State := { ready with cover.role := some (role .holder), cover.restate := some 0, cover.ownQ := 64000 }
    s.cover.restate = some 0 ∧ s.cover.role = some (role .holder) ∧ (role .holder).phase = .holder
      ∧ HasRoom (.cover ⟨2, 1, 64000, 2, 0⟩) s.link.queue :=
  ⟨rfl, rfl, rfl, by decide, fun _ he => absurd he List.not_mem_nil⟩

/-- A candidate for target 2 with quality 1, its holdoff exactly 200 ticks old. -/
def candidate : State :=
  { ready with
    cover.role := some (role .candidate)
    cover.holdoff := some 4800
    cover.ownQ := 1
    cover.tracks := ready.cover.tracks.set 2 ⟨.tracked, 1, 2, 3, 4, 4900⟩
    cover.lists := ready.cover.lists.set 2 [⟨31, 64200, .holder, 4900⟩] }

theorem witness_OwnRoleMoves_take :
    candidate.cover.role = some (role .candidate) ∧ candidate.cover.holdoff = some 4800
      ∧ 200 ≤ (candidate.clock.tickCount - 4800).toNat
      ∧ (candidate.cover.tracks[2]?).map TrackRecord.state = some .tracked ∧ 0 < candidate.cover.ownQ
      ∧ candidate.cover.lists[2]? = some [⟨31, 64200, .holder, 4900⟩]
      ∧ (∀ x ∈ [Holder.mk 31 64200 .holder 4900], x.station ≠ candidate.station.ownStation)
      ∧ ([Holder.mk 31 64200 .holder 4900].filter Holder.isHolder).length < (role .candidate).count
      ∧ HasRoom (.cover ⟨2, 0, 1, 2, 0⟩) candidate.link.queue :=
  ⟨rfl, rfl, by decide, by decide +kernel, by decide, rfl, by decide, by decide, by decide,
    fun _ he => absurd he List.not_mem_nil⟩

/-- A role on target 2 with quality 64000, on target, its holdoff one tick short of over, and a holder list. -/
def ownRole (p : RolePhase) (l : List Holder) (s : State) : State :=
  { s with
    cover.role := some (role p)
    cover.ownQ := 64000
    cover.onTarget := true
    cover.restate := some 77
    cover.holdoff := some 4801
    cover.lists := s.cover.lists.set 2 l
    colour.levels := [9, 0, 0, 0, 0, 0] }

/-- The own entry of 62000 in that list. -/
def ownHolder (st : HolderState) : Holder := ⟨30, 62000, st, 4100⟩

/-- A TAKE at the margin over the own entry, the weakest of two. -/
theorem witness_OwnRoleMoves_relieved :
    let l : List Holder := [⟨31, 64200, .holder, 4900⟩, ownHolder .holder]
    let s := ownRole .holder l heard
    Arrives ⟨40, .cover ⟨2, 0, 64000, 2, 0⟩⟩ s ∧ s.station.mode.appliesCover = true ∧ s.station.figures = some figs
      ∧ CoverInv s ∧ s.cover.role = some (role .holder) ∧ s.cover.lists[2]? = some l
      ∧ (∀ h ∈ l, h.station ≠ 40 ∧ h.isHolder = true) ∧ (2 : Byte).toNat ≤ l.length
      ∧ (ownHolder .holder).station = s.station.ownStation
      ∧ (∀ h ∈ l, h ≠ ownHolder .holder → h.above (ownHolder .holder) = true) ∧ l.length < 5
      ∧ (ownHolder .holder).q + figs.handoffMargin ≤ (64000 : Word16).toNat := by
  unfold Arrives Quiet Listening CoverInv HolderListOk; decide +kernel

/-- The taker yields, with C HOLDER entries left; or holds on target. -/
theorem witness_OwnRoleMoves_released :
    let o := ownHolder (.relieved 31 5500)
    let l : List Holder := [⟨29, 64000, .holder, 4900⟩, ⟨31, 64200, .holder, 4900⟩, o]
    let s := ownRole .relieved l heard
    (∀ f ∈ [CoverFields.mk 2 2 64200 2 0, ⟨2, 1, 64200, 2, 1⟩], Arrives ⟨31, .cover f⟩ s)
      ∧ s.station.mode.appliesCover = true ∧ CoverInv s ∧ s.cover.role = some (role .relieved) ∧ 0 < s.cover.ownQ
      ∧ s.cover.lists[2]? = some l ∧ o ∈ l ∧ o.station = s.station.ownStation
      ∧ ⟨31, 64200, .holder, 4900⟩ ∈ l ∧ l.length ≤ (role .relieved).count + 1 ∧ (1 : Byte).getLsbD 0 = true
      ∧ s.cover.holdoff = some 4801 ∧ (s.clock.tickCount - 4801).toNat < 200 ∧ s.link.queue = [] := by
  unfold Arrives Quiet Listening CoverInv HolderListOk; decide +kernel

/-- The own relief of station 31 at its deadline; a third HOLDER entry that leaves the own one below the second. -/
theorem witness_OwnRoleMoves_yields :
    let o := ownHolder .holder
    let b : Holder := ⟨31, 60000, .relieved 30 5000, 4900⟩
    let l : List Holder := [⟨29, 64000, .holder, 4900⟩, o]
    let s := ownRole .holder l heard
    let new : Holder := ⟨40, 63000, .holder, s.clock.tickCount⟩
    let held := (l ++ [new]).filter Holder.isHolder
    CoverInv (ownRole .holder [b, o] ready) ∧ (ownRole .holder [b, o] ready).cover.lists[2]? = some [b, o]
      ∧ (ready.clock.tickCount - 5000).toNat < 2 ^ 31 ∧ (ownRole .holder [b, o] ready).cover.holdoff = some 4801
      ∧ Arrives ⟨40, .cover ⟨2, 1, 63000, 2, 0⟩⟩ s ∧ s.station.mode.appliesCover = true ∧ CoverInv s
      ∧ s.cover.role = some (role .holder) ∧ s.cover.lists[2]? = some l ∧ l.length < 5
      ∧ (∀ h ∈ l, h.station ≠ 40 ∧ h.relievedBy 40 = false ∧ h.relievedBy s.station.ownStation = false)
      ∧ o.station = s.station.ownStation ∧ (role .holder).count < held.length
      ∧ (role .holder).count ≤ (held.filter (fun h => h.above o)).length
      ∧ s.cover.holdoff = some 4801 ∧ (s.clock.tickCount - 4801).toNat < 200 ∧ s.link.queue = [] := by
  unfold Arrives Quiet Listening CoverInv HolderListOk; decide +kernel

/-- The end of the latest follow segment 64 counts of each axis from the words, the limit, and one count further of either. -/
theorem witness_OwnRoleMoves_onTarget :
    let s : State :=
      { ownRole .holder [ownHolder .holder] ready with cover.onTarget := false, cover.followEnd := some (17280, 8640) }
    s.station.mode = .ready ∧ s.station.figures = some figs ∧ (∀ i ∈ [3, 4, 5], (7 : Slot).getLsbD i = false)
      ∧ (7 : Slot).getLsbD 0 = true ∧ s.colour.thermal = .normal ∧ (169 : Slot).toInt < 2 * figs.derate
      ∧ figs.derate ≤ figs.shutdown ∧ s.drive.panRun < 19 ∧ s.drive.tiltRun < 19 ∧ s.cover.role = some (role .holder)
      ∧ s.cover.onTarget = false ∧ s.cover.followEnd = some (17280, 8640) ∧ s.link.queue = []
      ∧ ((17344 : Slot).toInt - 17280).natAbs ≤ figs.followErrorLimit
      ∧ ((8576 : Slot).toInt - 8640).natAbs ≤ figs.followErrorLimit
      ∧ ¬((17345 : Slot).toInt - 17280).natAbs ≤ figs.followErrorLimit
      ∧ ¬((8575 : Slot).toInt - 8640).natAbs ≤ figs.followErrorLimit := by decide +kernel

theorem witness_InFramesRecorded_absent :
    (0 : Slot).getLsbD 0 = false ∧ ready.station.mode ≠ .reset
      ∧ ({ ready with drive.absentCount := 8 } : State).drive.absentCount + 1 < 10 := by decide

/-- HOMING, its timer at the limit. -/
def homing : State := { ready with station.mode := .homing, drive.homing := some 20000 }

theorem witness_DriveFaultsEnterFaulted :
    let s : State := { ready with drive.absentCount := 9 }
    Quiet s ∧ StoreInv s ∧ s.station.figures = some figs ∧ s.power.solo = none ∧ s.station.mode.monitored = true
      ∧ (0 : Slot).getLsbD 0 = false ∧ s.drive.absentCount = 9
      ∧ Quiet homing ∧ StoreInv homing ∧ homing.station.figures = some figs ∧ homing.power.solo = none
      ∧ homing.station.mode = .homing ∧ homing.drive.homing = some 20000 := by
  unfold Quiet StoreInv chained; decide +kernel

/-- HOMING, its homed bits still to come, the view not settled yet. -/
def nearlyHome : State :=
  { homing with
    drive.homing := some 19999
    drive.panHomed := false
    drive.tiltHomed := false
    power.settle := some 5 }

/-- Both axes homed, at one half degree below the derating temperature. -/
theorem witness_InFramesRecorded_homed :
    Quiet nearlyHome ∧ nearlyHome.station.mode = .homing ∧ nearlyHome.station.figures = some figs
      ∧ (∀ i ∈ [0, 1, 2], (7 : Slot).getLsbD i = true) ∧ (∀ i ∈ [3, 4, 5], (7 : Slot).getLsbD i = false)
      ∧ nearlyHome.colour.thermal = .normal ∧ (169 : Slot).toInt < 2 * figs.derate ∧ figs.derate ≤ figs.shutdown
      ∧ nearlyHome.link.linkLost = false ∧ nearlyHome.link.lineState ≠ .off ∧ nearlyHome.store.calls = []
      ∧ nearlyHome.cover.role = none ∧ nearlyHome.power.round = none ∧ nearlyHome.power.deferred = []
      ∧ nearlyHome.power.solo = none ∧ nearlyHome.link.queue = [] := by
  unfold Quiet; decide +kernel

/-- The tenth absent frame in ISOLATED with solo mode ON. -/
theorem witness_DriveFaultsEnterFaulted_solo :
    let s : State := { alone true ready with drive.absentCount := 9 }
    Quiet s ∧ StoreInv s ∧ s.station.figures = some figs ∧ s.power.solo = some 0 ∧ s.station.mode.monitored = true
      ∧ s.drive.absentCount = 9 := by
  unfold Quiet StoreInv chained; decide +kernel

/-- A temperature of exactly 100 °C; the emitter fault bit; the 20th error of one count above the limit of pan, of tilt. -/
theorem witness_DriveFaultsEnterFaulted_present :
    let s : State := { ready with drive.panRun := 19, drive.tiltRun := 19 }
    Quiet s ∧ StoreInv s ∧ s.station.figures = some figs ∧ s.power.solo = none ∧ s.station.mode = .ready
      ∧ s.colour.thermal = .normal ∧ 2 * (figs.shutdown : Int) ≤ (200 : Slot).toInt
      ∧ (50 : Slot).toInt < 2 * figs.derate ∧ figs.derate ≤ figs.shutdown ∧ (7 : Slot).getLsbD 0 = true
      ∧ (39 : Slot).getLsbD 0 = true ∧ (39 : Slot).getLsbD 5 = true ∧ (7 : Slot).getLsbD 3 = false
      ∧ (7 : Slot).getLsbD 4 = false ∧ (7 : Slot).getLsbD 5 = false ∧ s.drive.outFrame.axisEnable = true
      ∧ figs.followErrorLimit < (s.drive.outFrame.pan - (17345 : Slot).toInt).natAbs
      ∧ (s.drive.outFrame.pan - (17344 : Slot).toInt).natAbs ≤ figs.followErrorLimit
      ∧ figs.followErrorLimit < (s.drive.outFrame.tilt - (8705 : Slot).toInt).natAbs := by
  unfold Quiet StoreInv chained; decide +kernel

/-- R190 step 5 in STARTING after a power-on reset: 0 W is held, the view settle timer runs, and the CLAIM of the figure
of R113 is offered at once (the model's choice, log 56). -/
theorem test_fault_in_starting_claims_at_once :
    let s : State :=
      { starting with power.granted := 0, power.settle := some 200, drive.absentCount := 9 }
    let t := go1 (.inFrame 0 0 0 0) s
    t.station.mode = .faulted ∧ t.power.granted = 0
      ∧ t.link.queue.map TxEntry.body
        = [.beacon, .claim ⟨BitVec.ofNat 8 figs.circuit, BitVec.ofNat 16 (figs.baseClaim + (figs.pan.hold + figs.tilt.hold)), 3⟩] := by
  decide +kernel

/-- Below shutdown in each thermal state, at each edge of the hysteresis. -/
theorem witness_InFramesRecorded :
    (∀ m ∈ [StationMode.ready, .isolated],
      let s : State := { ready with station.mode := m, drive.panRun := 18 }
      s.station.figures = some figs ∧ s.drive.outFrame.axisEnable = true ∧ s.cover.role = none
        ∧ s.drive.panRun < 19 ∧ s.drive.tiltRun < 19)
      ∧ (7 : Slot).getLsbD 0 = true ∧ (7 : Slot).getLsbD 3 = false ∧ (7 : Slot).getLsbD 4 = false
      ∧ (7 : Slot).getLsbD 5 = false ∧ figs.derate + 5 ≤ figs.shutdown
      ∧ ∀ x ∈ [(ThermalState.normal, (169 : Slot)), (.normal, 170), (.derated, 160), (.derated, 161), (.derated, 199),
          (.shutdown, 190), (.shutdown, 191)],
        x.1 = .shutdown ∨ x.2.toInt < 2 * figs.shutdown := by decide +kernel

/-- The bits of a slot, bit 23 first, sampled back (R183), and the read command of the configuration memory (R186). -/
theorem test_slot_and_read_bits :
    slotLevels 0x800001 = true :: List.replicate 22 false ++ [true] ∧ slotOfLevels (slotLevels 0x4C3A5E) = 0x4C3A5E
      ∧ State.reset.memorySelect = true ∧ State.reset.memorySent = [0x03, 0, 0, 0] := by decide +kernel

/-! ### Witnesses: invariants and whole-machine rules -/

/-- A counter at its last value holds there (R23), and every counter is within its 16 bits. -/
theorem witness_CountsKept :
    let s : State := { heard with drive.counters.absentFrames := 65535 }
    CountInv s ∧ (∃ t, exec (.inFrame 0 0 0 0) s = .next t)
      ∧ (go1 (.inFrame 0 0 0 0) s).drive.counters.absentFrames = 65535 := by
  refine ⟨by unfold CountInv; decide +kernel, ⟨_, rfl⟩, by decide +kernel⟩

/-- The hypotheses of the invariants' statements hold of this station, and a tick runs. -/
theorem witness_invariants :
    Quiet heard ∧ ModeInv ready ∧ SoloInv (alone true ready) ∧ QueueInv heard ∧ StoreInv fullTable ∧ PeerInv heard ∧ CoverInv fullList
      ∧ ∃ t, exec .tick heard = .next t := by
  refine ⟨⟨rfl, rfl⟩, by unfold ModeInv; decide, fun _ => .inl rfl, ⟨by decide, by decide, fun e he => absurd he List.not_mem_nil⟩,
    by unfold StoreInv chained; decide +kernel, by unfold PeerInv; decide +kernel,
    by unfold CoverInv HolderListOk; decide +kernel, _, rfl⟩

theorem witness_ClockOnlyForward :
    (∃ t, exec .powerOnReset heard = .next t) ∧ (∃ t, exec .tick heard = .next t) ∧ heard.station.mode ≠ .reset
      ∧ (∃ t, exec (.beacon 22 (beaconOf 900000)) heard = .next t ∧ t.clock.linkClock ≠ heard.clock.linkClock)
      ∧ ∃ t, exec .go heard = .next t :=
  ⟨⟨_, rfl⟩, ⟨_, rfl⟩, by decide, ⟨_, rfl, by decide +kernel⟩, _, rfl⟩

/-- RESET entered and left, CONFIG entered and left, READY to ISOLATED and back, HOMING to FAULTED, STARTING to READY and to
HOMING, FAULTED left. -/
theorem witness_ModeChangesByTable :
    Quiet ready ∧ SoloInv ready ∧ ModeInv ready ∧ (∃ t, exec .resetAsserted ready = .next t ∧ t.station.mode = .reset)
      ∧ ModeInv (go1 .resetAsserted ready)
      ∧ (∃ t, exec .powerOnReset (go1 .resetAsserted ready) = .next t ∧ t.station.mode = .config)
      ∧ ModeInv State.reset
      ∧ (∃ t, exec (.configurationReadEnd []) State.reset = .next t ∧ t.station.mode = .unconfigured)
      ∧ (∃ t, exec .stuckLine ready = .next t ∧ t.station.mode = .isolated)
      ∧ ModeInv homing
      ∧ (∃ t, exec .homingTimeout homing = .next t ∧ t.station.mode = .faulted)
      ∧ ModeInv startsReady
      ∧ (∃ t, exec .viewSettleEnd startsReady = .next t ∧ t.station.mode = .ready)
      ∧ ModeInv (asking 300 .homing .homing 900 starting)
      ∧ (∃ t, exec .transmissionSuccess (asking 300 .homing .homing 900 starting) = .next t
          ∧ t.station.mode = .homing)
      ∧ ModeInv (alone true (hearing ready)) ∧ SoloInv (alone true (hearing ready))
      ∧ (∃ t, exec (.report 22 page) (alone true (hearing ready)) = .next t ∧ t.station.mode = .ready)
      ∧ ModeInv (hearing (faulted false))
      ∧ ∃ t, exec (.stop 200 ⟨1, 30, 4⟩) (hearing (faulted false)) = .next t ∧ t.station.mode = .config :=
  ⟨⟨rfl, rfl⟩, nofun, by unfold ModeInv; decide, ⟨_, rfl, by decide +kernel⟩, by unfold ModeInv; decide +kernel,
    ⟨_, rfl, by decide +kernel⟩, by unfold ModeInv; decide, ⟨_, rfl, by decide +kernel⟩, ⟨_, rfl, by decide +kernel⟩,
    by unfold ModeInv; decide, ⟨_, rfl, by decide +kernel⟩, by unfold ModeInv; decide, ⟨_, rfl, by decide +kernel⟩,
    by unfold ModeInv; decide, ⟨_, rfl, by decide +kernel⟩, by unfold ModeInv; decide, fun _ => .inl rfl,
    ⟨_, rfl, by decide +kernel⟩, by unfold ModeInv; decide, ⟨_, rfl, by decide +kernel⟩⟩

/-- A readback that grants; a configuration read after a RESTART; a power-on reset. -/
theorem witness_GrantWrittenOnlyByGrants :
    (∃ t, exec .transmissionSuccess (readingBack 900) = .next t ∧ t.power.solo = none
        ∧ t.power.granted ≠ (readingBack 900).power.granted)
      ∧ (∃ t, exec (.configurationReadEnd []) restarting = .next t ∧ t.power.solo = none
        ∧ t.power.granted ≠ restarting.power.granted)
      ∧ (∃ t, exec .powerOnReset ready = .next t ∧ t.power.solo = none ∧ t.power.granted ≠ ready.power.granted)
      ∧ (readingBack 900).station.mode ≠ .isolated ∧ (readingBack 900).link.linkLost = false
      ∧ (readingBack 900).power.solo = none :=
  ⟨⟨_, rfl, by decide +kernel⟩, ⟨_, rfl, by decide +kernel⟩, ⟨_, rfl, by decide +kernel⟩, by decide, by decide, by decide⟩

theorem witness_OneCallPastGo :
    let s := withCall { call 77 .angles .running with reachedGo := true } ready
    StoreInv s ∧ (s.store.calls.filter CallRecord.reachedGo).length ≤ 1 ∧ ∃ t, exec .go s = .next t := by
  refine ⟨by unfold StoreInv chained; decide +kernel, by decide +kernel, _, rfl⟩

end Sys2Proof.Tests
end

section
/-! SUPPORT. What the blocks leave of the link controller and of the link clock: offers, requests, ends of calls and roles,
planning, the telling of grants and the close of an event touch the transmit queue, its full counter and the beacon timer,
and nothing else of the two (R3, R15, R25, R38). -/

namespace Sys2Proof.Machine

/-- The part of a state that the line and the link clock alone write. -/
structure LineBase where
  link : LinkState
  clock : ClockState
  pending : List Instr

/-- The link controller without its transmit queue and the counter of a full one, the clock and peer unit without the beacon
timer, and the commands that wait. -/
def State.lineBase (s : State) : LineBase where
  link := { s.link with queue := [], counters := { s.link.counters with queueFull := 0 } }
  clock := { s.clock with beaconTimer := none, beaconDue := false }
  pending := s.pending

/-! ### What states of one base share -/

theorem lineBase_congr {s t : State} (hl : t.link = s.link) (hc : t.clock = s.clock) (hp : t.pending = s.pending) :
    t.lineBase = s.lineBase := by
  simp only [State.lineBase, hl, hc, hp]

section
variable {s t : State} (h : t.lineBase = s.lineBase)
include h

theorem lineState_of_lineBase : t.link.lineState = s.link.lineState := congrArg (·.link.lineState) h
theorem linkLost_of_lineBase : t.link.linkLost = s.link.linkLost := congrArg (·.link.linkLost) h
theorem linkLostCount_of_lineBase : t.link.counters.linkLostCount = s.link.counters.linkLostCount :=
  congrArg (·.link.counters.linkLostCount) h
theorem linkClock_of_lineBase : t.clock.linkClock = s.clock.linkClock := congrArg (·.clock.linkClock) h
theorem pending_of_lineBase : t.pending = s.pending := congrArg (·.pending) h

/-- A line that is on stays on where the base is kept. -/
theorem lineOn_of_lineBase (hs : s.link.lineState ≠ .off) : t.link.lineState ≠ .off :=
  lineState_of_lineBase h ▸ hs

end

/-- What each step of a fold keeps, the fold keeps. -/
theorem foldl_lineBase {α : Type} {f : State → α → State} (hf : ∀ s a, (f s a).lineBase = s.lineBase) (l : List α)
    (s : State) : (l.foldl f s).lineBase = s.lineBase :=
  List.foldlRecOn (motive := fun t => t.lineBase = s.lineBase) l f rfl (fun t ht a _ => (hf t a).trans ht)

/-! ### Offers, requests and lowerings -/

theorem toldDrop_lineBase (b : TxBody) (s : State) : (toldDrop b s).lineBase = s.lineBase := by
  cases b with
  | claim f => exact lineBase_congr (claimDropped_link f s) (claimDropped_clock f s) (claimDropped_pending f s)
  | cover f => rfl
  | offer f => rfl
  | beacon => rfl
  | report f => rfl

theorem offer_lineBase (b : TxBody) (s : State) : (offer b s).lineBase = s.lineBase := by
  rcases offer_cases b s with ⟨q, -, h⟩ | ⟨-, h⟩ <;> rw [h]
  · rfl
  · exact toldDrop_lineBase b _

theorem request_lineBase (w : Nat) (r : Reason) (p : Purpose) (s : State) : (request w r p s).lineBase = s.lineBase := by
  unfold request
  dsimp only
  split
  · unfold decideLocally
    split <;> rfl
  · unfold openRound
    dsimp only
    split
    · rfl
    · exact offer_lineBase _ _

theorem lowerAfterEnd_lineBase (s : State) : (lowerAfterEnd s).lineBase = s.lineBase := by
  unfold lowerAfterEnd
  split
  · rfl
  · split
    · split
      · rfl
      · exact request_lineBase _ _ _ _
    · split
      · rfl
      · exact request_lineBase _ _ _ _

theorem lowerFrom_lineBase (s t : State) : (lowerFrom s t).lineBase = t.lineBase := by
  rcases lowerFrom_eq s t with h | h <;> rw [h]
  exact lowerAfterEnd_lineBase t

theorem freshen_lineBase (s : State) : (freshen s).lineBase = s.lineBase := by
  unfold freshen
  split
  · exact request_lineBase _ _ _ _
  · rfl

theorem endPurpose_lineBase (p : Purpose) (s : State) : (endPurpose p s).lineBase = s.lineBase :=
  lineBase_congr (by simp) (by simp) (by simp)

/-! ### Ends of roles and calls -/

theorem stopMotionOf_lineBase (o : MotionOwner) (s : State) : (stopMotionOf o s).lineBase = s.lineBase :=
  lineBase_congr (by simp) (by simp) (by simp)

theorem giveUpEntry_lineBase (r : Role) (s : State) : (giveUpEntry r s).lineBase = s.lineBase := by
  unfold giveUpEntry
  split
  · rfl
  · exact offer_lineBase _ _

theorem endRole_lineBase (s : State) : (endRole s).lineBase = s.lineBase := by
  unfold endRole
  split
  · rfl
  · rename_i r _
    calc _ = (stopMotionOf .follow (clearRole (dark (giveUpEntry r s)))).lineBase := endPurpose_lineBase _ _
      _ = (clearRole (dark (giveUpEntry r s))).lineBase := stopMotionOf_lineBase _ _
      _ = (giveUpEntry r s).lineBase := rfl
      _ = s.lineBase := giveUpEntry_lineBase _ _

theorem endRoleOf_lineBase (id : Word16) (s : State) : (endRoleOf id s).lineBase = s.lineBase := by
  unfold endRoleOf
  split
  · rfl
  · split
    · exact endRole_lineBase s
    · rfl

theorem endCall_lineBase (id : Word16) (o : CallOutcome) (s : State) : (endCall id o s).lineBase = s.lineBase := by
  unfold endCall
  split
  · rfl
  · exact (lineBase_congr (by simp) (by simp) (by simp)).trans (endRoleOf_lineBase id s)

theorem endCalls_lineBase (o : CallOutcome) (ids : List Word16) (s : State) :
    (endCalls o ids s).lineBase = s.lineBase :=
  endCalls_induction (P := fun t => t.lineBase = s.lineBase) o (fun id t ht => (endCall_lineBase id o t).trans ht) ids s rfl

/-! ### Planning and the next call -/

theorem recordPlan_lineBase (id : Word16) (pl : Plan) (cap : Nat) (s : State) :
    (recordPlan id pl cap s).lineBase = s.lineBase :=
  request_lineBase _ _ _ _

theorem planCall_lineBase (id : Word16) (s : State) : (planCall id s).lineBase = s.lineBase := by
  unfold planCall
  split
  · rfl
  · exact recordPlan_lineBase _ _ _ _

theorem replanCall_lineBase (id : Word16) (s : State) : (replanCall id s).lineBase = s.lineBase := by
  unfold replanCall
  split
  · rfl
  · split
    · rfl
    · exact recordPlan_lineBase _ _ _ _

theorem planAgain_lineBase (s : State) : (planAgain s).lineBase = s.lineBase :=
  foldl_lineBase (fun s id => planCall_lineBase id s) _ s

theorem withdrawOthers_lineBase (id : Word16) (s : State) : (withdrawOthers id s).lineBase = s.lineBase :=
  foldl_lineBase (f := fun s i => withdrawCall i s) (fun _ _ => endPurpose_lineBase _ _) _ s

theorem review_lineBase (s : State) : (review s).lineBase = s.lineBase := by
  unfold review
  split
  · rfl
  · split
    · rfl
    · dsimp only
      split
      · exact (planCall_lineBase _ _).trans (withdrawOthers_lineBase _ s)
      · exact withdrawOthers_lineBase _ s

/-! ### The start of a call -/

theorem beginNext_lineBase (id : Word16) (s : State) : (beginNext id s).lineBase = s.lineBase := by
  unfold beginNext
  split
  · rfl
  · split <;> rfl

theorem endIfComplete_lineBase (id : Word16) (s : State) : (endIfComplete id s).lineBase = s.lineBase := by
  rcases endIfComplete_cases id s with h | h <;> rw [h]
  exact endCall_lineBase id .done s

theorem startCallFade_lineBase (r : CallRecord) (s : State) : (startCallFade r s).lineBase = s.lineBase := by
  unfold startCallFade
  split
  · rfl
  · exact lineBase_congr (startFade_link ..) (startFade_clock ..) (startFade_pending ..)

theorem startCall_lineBase (id : Word16) (s : State) : (startCall id s).lineBase = s.lineBase := by
  unfold startCall
  split
  · rfl
  · exact (endIfComplete_lineBase _ _).trans ((beginNext_lineBase _ _).trans (startCallFade_lineBase _ _))

/-! ### Changes of mode, grants and the close of an event -/

/-- A change to a mode in which the line is on leaves a line that is on as it stands (R3, R38). -/
theorem setMode_lineBase {m : StationMode} {s : State} (hm : m.linkOff = false) (hs : s.link.lineState ≠ .off) :
    (setMode m s).lineBase = s.lineBase := by
  have hline : enterLine m s.link = s.link := by simp [enterLine, hm, hs]
  simp only [setMode, hm, hline]
  exact offer_lineBase _ _

theorem offerLanding_lineBase (id : Word16) (s : State) : (offerLanding id s).lineBase = s.lineBase := by
  unfold offerLanding
  split
  · rfl
  · split
    · split
      · exact offer_lineBase _ _
      · rfl
    · rfl
    · rfl
    · rfl

theorem grantCall_lineBase (id : Word16) (s : State) : (grantCall id s).lineBase = s.lineBase := by
  unfold grantCall
  split
  · rfl
  · split
    · exact offerLanding_lineBase _ _
    · exact startCall_lineBase id s
    all_goals rfl

theorem grantRole_lineBase (w : Nat) (s : State) : (grantRole w s).lineBase = s.lineBase := by
  unfold grantRole
  split
  · rfl
  · split <;> rfl

theorem seedPosition_lineBase (s : State) : (seedPosition s).lineBase = s.lineBase := by
  unfold seedPosition
  split <;> rfl

theorem enterHoming_lineBase {s : State} (hs : s.link.lineState ≠ .off) : (enterHoming s).lineBase = s.lineBase := by
  have hseed := seedPosition_lineBase s
  unfold enterHoming
  refine Eq.trans (setMode_lineBase rfl ?_) hseed
  exact lineOn_of_lineBase hseed hs

/-- A grant told may change the mode to HOMING alone, in which the line is on (R116, R188). -/
theorem tellGrant_lineBase (p : Purpose) (w : Nat) {s : State} (hs : s.link.lineState ≠ .off) :
    (tellGrant p w s).lineBase = s.lineBase := by
  cases p with
  | homing =>
    simp only [tellGrant]
    split
    · exact enterHoming_lineBase hs
    · rfl
  | follow => exact grantRole_lineBase w s
  | lowering => rfl
  | move id => exact grantCall_lineBase id s

theorem askFollow_lineBase (s : State) : (askFollow s).lineBase = s.lineBase := by
  unfold askFollow
  split
  · rfl
  · exact request_lineBase _ _ _ _

theorem askAgain_lineBase (p : Purpose) (s : State) : (askAgain p s).lineBase = s.lineBase := by
  unfold askAgain
  split
  · split
    · exact request_lineBase _ _ _ _
    · rfl
  · split
    · rfl
    · split
      · exact askFollow_lineBase s
      · rfl
  · rfl
  · split
    · rfl
    · split
      · exact replanCall_lineBase _ s
      · rfl

theorem rearm_lineBase (s : State) : (rearm s).lineBase = s.lineBase := by
  unfold rearm
  split
  · rfl
  · exact foldl_lineBase (fun s p => askAgain_lineBase p s) _ _

theorem tell_lineBase (n : Notice) {s : State} (hs : s.link.lineState ≠ .off) : (tell n s).lineBase = s.lineBase := by
  cases n with
  | granted p w => exact tellGrant_lineBase p w hs
  | rearm => exact rearm_lineBase s

theorem settle_lineBase (n : Nat) {s : State} (hs : s.link.lineState ≠ .off) : (settle n s).lineBase = s.lineBase := by
  induction n generalizing s with
  | zero => rfl
  | succ n ih =>
    unfold settle
    split
    · have hf := freshen_lineBase s
      exact (ih (lineOn_of_lineBase hf hs)).trans hf
    · split
      · rfl
      · rename_i x rest _
        have ht : (lowerFrom s (tell x { s with notices := rest })).lineBase = s.lineBase :=
          (lowerFrom_lineBase _ _).trans (tell_lineBase x (s := { s with notices := rest }) hs)
        exact (ih (lineOn_of_lineBase ht hs)).trans ht

/-- The close of an event leaves a line that is on, the link clock and the commands that wait. -/
theorem conclude_lineBase {s : State} (hs : s.link.lineState ≠ .off) : (conclude s).lineBase = s.lineBase := by
  have ht := settle_lineBase settleFuel hs
  unfold conclude
  dsimp only
  split
  · have hr := (review_lineBase (settle settleFuel s)).trans ht
    exact (settle_lineBase settleFuel (lineOn_of_lineBase hr hs)).trans hr
  · exact ht

theorem closeEvent_lineBase {s : State} (hs : s.link.lineState ≠ .off) : (closeEvent s).lineBase = s.lineBase :=
  have hr := review_lineBase s
  (conclude_lineBase (lineOn_of_lineBase hr hs)).trans hr

/-! ### The loss of the link (R20, R21, R22) -/

theorem enterSolo_lineBase (s : State) : (enterSolo s).lineBase = s.lineBase := by
  unfold enterSolo
  split <;> rfl

/-- READY to ISOLATED leaves a line that is on, the link clock and the commands that wait (R189). -/
theorem enterIsolated_lineBase {s : State} (hs : s.link.lineState ≠ .off) : (enterIsolated s).lineBase = s.lineBase := by
  have hmode : (isolatedMode s).lineBase = s.lineBase := setMode_lineBase rfl hs
  have hplan (ids : List Word16) :
      (planAgain (enterSolo (endRound (endCalls .cut ids (isolatedMode s))))).lineBase = s.lineBase :=
    calc _ = (enterSolo (endRound (endCalls .cut ids (isolatedMode s)))).lineBase := planAgain_lineBase _
      _ = (endRound (endCalls .cut ids (isolatedMode s))).lineBase := enterSolo_lineBase _
      _ = (endCalls .cut ids (isolatedMode s)).lineBase := rfl
      _ = (isolatedMode s).lineBase := endCalls_lineBase ..
      _ = s.lineBase := hmode
  exact (closeEvent_lineBase (lineOn_of_lineBase (hplan _) hs)).trans (hplan _)

/-- The link-lost condition is SET and its marks are cleared, and the loss is counted, if the condition was CLEAR: what a loss
of the link does to the link controller in every mode (R20, R21, R22). -/
def setLinkLost (s : State) : State :=
  if s.link.linkLost then s
  else
    { s with
      link := { s.link with
        linkLost := true
        receiveMark := false
        sendMark := false
        counters := { s.link.counters with linkLostCount := satInc s.link.counters.linkLostCount } } }

theorem setLinkLost_linkLost (s : State) : (setLinkLost s).link.linkLost = true := by
  unfold setLinkLost
  split
  · assumption
  · rfl

theorem setLinkLost_linkLostCount (s : State) :
    (setLinkLost s).link.counters.linkLostCount
      = if s.link.linkLost then s.link.counters.linkLostCount else satInc s.link.counters.linkLostCount := by
  unfold setLinkLost
  split <;> rfl

@[simp] theorem setLinkLost_lineState (s : State) : (setLinkLost s).link.lineState = s.link.lineState := by
  unfold setLinkLost
  split <;> rfl

@[simp] theorem setLinkLost_clock (s : State) : (setLinkLost s).clock = s.clock := by
  unfold setLinkLost
  split <;> rfl

@[simp] theorem setLinkLost_pending (s : State) : (setLinkLost s).pending = s.pending := by
  unfold setLinkLost
  split <;> rfl

theorem setLinkLost_quiet {s : State} (h : Quiet s) : Quiet (setLinkLost s) := by
  unfold setLinkLost
  split <;> exact h

/-- Outside READY a loss of the link sets the condition and does nothing else (R22, R189). -/
theorem loseLink_of_not_ready {s : State} (h : s.station.mode ≠ .ready) : loseLink s = setLinkLost s := by
  unfold loseLink setLinkLost
  split
  · rfl
  · exact if_neg h

/-- In every mode a loss of the link leaves on the line what setting the condition leaves; ISOLATED is the other blocks'
(R22, R189). -/
theorem loseLink_lineBase {s : State} (hs : s.link.lineState ≠ .off) : (loseLink s).lineBase = (setLinkLost s).lineBase := by
  by_cases hr : s.station.mode = .ready
  · unfold loseLink setLinkLost
    split
    · rfl
    · dsimp only
      rw [if_pos hr]
      exact enterIsolated_lineBase hs
  · rw [loseLink_of_not_ready hr]

/-! ### STUCK_LINE (R21) -/

/-- The dominant run has reached 2000 and no bit is recessive (R2, R21). -/
def atStuckRun (s : State) : State := { s with link := { s.link with dominantRun := 2000, recessiveRun := 0 } }

theorem stuckLine_of_off {s : State} (h : s.link.lineState = .off) : exec .stuckLine s = .next s :=
  congrArg Host.Outcome.next (if_pos h)

theorem stuckLine_of_on {s : State} (h : s.link.lineState ≠ .off) :
    exec .stuckLine s = .next (conclude (loseLink (atStuckRun s))) :=
  congrArg Host.Outcome.next (if_neg h)

/-- In every mode STUCK_LINE leaves on the line the condition SET at the run of 2000 (R21). -/
theorem stuckLine_lineBase {s : State} (h : s.link.lineState ≠ .off) :
    (conclude (loseLink (atStuckRun s))).lineBase = (setLinkLost (atStuckRun s)).lineBase := by
  have hl : (loseLink (atStuckRun s)).lineBase = (setLinkLost (atStuckRun s)).lineBase := loseLink_lineBase h
  have hon : (setLinkLost (atStuckRun s)).link.lineState ≠ .off := by rw [setLinkLost_lineState]; exact h
  exact (conclude_lineBase (lineOn_of_lineBase hl hon)).trans hl

/-- Outside READY, between two events, STUCK_LINE does nothing more (R21, R22). -/
theorem stuckLine_of_not_ready {s : State} (hq : Quiet s) (h : s.link.lineState ≠ .off) (hm : s.station.mode ≠ .ready) :
    exec .stuckLine s = .next (setLinkLost (atStuckRun s)) := by
  have hl : loseLink (atStuckRun s) = setLinkLost (atStuckRun s) := loseLink_of_not_ready hm
  have hq' : Quiet (setLinkLost (atStuckRun s)) := setLinkLost_quiet (s := atStuckRun s) hq
  rw [stuckLine_of_on h, hl, conclude_of_quiet hq']

/-- Settles O17: no block's answer to a loss of the link writes the line base, so the condition and its count are those of
`setLinkLost` in every mode. -/
theorem stuckLineSetsLinkLost : Obligations.StuckLineSetsLinkLost := by
  refine ⟨fun s h => stuckLine_of_off h, fun s h => ?_, fun s hq h hm => stuckLine_of_not_ready hq h hm⟩
  have hb := stuckLine_lineBase h
  refine ⟨_, stuckLine_of_on h, ?_, ?_, ?_, ?_, ?_⟩
  · exact (linkLost_of_lineBase hb).trans (setLinkLost_linkLost _)
  · exact (linkLostCount_of_lineBase hb).trans (setLinkLost_linkLostCount _)
  · exact (lineState_of_lineBase hb).trans (setLinkLost_lineState _)
  · exact (linkClock_of_lineBase hb).trans (congrArg ClockState.linkClock (setLinkLost_clock _))
  · exact (pending_of_lineBase hb).trans (setLinkLost_pending _)

end Sys2Proof.Machine
end

section
/-! SUPPORT. What the blocks leave of the link clock, of the tick count, of the count of clock steps and of the commands that
wait: every operation but the tick, the clock step and the clearing of the counters leaves them (R25, R27, R29). -/

namespace Sys2Proof.Machine

/-- The part of a state that ticks and clock steps alone write. -/
structure ClockBase where
  linkClock : Word32
  tickCount : Word32
  clockSteps : Nat
  pending : List Instr

/-- The link clock, the tick count, the count of clock steps, and the commands that wait. -/
def State.clockBase (s : State) : ClockBase :=
  ⟨s.clock.linkClock, s.clock.tickCount, s.clock.counters.clockSteps, s.pending⟩

/-! ### What states of one clock base share -/

theorem clockBase_congr {s t : State} (hc : t.clock = s.clock) (hp : t.pending = s.pending) :
    t.clockBase = s.clockBase := by
  simp only [State.clockBase, hc, hp]

/-- The clock base is part of the line base. -/
theorem clockBase_of_lineBase {s t : State} (h : t.lineBase = s.lineBase) : t.clockBase = s.clockBase :=
  congrArg (fun b : LineBase => (⟨b.clock.linkClock, b.clock.tickCount, b.clock.counters.clockSteps, b.pending⟩ : ClockBase)) h

/-! ### Changes of mode, grants and the close of an event -/

theorem setMode_clockBase (m : StationMode) (s : State) : (setMode m s).clockBase = s.clockBase := by
  simp only [State.clockBase, setMode_clock_linkClock, setMode_clock_tickCount, setMode_clock_counters, setMode_pending]

theorem enterHoming_clockBase (s : State) : (enterHoming s).clockBase = s.clockBase :=
  (setMode_clockBase .homing _).trans (clockBase_of_lineBase (seedPosition_lineBase s))

theorem tellGrant_clockBase (p : Purpose) (w : Nat) (s : State) : (tellGrant p w s).clockBase = s.clockBase := by
  cases p with
  | homing =>
    simp only [tellGrant]
    split
    · exact enterHoming_clockBase s
    · rfl
  | follow => exact clockBase_of_lineBase (grantRole_lineBase w s)
  | lowering => rfl
  | move id => exact clockBase_of_lineBase (grantCall_lineBase id s)

theorem tell_clockBase (n : Notice) (s : State) : (tell n s).clockBase = s.clockBase := by
  cases n with
  | granted p w => exact tellGrant_clockBase p w s
  | rearm => exact clockBase_of_lineBase (rearm_lineBase s)

theorem settle_clockBase (n : Nat) (s : State) : (settle n s).clockBase = s.clockBase := by
  induction n generalizing s with
  | zero => rfl
  | succ n ih =>
    unfold settle
    split
    · exact (ih _).trans (clockBase_of_lineBase (freshen_lineBase s))
    · split
      · rfl
      · rename_i x rest _
        exact (ih _).trans ((clockBase_of_lineBase (lowerFrom_lineBase _ _)).trans (tell_clockBase x { s with notices := rest }))

theorem conclude_clockBase (s : State) : (conclude s).clockBase = s.clockBase := by
  have ht := settle_clockBase settleFuel s
  unfold conclude
  dsimp only
  split
  · exact (settle_clockBase _ _).trans ((clockBase_of_lineBase (review_lineBase _)).trans ht)
  · exact ht

theorem closeEvent_clockBase (s : State) : (closeEvent s).clockBase = s.clockBase :=
  (conclude_clockBase _).trans (clockBase_of_lineBase (review_lineBase s))

theorem tellSoFar_clockBase (n : Nat) (s : State) : (tellSoFar n s).clockBase = s.clockBase := by
  induction n generalizing s with
  | zero => rfl
  | succ n ih =>
    unfold tellSoFar
    split
    · rfl
    · rename_i x rest _
      exact (ih _).trans (tell_clockBase x { s with notices := rest })

/-! ### Go (R51 to R55) -/

theorem landingGo_lineBase (id : Word16) (planned : Bool) (s : State) : (landingGo id planned s).lineBase = s.lineBase := by
  unfold landingGo
  split <;> rfl

theorem preempt_lineBase (lowers : Bool) (id : Word16) (s : State) : (preempt lowers id s).lineBase = s.lineBase := by
  have he := endCalls_lineBase .cut (s.preempted id) s
  unfold preempt
  dsimp only
  split
  · exact (lowerAfterEnd_lineBase _).trans he
  · exact he

theorem startRole_lineBase (id : Word16) (t n : Nat) (c : ColourPart) (s : State) :
    (startRole id t n c s).lineBase = s.lineBase :=
  askFollow_lineBase _

theorem startFollow_lineBase (r : CallRecord) (s : State) : (startFollow r s).lineBase = s.lineBase := by
  unfold startFollow
  dsimp only
  split
  · rfl
  · exact startRole_lineBase _ _ _ _ _

theorem planAtGo_lineBase (id : Word16) (s : State) : (planAtGo id s).lineBase = s.lineBase :=
  (planCall_lineBase id _).trans (withdrawOthers_lineBase id _)

theorem goEffect_lineBase (r : CallRecord) (s : State) : (goEffect r s).lineBase = s.lineBase := by
  have hmove : (if r.chain.isEmpty then enterWaiting r.callId s else planAtGo r.callId s).lineBase = s.lineBase := by
    split
    · rfl
    · exact planAtGo_lineBase _ s
  unfold goEffect
  split
  · exact startCall_lineBase _ s
  · rfl
  · split
    · exact startFollow_lineBase r s
    · exact planAtGo_lineBase _ s
    · exact hmove
    · exact hmove
  all_goals rfl

theorem passGo_clockBase (lowers : Bool) (r : CallRecord) (s : State) : (passGo lowers r s).clockBase = s.clockBase :=
  (tellSoFar_clockBase _ _).trans (clockBase_of_lineBase
    ((goEffect_lineBase _ _).trans ((landingGo_lineBase _ _ _).trans (preempt_lineBase _ _ (markGo r s)))))

theorem goOne_clockBase (rest : List Word16) (id : Word16) (s : State) : (goOne rest id s).clockBase = s.clockBase := by
  unfold goOne
  split
  · rfl
  · dsimp only
    split
    · exact (clockBase_of_lineBase (lowerAfterEnd_lineBase _)).trans (passGo_clockBase _ _ s)
    · exact passGo_clockBase _ _ s

theorem goTests_clockBase (s : State) : (goTests s).clockBase = s.clockBase :=
  goAll_induction (P := fun t => t.clockBase = s.clockBase) (fun rest id t ht => (goOne_clockBase rest id t).trans ht) _ s rfl

theorem clockTests_clockBase (s : State) : (clockTests s).clockBase = s.clockBase := by
  unfold clockTests
  split
  · exact (closeEvent_clockBase _).trans (goTests_clockBase s)
  · rfl

/-! ### Waits, changes of mode and faults -/

theorem endWait_lineBase (s : State) : (endWait s).lineBase = s.lineBase := by
  unfold endWait
  split
  · rfl
  · split
    · rfl
    · split
      · exact replanCall_lineBase _ (countReclaim s)
      · exact askFollow_lineBase (countReclaim s)
      · exact request_lineBase _ _ _ (countReclaim s)
      · exact request_lineBase _ _ _ s

theorem headroomRise_lineBase (s : State) : (headroomRise s).lineBase = s.lineBase := by
  unfold headroomRise
  split
  · rfl
  · split
    · exact endWait_lineBase s
    · rfl

theorem headroomRise_clockBase (s : State) : (headroomRise s).clockBase = s.clockBase :=
  clockBase_of_lineBase (headroomRise_lineBase s)

theorem endWaitNow_lineBase (s : State) : (endWaitNow s).lineBase = s.lineBase := by
  unfold endWaitNow
  split
  · rfl
  · split
    · exact endWait_lineBase s
    · rfl

theorem enterIsolated_clockBase (s : State) : (enterIsolated s).clockBase = s.clockBase := by
  have hmode : (isolatedMode s).clockBase = s.clockBase := setMode_clockBase .isolated _
  have hplan (t : State) : (planAgain (enterSolo (endRound t))).lineBase = t.lineBase :=
    (planAgain_lineBase _).trans (enterSolo_lineBase (endRound t))
  exact (closeEvent_clockBase _).trans ((clockBase_of_lineBase ((hplan _).trans (endCalls_lineBase ..))).trans hmode)

theorem leaveIsolated_clockBase (s : State) : (leaveIsolated s).clockBase = s.clockBase :=
  (closeEvent_clockBase _).trans ((clockBase_of_lineBase (endWaitNow_lineBase _)).trans (setMode_clockBase .ready _))

theorem enterReady_clockBase (s : State) : (enterReady s).clockBase = s.clockBase := by
  have hmode (t : State) : (closeEvent (goTests (setMode .ready t))).clockBase = t.clockBase :=
    (closeEvent_clockBase _).trans ((goTests_clockBase _).trans (setMode_clockBase .ready t))
  have hready (w : Nat) (t : State) :
      (closeEvent (goTests (setMode .ready (requestLowering w t)))).clockBase = t.clockBase :=
    (hmode _).trans (clockBase_of_lineBase (request_lineBase _ _ _ t))
  unfold enterReady
  dsimp only
  split
  · exact (enterIsolated_clockBase _).trans (hready _ _)
  · exact hready _ _

theorem faultPower_lineBase (s : State) : (faultPower s).lineBase = s.lineBase := request_lineBase _ _ _ _

theorem enterFault_clockBase (code : Nat) (s : State) : (enterFault code s).clockBase = s.clockBase := by
  unfold enterFault
  split
  · exact (conclude_clockBase _).trans ((clockBase_of_lineBase
      ((faultPower_lineBase _).trans (endCalls_lineBase ..))).trans (setMode_clockBase .faulted _))
  · rfl

theorem loseLink_clockBase (s : State) : (loseLink s).clockBase = s.clockBase := by
  unfold loseLink
  split
  · rfl
  · dsimp only
    split
    · exact enterIsolated_clockBase _
    · rfl

theorem checkMarks_clockBase (s : State) : (checkMarks s).clockBase = s.clockBase := by
  unfold checkMarks
  split
  · dsimp only
    split
    · exact leaveIsolated_clockBase _
    · rfl
  · rfl

theorem markReceive_clockBase (s : State) : (markReceive s).clockBase = s.clockBase := checkMarks_clockBase _

theorem markSend_clockBase (s : State) : (markSend s).clockBase = s.clockBase := checkMarks_clockBase _

theorem performRestart_clockBase (s : State) : (performRestart s).clockBase = s.clockBase :=
  setMode_clockBase .config (dark (haltMotion s))

theorem endRead_clockBase (rec : List Byte) (s : State) : (endRead rec s).clockBase = s.clockBase := by
  have htake (t : State) : (takeRecord rec t).clockBase = t.clockBase := by
    unfold takeRecord
    dsimp only
    split <;> rfl
  have hpass (t : State) : (passRead rec t).clockBase = t.clockBase := by
    refine Eq.trans (conclude_clockBase _) (Eq.trans ?_ ((setMode_clockBase .starting _).trans (htake t)))
    split
    · exact clockBase_of_lineBase (request_lineBase _ _ _ _)
    · rfl
  unfold endRead
  dsimp only
  split
  · exact setMode_clockBase .unconfigured _
  · exact hpass _

/-! ### The peer-entry stage (R31 to R36) -/

theorem stationGone_clockBase (st : Byte) (s : State) : (stationGone st s).clockBase = s.clockBase :=
  clockBase_congr (stationGone_clock st s) (stationGone_pending st s)

theorem evictFor_clockBase (p old : Peer) (s : State) : (evictFor p old s).clockBase = s.clockBase := by
  unfold evictFor
  dsimp only
  split
  · exact stationGone_clockBase _ _
  · rfl

theorem createPeer_clockBase (p : Peer) (s : State) : (createPeer p s).clockBase = s.clockBase := by
  unfold createPeer
  split
  · rfl
  · split
    · split
      · exact evictFor_clockBase _ _ s
      · rfl
    · rfl

/-- A peer table written and, where an entry has left the circuit, the headroom rise (R33, R110). -/
theorem updatePeer_rise_clockBase (b : Bool) (st : Byte) (f : Peer → Peer) (s : State) :
    (if b then headroomRise (updatePeer st f s) else updatePeer st f s).clockBase = s.clockBase := by
  split
  · exact headroomRise_clockBase _
  · rfl

theorem peerStage_clockBase (fr : Frame) (s : State) : (peerStage fr s).clockBase = s.clockBase := by
  unfold peerStage
  split
  case h_1 f =>
    unfold beaconPeer
    split
    · exact createPeer_clockBase _ s
    · exact updatePeer_rise_clockBase _ _ _ s
  case h_2 f =>
    unfold claimPeer
    split
    · exact createPeer_clockBase _ s
    · exact updatePeer_rise_clockBase _ _ _ s
  all_goals rfl

/-! ### The clock step (R27) -/

theorem isAfter_iff (a b : Word32) : isAfter a b = true ↔ (a - b).toNat < 2 ^ 31 ∧ a ≠ b := by
  simp [isAfter, atOrAfter]

/-- The clock base after the step test of a BEACON (R27). -/
def ClockBase.stepped (f : BeaconFields) (b : ClockBase) : ClockBase :=
  if (f.linkClock + 1 - b.linkClock).toNat < 2 ^ 31 ∧ f.linkClock + 1 ≠ b.linkClock then
    { b with linkClock := f.linkClock + 1, clockSteps := satInc b.clockSteps }
  else b

theorem clockStep_clockBase (f : BeaconFields) (s : State) : (clockStep f s).clockBase = s.clockBase.stepped f := by
  unfold clockStep ClockBase.stepped
  simp only [isAfter_iff]
  split
  · rename_i h
    exact (clockTests_clockBase _).trans (if_pos h).symm
  · rename_i h
    exact (if_neg h).symm

theorem stepped_linkClock (f : BeaconFields) (b : ClockBase) :
    (b.stepped f).linkClock
      = if (f.linkClock + 1 - b.linkClock).toNat < 2 ^ 31 ∧ f.linkClock + 1 ≠ b.linkClock then f.linkClock + 1
        else b.linkClock := by
  unfold ClockBase.stepped
  split <;> rfl

theorem stepped_clockSteps (f : BeaconFields) (b : ClockBase) :
    (b.stepped f).clockSteps
      = if (f.linkClock + 1 - b.linkClock).toNat < 2 ^ 31 ∧ f.linkClock + 1 ≠ b.linkClock then satInc b.clockSteps
        else b.clockSteps := by
  unfold ClockBase.stepped
  split <;> rfl

theorem stepped_tickCount (f : BeaconFields) (b : ClockBase) : (b.stepped f).tickCount = b.tickCount := by
  unfold ClockBase.stepped
  split <;> rfl

theorem stepped_pending (f : BeaconFields) (b : ClockBase) : (b.stepped f).pending = b.pending := by
  unfold ClockBase.stepped
  split <;> rfl

/-- The step test leaves the link clock, or steps it forward by less than 2^31 (R25). -/
theorem stepped_forward (f : BeaconFields) (b : ClockBase) :
    (b.stepped f).linkClock = b.linkClock
      ∨ (b.stepped f).linkClock = f.linkClock + 1 ∧ (f.linkClock + 1 - b.linkClock).toNat < 2 ^ 31 := by
  rw [stepped_linkClock]
  split
  · rename_i h
    exact .inr ⟨rfl, h.1⟩
  · exact .inl rfl

/-! ### The arrival of a frame (R5, R12, R22) -/

/-- A good frame as the blocks of its kind find it: counted, the receive mark tested, the peer entry written (R12). -/
def handed (fr : Frame) (s : State) : State := peerStage fr (markReceive (countReceived (lineLevels fr.bytes) s))

theorem handed_clockBase (fr : Frame) (s : State) : (handed fr s).clockBase = s.clockBase :=
  (peerStage_clockBase fr _).trans (markReceive_clockBase (countReceived (lineLevels fr.bytes) s))

/-- A well-formed frame of another station reaches the blocks of its kind, in every mode and whatever its receive mark does
(R5, R12). -/
theorem receiveFrame_of_heard {fr : Frame} {s : State} (act : State → State) (hl : Listening fr s) (hwf : fr.wf = true)
    (hn : fr.station ≠ s.station.ownStation) : receiveFrame fr act s = conclude (act (handed fr s)) := by
  obtain ⟨hline, hbegins⟩ := hl
  have hr : s.receives fr.bytes none = true := by simp [State.receives, hline, hbegins]
  unfold receiveFrame
  rw [if_pos hr, verdictOf_wf hwf hn]
  rfl

/-- A frame that does not reach the blocks of its kind leaves the clock base (R5). -/
theorem receiveFrame_cases (fr : Frame) (act : State → State) (s : State) :
    (receiveFrame fr act s).clockBase = s.clockBase ∨ receiveFrame fr act s = conclude (act (handed fr s)) := by
  unfold receiveFrame
  split
  · split
    · exact .inl rfl
    · exact .inr rfl
  · exact .inl rfl

theorem statedClaim_clockBase (st : Byte) (f : BeaconFields) (existed : Bool) (s : State) :
    (statedClaim st f existed s).clockBase = s.clockBase := by
  unfold statedClaim
  split
  · rfl
  · dsimp only
    split
    · exact headroomRise_clockBase _
    · rfl

theorem applyBeacon_clockBase (st : Byte) (f : BeaconFields) (existed : Bool) (s : State) :
    (applyBeacon st f existed s).clockBase = s.clockBase.stepped f :=
  (statedClaim_clockBase st f existed _).trans (clockStep_clockBase f s)

/-- What a BEACON does to the clock base once it reaches its blocks (R27). -/
theorem concluded_beacon_clockBase (st : Byte) (f : BeaconFields) (existed : Bool) (s : State) :
    (conclude (applyBeacon st f existed (handed ⟨st, .beacon f⟩ s))).clockBase = s.clockBase.stepped f := by
  rw [conclude_clockBase, applyBeacon_clockBase, handed_clockBase]

/-! ### The readback of the own frame (R10, R12) -/

/-- The own frame as the blocks of its kind find it: sent, its entry out of the queue, the send mark tested (R10, R18, R22). -/
def sent (fr : Frame) (s : State) : State := markSend { s with link := sentLink (lineLevels fr.bytes) s.link }

theorem sent_clockBase (fr : Frame) (s : State) : (sent fr s).clockBase = s.clockBase := markSend_clockBase _

theorem transmissionSuccess_of_none {s : State} (h : s.link.txFrame = none) : exec .transmissionSuccess s = .next s := by
  simp only [exec, execTransmissionSuccess, h]

theorem transmissionSuccess_of_offLine {s : State} (h : s.link.onLine = false) : exec .transmissionSuccess s = .next s := by
  simp only [exec, execTransmissionSuccess, h]
  split <;> rfl

theorem transmissionSuccess_of_onLine {fr : Frame} {s : State} (hf : s.link.txFrame = some fr) (h : s.link.onLine = true) :
    exec .transmissionSuccess s = .next (conclude (readbackOwn fr (sent fr s))) := by
  simp only [exec, execTransmissionSuccess, hf, h, if_true]
  rfl

theorem settleRound_lineBase (f : ClaimFields) (granted : Bool) (s : State) :
    (settleRound f granted s).lineBase = s.lineBase := by
  unfold settleRound
  split
  · rfl
  · split
    · split <;> rfl
    · split <;> rfl

theorem ownClaimReadback_lineBase (f : ClaimFields) (s : State) : (ownClaimReadback f s).lineBase = s.lineBase := by
  unfold ownClaimReadback
  split
  · rfl
  · split <;> exact settleRound_lineBase _ _ _

theorem coverTests_clockBase (s : State) : (coverTests s).clockBase = s.clockBase :=
  clockBase_congr (coverTests_clock s) (coverTests_pending s)

theorem changeHolders_clockBase (t : Nat) (l : List Holder) (s : State) : (changeHolders t l s).clockBase = s.clockBase :=
  clockBase_congr (changeHolders_clock t l s) (changeHolders_pending t l s)

theorem ownAdded_clockBase (f : CoverFields) (s : State) : (ownAdded f s).clockBase = s.clockBase := by
  have hyield (t n : Nat) (l : List Holder) : (offerYield t n (setHolders t l s)).clockBase = s.clockBase :=
    clockBase_congr (by simp) (by simp)
  unfold ownAdded
  dsimp only
  split
  · exact hyield _ _ _
  · split
    · exact clockBase_congr (by simp [startColour]) (by simp [startColour])
    · exact hyield _ _ _

theorem applyCover_clockBase (own : Bool) (st : Byte) (f : CoverFields) (s : State) :
    (applyCover own st f s).clockBase = s.clockBase := by
  unfold applyCover
  split
  · rfl
  · dsimp only
    split
    · split
      · exact (coverTests_clockBase _).trans (ownAdded_clockBase _ _)
      · exact ownAdded_clockBase _ _
    · exact changeHolders_clockBase _ _ _

theorem takeOffer_lineBase (f : OfferFields) (s : State) : (takeOffer f s).lineBase = s.lineBase := by
  unfold takeOffer
  split
  · rfl
  · split
    · rfl
    · split <;> rfl

theorem applyOffer_lineBase (f : OfferFields) (s : State) : (applyOffer f s).lineBase = s.lineBase := by
  unfold applyOffer
  split
  · exact takeOffer_lineBase f s
  · rfl

/-- The readback of an own frame makes the step test of a BEACON, and else leaves the clock base (R10, R27). -/
theorem readbackOwn_clockBase (fr : Frame) (s : State) :
    (readbackOwn fr s).clockBase = s.clockBase
      ∨ ∃ f, fr.body = .beacon f ∧ (readbackOwn fr s).clockBase = s.clockBase.stepped f := by
  unfold readbackOwn
  split
  · unfold dispatchOwn
    split
    · exact .inl (clockBase_of_lineBase (ownClaimReadback_lineBase _ s))
    · exact .inl (applyCover_clockBase _ _ _ s)
    · exact .inl (clockBase_of_lineBase (applyOffer_lineBase _ s))
    case h_4 f hf => exact .inr ⟨f, hf, clockStep_clockBase f s⟩
    all_goals exact .inl rfl
  · exact .inl rfl

/-! ### BEACON (R27) -/

theorem beacon_of_heard {st : Byte} {f : BeaconFields} {s : State} (hl : Listening ⟨st, .beacon f⟩ s)
    (hwf : Frame.wf ⟨st, .beacon f⟩ = true) (hn : st ≠ s.station.ownStation) :
    ∃ t, exec (.beacon st f) s = .next t ∧ t.clockBase = s.clockBase.stepped f :=
  ⟨_, congrArg Host.Outcome.next (receiveFrame_of_heard _ hl hwf hn), concluded_beacon_clockBase st f _ s⟩

theorem beacon_of_readback {st : Byte} {f : BeaconFields} {s : State} (htx : s.link.txFrame = some ⟨st, .beacon f⟩)
    (hok : Payload.fieldsOk (.beacon f) = true) (hon : s.link.onLine = true) :
    ∃ t, exec .transmissionSuccess s = .next t ∧ t.clockBase = s.clockBase.stepped f := by
  have hread : readbackOwn ⟨st, .beacon f⟩ (sent ⟨st, .beacon f⟩ s) = clockStep f (sent ⟨st, .beacon f⟩ s) := if_pos hok
  refine ⟨_, transmissionSuccess_of_onLine htx hon, ?_⟩
  rw [conclude_clockBase, hread, clockStep_clockBase, sent_clockBase]

/-- Settles O32: on both paths no block but the step test writes the clock base. -/
theorem beaconStepsClock : Obligations.BeaconStepsClock := by
  intro s st f c hc
  have hstep : ∃ t, exec c s = .next t ∧ t.clockBase = s.clockBase.stepped f := by
    rcases hc with ⟨rfl, hl, hwf, hn⟩ | ⟨rfl, htx, hkind, hcircuit, htarget, hline⟩
    · exact beacon_of_heard hl hwf hn
    · have hok : Payload.fieldsOk (.beacon f) = true := by
        simpa [Payload.fieldsOk, and_assoc] using ⟨hkind, hcircuit, htarget⟩
      exact beacon_of_readback htx hok (by simpa [LinkState.onLine] using hline)
  obtain ⟨t, ht, hb⟩ := hstep
  exact ⟨t, ht, (congrArg ClockBase.linkClock hb).trans (stepped_linkClock f _),
    (congrArg ClockBase.clockSteps hb).trans (stepped_clockSteps f _),
    (congrArg ClockBase.tickCount hb).trans (stepped_tickCount f _),
    (congrArg ClockBase.pending hb).trans (stepped_pending f _)⟩

/-! ### Arrivals of the other kinds -/

theorem testPeerClaim_clockBase (st : Byte) (f : ClaimFields) (s : State) :
    (testPeerClaim st f s).1.clockBase = s.clockBase := by
  unfold testPeerClaim
  split
  · rfl
  · split <;> rfl

theorem applyClaim_clockBase (st : Byte) (f : ClaimFields) (s : State) : (applyClaim st f s).clockBase = s.clockBase := by
  have ht := testPeerClaim_clockBase st f s
  unfold applyClaim
  dsimp only
  split
  · exact (headroomRise_clockBase _).trans ht
  · exact ht

theorem stopStation_clockBase (f : StopFields) (s : State) : (stopStation f s).clockBase = s.clockBase := by
  have hcalls : (endCalls .cut s.stopped s).clockBase = s.clockBase := clockBase_of_lineBase (endCalls_lineBase ..)
  have hdark (b : Bool) (t : State) : (if b then blackout t else t).clockBase = t.clockBase := by split <;> rfl
  have hlower (b : Bool) (t : State) : (if b then lowerAfterEnd t else t).clockBase = t.clockBase := by
    split
    · exact clockBase_of_lineBase (lowerAfterEnd_lineBase t)
    · rfl
  have hrestart (b : Bool) (t : State) : (if b then performRestart (freshen t) else t).clockBase = t.clockBase := by
    split
    · exact (performRestart_clockBase _).trans (clockBase_of_lineBase (freshen_lineBase t))
    · rfl
  exact (hrestart _ _).trans ((hlower _ _).trans ((hdark _ _).trans hcalls))

theorem applyStop_clockBase (f : StopFields) (s : State) : (applyStop f s).clockBase = s.clockBase := by
  unfold applyStop
  split
  · exact stopStation_clockBase f s
  · rfl

theorem followTrack_clockBase (r : Role) (f : TrackFields) (s : State) : (followTrack r f s).clockBase = s.clockBase := by
  unfold followTrack
  split
  · rfl
  · dsimp only
    split
    · exact coverTests_clockBase _
    · rfl

theorem applyTrack_clockBase (f : TrackFields) (s : State) : (applyTrack f s).clockBase = s.clockBase := by
  unfold applyTrack
  split
  · rfl
  · dsimp only
    split
    · rfl
    · split
      · exact followTrack_clockBase _ _ _
      · rfl

theorem addCall_lineBase (f : CallFields) (arrival : Nat) (s : State) : (addCall f arrival s).lineBase = s.lineBase := by
  unfold addCall createLanding
  dsimp only
  split <;> rfl

theorem lateTests_clockBase (f : CallFields) (s : State) : (lateTests f s).clockBase = s.clockBase := by
  unfold lateTests
  split
  · exact goTests_clockBase s
  · rfl

theorem acceptCall_clockBase (f : CallFields) (s : State) : (acceptCall f s).clockBase = s.clockBase :=
  (closeEvent_clockBase _).trans ((lateTests_clockBase f _).trans (clockBase_of_lineBase (addCall_lineBase f _ _)))

theorem supersedeCall_clockBase (f : CallFields) (old : CallRecord) (s : State) :
    (supersedeCall f old s).clockBase = s.clockBase := by
  have hadd (t : State) (n k : Nat) :
      (addCall f n { t with store.counters.superseded := k }).clockBase = t.clockBase :=
    clockBase_of_lineBase (addCall_lineBase f n _)
  have hlower (b : Bool) (t : State) : (if b then t else lowerAfterEnd t).clockBase = t.clockBase := by
    split
    · rfl
    · exact clockBase_of_lineBase (lowerAfterEnd_lineBase t)
  calc _ = _ := closeEvent_clockBase _
    _ = _ := lateTests_clockBase f _
    _ = _ := hlower _ _
    _ = _ := hadd _ _ _
    _ = s.clockBase := clockBase_of_lineBase (endCall_lineBase f.callId .cut s)

theorem applyCall_clockBase (f : CallFields) (s : State) : (applyCall f s).clockBase = s.clockBase := by
  unfold applyCall
  split
  case h_6 old _ => exact supersedeCall_clockBase f old s
  case h_7 => exact acceptCall_clockBase f s
  all_goals rfl

theorem noteRequested_lineBase (id : Word16) (n : Nat) (s : State) : (noteRequested id n s).lineBase = s.lineBase := by
  unfold noteRequested
  split <;> rfl

theorem segmentEffect_lineBase (r : CallRecord) (s : State) : (segmentEffect r s).lineBase = s.lineBase := by
  unfold segmentEffect
  split
  · split
    · exact planCall_lineBase _ s
    · rfl
  · exact beginNext_lineBase _ _
  all_goals rfl

theorem applySegment_clockBase (f : SegmentFields) (s : State) : (applySegment f s).clockBase = s.clockBase := by
  unfold applySegment
  split
  case h_7 r _ =>
    exact (closeEvent_clockBase _).trans
      (clockBase_of_lineBase ((segmentEffect_lineBase r _).trans (noteRequested_lineBase _ _ _)))
  all_goals rfl

end Sys2Proof.Machine
end

section
/-! SUPPORT. What each command leaves of the link clock and of the tick count (R25): the clearing of the counters, which the
clock base does not survive, leaves these two. -/

namespace Sys2Proof.Machine

/-! ### The times (R25, R29) -/

/-- The link clock and the tick count. -/
def State.times (s : State) : Word32 × Word32 := (s.clock.linkClock, s.clock.tickCount)

theorem times_of_clockBase {s t : State} (h : t.clockBase = s.clockBase) : t.times = s.times :=
  congrArg (fun b : ClockBase => (b.linkClock, b.tickCount)) h

/-- The counters of a page cleared leave the times; "clock steps" is among them (R193). -/
theorem clearPage_times (page : Nat) (s : State) : (clearPage page s).times = s.times := by
  unfold clearPage
  split <;> rfl

theorem offerPart_times (n : Snapshot) (s : State) : (offerPart n s).times = s.times :=
  times_of_clockBase (clockBase_of_lineBase (offer_lineBase _ _))

theorem newSnapshot_times (page : Nat) (clear : Bool) (s : State) : (newSnapshot page clear s).times = s.times := by
  unfold newSnapshot
  dsimp only
  split
  · exact (clearPage_times _ _).trans (offerPart_times _ s)
  · exact offerPart_times _ s

theorem applyProbe_times (f : ProbeFields) (s : State) : (applyProbe f s).times = s.times := by
  unfold applyProbe
  split
  · rfl
  · split
    · exact newSnapshot_times _ _ s
    · split
      · exact offerPart_times _ s
      · exact newSnapshot_times _ _ s

/-- An arrival leaves the times where the blocks of its kind leave them. -/
theorem receiveFrame_times {fr : Frame} {act : State → State} (h : ∀ s, (act s).times = s.times) (s : State) :
    (receiveFrame fr act s).times = s.times := by
  rcases receiveFrame_cases fr act s with hr | hr
  · exact times_of_clockBase hr
  · rw [hr]
    exact (times_of_clockBase (conclude_clockBase _)).trans ((h _).trans (times_of_clockBase (handed_clockBase fr s)))

/-- An arrival leaves the times where the blocks of its kind leave the clock base. -/
theorem receiveFrame_times_of_clockBase {fr : Frame} {act : State → State}
    (h : ∀ s, (act s).clockBase = s.clockBase) (s : State) : (receiveFrame fr act s).times = s.times :=
  receiveFrame_times (fun u => times_of_clockBase (h u)) s

/-! ### The commands of the line -/

theorem afterDrop_clockBase (b : TxBody) (s : State) : (afterDrop b s).clockBase = s.clockBase := by
  have ht : (toldDrop b (countDrop s)).clockBase = s.clockBase :=
    clockBase_congr (toldDrop_clock b _) (toldDrop_pending b _)
  unfold afterDrop
  dsimp only
  split
  · exact (loseLink_clockBase _).trans ht
  · exact ht

theorem clashAt_clockBase (fr : Frame) (p : Nat) (s : State) : (clashAt fr p s).clockBase = s.clockBase := by
  unfold clashAt
  dsimp only
  split
  · rfl
  · exact (conclude_clockBase _).trans (afterDrop_clockBase _ _)

/-! ### The clock and peer unit's and the power share unit's events -/

theorem silencePeer_clockBase (st : Byte) (s : State) : (silencePeer st s).clockBase = s.clockBase :=
  stationGone_clockBase st _

theorem removePeer_clockBase (p : Peer) (s : State) : (removePeer p s).clockBase = s.clockBase := by
  unfold removePeer
  dsimp only
  split
  · exact (conclude_clockBase _).trans (headroomRise_clockBase _)
  · rfl

theorem beaconNow_clockBase (s : State) : (beaconNow s).clockBase = s.clockBase :=
  clockBase_of_lineBase (offer_lineBase .beacon _)

theorem offerHeld_lineBase (s : State) : (offerHeld s).lineBase = s.lineBase := by
  unfold offerHeld
  split
  · rfl
  · split
    · exact offer_lineBase _ _
    · rfl

theorem settleOver_clockBase (s : State) : (settleOver s).clockBase = s.clockBase := by
  have ho (t : State) : (offerHeld t).clockBase = t.clockBase := clockBase_of_lineBase (offerHeld_lineBase t)
  unfold settleOver
  dsimp only
  split
  · exact (enterReady_clockBase _).trans (ho _)
  · exact ho _

/-! ### The call store's events -/

theorem expireCall_clockBase (o : CallOutcome) (r : CallRecord) (s : State) : (expireCall o r s).clockBase = s.clockBase :=
  (closeEvent_clockBase _).trans
    (clockBase_of_lineBase ((lowerAfterEnd_lineBase _).trans (endCall_lineBase r.callId o s)))

theorem finishIfComplete_lineBase (id : Word16) (s : State) : (finishIfComplete id s).lineBase = s.lineBase :=
  (lowerFrom_lineBase _ _).trans (endIfComplete_lineBase id s)

theorem chainOn_lineBase (id : Word16) (s : State) : (chainOn id s).lineBase = s.lineBase := by
  unfold chainOn
  split
  · rfl
  · split
    · exact beginNext_lineBase id s
    · dsimp only
      split
      · exact finishIfComplete_lineBase _ _
      · rfl

theorem segmentOver_clockBase (m : Motion) (s : State) : (segmentOver m s).clockBase = s.clockBase := by
  unfold segmentOver
  split
  · rfl
  · exact (closeEvent_clockBase _).trans (clockBase_of_lineBase (chainOn_lineBase _ s))

theorem fadeOver_clockBase (f : Fade) (s : State) : (fadeOver f s).clockBase = s.clockBase := by
  unfold fadeOver
  dsimp only
  split
  · rfl
  · exact (closeEvent_clockBase _).trans (clockBase_of_lineBase (finishIfComplete_lineBase _ _))

/-! ### The cover unit's and the drive port's events -/

theorem restate_clockBase (s : State) : (restate s).clockBase = s.clockBase := by
  unfold restate
  split
  · rfl
  · split
    · exact clockBase_congr (offerHold_clock _ s) (offerHold_pending _ s)
    · rfl

theorem absentFrame_clockBase (s : State) : (absentFrame s).clockBase = s.clockBase := by
  unfold absentFrame
  dsimp only
  split
  · split
    · exact enterFault_clockBase 6 _
    · rfl
  · rfl

theorem takeTemperature_clockBase (tau : Int) (s : State) : (takeTemperature tau s).clockBase = s.clockBase := by
  unfold takeTemperature
  split <;> rfl

theorem handTemperature_clockBase (tau : Int) (s : State) : (handTemperature tau s).clockBase = s.clockBase := by
  unfold handTemperature
  split
  · exact (enterFault_clockBase 7 _).trans (takeTemperature_clockBase tau s)
  · exact takeTemperature_clockBase tau s

theorem followEncoders_clockBase (enc : Int × Int) (s : State) : (followEncoders enc s).clockBase = s.clockBase := by
  unfold followEncoders
  split <;> rfl

theorem onTargetTest_clockBase (enc : Int × Int) (s : State) : (onTargetTest enc s).clockBase = s.clockBase := by
  unfold onTargetTest
  split
  · split
    · exact clockBase_congr (offerHold_clock _ _) (offerHold_pending _ _)
    · rfl
  all_goals rfl

theorem homingCheck_clockBase (s : State) : (homingCheck s).clockBase = s.clockBase := by
  unfold homingCheck
  split
  · exact enterReady_clockBase s
  · rfl

theorem driveChecks_clockBase (m : StationMode) (status : Slot) (enc : Int × Int) (s : State) :
    (driveChecks m status enc s).clockBase = s.clockBase := by
  unfold driveChecks
  split
  · dsimp only
    split
    · exact enterFault_clockBase _ _
    · rfl
  · rfl

theorem presentFrame_clockBase (status : Slot) (enc : Int × Int) (tau : Int) (s : State) :
    (presentFrame status enc tau s).clockBase = s.clockBase :=
  calc (presentFrame status enc tau s).clockBase
    _ = _ := driveChecks_clockBase _ _ _ _
    _ = _ := homingCheck_clockBase _
    _ = _ := onTargetTest_clockBase _ _
    _ = _ := followEncoders_clockBase _ _
    _ = _ := handTemperature_clockBase _ (recordFrame status enc s)

/-! ### Every command (R25) -/

/-- What a command goes on to, where it goes on, is at the times of a state. -/
def AtTimesOf (s : State) : Host.Outcome State Fault Refusal → Prop
  | .next t => t.times = s.times
  | .fault _ => True
  | .refused _ => True

theorem atTimesOf_of_clockBase {s t : State} (h : t.clockBase = s.clockBase) : AtTimesOf s (.next t) := times_of_clockBase h

/-- An event that comes under a condition leaves the times where it leaves the clock base. -/
theorem atTimesOf_ite {s t : State} {p : Prop} [Decidable p] (h : t.clockBase = s.clockBase) :
    AtTimesOf s (.next (if p then t else s)) := by
  split
  · exact atTimesOf_of_clockBase h
  · rfl

/-- A command that steps the clock: the BEACON of another station, or the readback of the own one (R27). -/
def CarriesBeacon (s : State) (c : Instr) (f : BeaconFields) : Prop :=
  ∃ st, c = .beacon st f ∨ c = .transmissionSuccess ∧ s.link.txFrame = some ⟨st, .beacon f⟩

theorem execBeacon_cases (st : Byte) (f : BeaconFields) (s : State) :
    ∃ t, exec (.beacon st f) s = .next t
      ∧ (t.clockBase = s.clockBase ∨ t.clockBase = s.clockBase.stepped f) := by
  refine ⟨_, rfl, ?_⟩
  rcases receiveFrame_cases ⟨st, .beacon f⟩ (applyBeacon st f (s.findPeer st).isSome) s with h | h
  · exact .inl h
  · exact .inr ((congrArg State.clockBase h).trans (concluded_beacon_clockBase st f _ s))

theorem execTransmissionSuccess_cases (s : State) :
    ∃ t, exec .transmissionSuccess s = .next t
      ∧ (t.clockBase = s.clockBase
        ∨ ∃ f, CarriesBeacon s .transmissionSuccess f ∧ t.clockBase = s.clockBase.stepped f) := by
  cases htx : s.link.txFrame with
  | none => exact ⟨s, transmissionSuccess_of_none htx, .inl rfl⟩
  | some fr =>
    cases hon : s.link.onLine with
    | false => exact ⟨s, transmissionSuccess_of_offLine hon, .inl rfl⟩
    | true =>
      refine ⟨_, transmissionSuccess_of_onLine htx hon, ?_⟩
      rw [conclude_clockBase, ← sent_clockBase fr s]
      rcases readbackOwn_clockBase fr (sent fr s) with h | ⟨f, hf, h⟩
      · exact .inl h
      · exact .inr ⟨f, ⟨fr.station, .inr ⟨rfl, by rw [htx, ← hf]⟩⟩, h⟩

/-! #### Commands that look first for what they act on -/

theorem execStartOpportunity_atTimesOf (s : State) : AtTimesOf s (execStartOpportunity s) := by
  unfold execStartOpportunity
  split
  · split <;> rfl
  · rfl

theorem execArbitrationLost_atTimesOf (p : Nat) (s : State) : AtTimesOf s (execArbitrationLost p s) := by
  unfold execArbitrationLost
  split
  · rfl
  · exact atTimesOf_ite rfl

theorem execClash_atTimesOf (p : Nat) (s : State) : AtTimesOf s (execClash p s) := by
  unfold execClash
  split
  · rfl
  · exact atTimesOf_ite (clashAt_clockBase _ p s)

theorem execStuckLine_atTimesOf (s : State) : AtTimesOf s (execStuckLine s) := by
  unfold execStuckLine
  split
  · rfl
  · exact atTimesOf_of_clockBase ((conclude_clockBase _).trans (loseLink_clockBase _))

theorem execFrameDiscard_atTimesOf (bytes : List Byte) (fault : Option SymbolFault) (s : State) :
    AtTimesOf s (execFrameDiscard bytes fault s) := by
  unfold execFrameDiscard
  split
  · split <;> rfl
  · rfl

theorem execPeerSilent_atTimesOf (st : Byte) (s : State) : AtTimesOf s (execPeerSilent st s) := by
  unfold execPeerSilent
  split
  · rfl
  · exact atTimesOf_ite (silencePeer_clockBase st s)

theorem execPeerRemoved_atTimesOf (st : Byte) (s : State) : AtTimesOf s (execPeerRemoved st s) := by
  unfold execPeerRemoved
  split
  · rfl
  · exact atTimesOf_ite (removePeer_clockBase _ s)

theorem execWaitingLimit_atTimesOf (s : State) : AtTimesOf s (execWaitingLimit s) := by
  unfold execWaitingLimit
  split
  · rfl
  · exact atTimesOf_of_clockBase (expireCall_clockBase .dropped _ s)

theorem execHoldOpenLimit_atTimesOf (s : State) : AtTimesOf s (execHoldOpenLimit s) := by
  unfold execHoldOpenLimit
  split
  · rfl
  · exact atTimesOf_of_clockBase (expireCall_clockBase .short _ s)

theorem execSegmentEnd_atTimesOf (s : State) : AtTimesOf s (execSegmentEnd s) := by
  unfold execSegmentEnd
  split
  · rfl
  · exact atTimesOf_ite (segmentOver_clockBase _ s)

theorem execFadeComplete_atTimesOf (s : State) : AtTimesOf s (execFadeComplete s) := by
  unfold execFadeComplete
  split
  · rfl
  · exact atTimesOf_ite (fadeOver_clockBase _ s)

theorem execReliefDeadline_atTimesOf (t : Byte) (s : State) : AtTimesOf s (execReliefDeadline t s) := by
  unfold execReliefDeadline
  split
  · rfl
  · exact atTimesOf_of_clockBase (changeHolders_clockBase _ _ _)

theorem execHolderLapse_atTimesOf (t st : Byte) (s : State) : AtTimesOf s (execHolderLapse t st s) := by
  unfold execHolderLapse
  split
  · rfl
  · exact atTimesOf_ite (changeHolders_clockBase _ _ _)

theorem execInFrame_atTimesOf (status pan tilt temperature : Slot) (s : State) :
    AtTimesOf s (execInFrame status pan tilt temperature s) := by
  unfold execInFrame
  split
  · rfl
  · split
    · exact atTimesOf_of_clockBase (presentFrame_clockBase ..)
    · exact atTimesOf_of_clockBase (absentFrame_clockBase s)

/-! #### All of them -/

/-- Every command but a power-on reset, a tick, and one that can carry a BEACON leaves the times. -/
theorem exec_times (s : State) (c : Instr) (hr : c ≠ .powerOnReset) (ht : c ≠ .tick) (hb : ∀ st f, c ≠ .beacon st f)
    (hs : c ≠ .transmissionSuccess) : AtTimesOf s (exec c s) := by
  cases c with
  | powerOnReset => exact absurd rfl hr
  | tick => exact absurd rfl ht
  | beacon st f => exact absurd rfl (hb st f)
  | transmissionSuccess => exact absurd rfl hs
  | configurationReadEnd bytes => exact atTimesOf_ite (endRead_clockBase _ s)
  | resetAsserted => exact atTimesOf_of_clockBase (setMode_clockBase .reset s)
  | lineIdle => exact atTimesOf_ite rfl
  | frameStartBit => exact atTimesOf_ite rfl
  | stuckLine => exact execStuckLine_atTimesOf s
  | startOpportunity => exact execStartOpportunity_atTimesOf s
  | arbitrationLost p => exact execArbitrationLost_atTimesOf p s
  | clash p => exact execClash_atTimesOf p s
  | frameDiscard bytes fault => exact execFrameDiscard_atTimesOf bytes fault s
  | stop st f => exact receiveFrame_times_of_clockBase (applyStop_clockBase f) s
  | claim st f => exact receiveFrame_times_of_clockBase (applyClaim_clockBase st f) s
  | track st f => exact receiveFrame_times_of_clockBase (applyTrack_clockBase f) s
  | cover st f => exact receiveFrame_times_of_clockBase (applyCover_clockBase false st f) s
  | offer st f => exact receiveFrame_times_of_clockBase (fun u => clockBase_of_lineBase (applyOffer_lineBase f u)) s
  | call st f => exact receiveFrame_times_of_clockBase (applyCall_clockBase f) s
  | segment st f => exact receiveFrame_times_of_clockBase (applySegment_clockBase f) s
  | probe st f => exact receiveFrame_times (applyProbe_times f) s
  | report st f => exact receiveFrame_times (fun _ => rfl) s
  | beaconTimer => exact atTimesOf_ite (beaconNow_clockBase _)
  | planPoint => exact atTimesOf_ite (closeEvent_clockBase s)
  | go => exact times_of_clockBase (clockTests_clockBase s)
  | reclaimTimer =>
    exact atTimesOf_ite ((conclude_clockBase _).trans (clockBase_of_lineBase (endWait_lineBase _)))
  | viewSettleEnd => exact atTimesOf_ite (settleOver_clockBase s)
  | trackTimeout t => exact atTimesOf_ite rfl
  | restateTimer => exact atTimesOf_ite (restate_clockBase s)
  | takeHoldoffEnd => exact atTimesOf_ite (clockBase_congr (takeTest_clock s) (takeTest_pending s))
  | homingTimeout => exact atTimesOf_ite (enterFault_clockBase 8 _)
  | peerSilent st => exact execPeerSilent_atTimesOf st s
  | peerRemoved st => exact execPeerRemoved_atTimesOf st s
  | waitingLimit => exact execWaitingLimit_atTimesOf s
  | holdOpenLimit => exact execHoldOpenLimit_atTimesOf s
  | segmentEnd => exact execSegmentEnd_atTimesOf s
  | fadeComplete => exact execFadeComplete_atTimesOf s
  | reliefDeadline t => exact execReliefDeadline_atTimesOf t s
  | holderLapse t st => exact execHolderLapse_atTimesOf t st s
  | inFrame status pan tilt temperature => exact execInFrame_atTimesOf status pan tilt temperature s

/-- Any other command than a power-on reset and a tick leaves the times, or is a BEACON's and makes its step test
(R25, R27). -/
theorem exec_times_or_stepped {s t : State} {c : Instr} (h : exec c s = .next t) (hr : c ≠ .powerOnReset)
    (ht : c ≠ .tick) : t.times = s.times ∨ ∃ f, CarriesBeacon s c f ∧ t.clockBase = s.clockBase.stepped f := by
  by_cases hb : ∃ st f, c = .beacon st f
  · obtain ⟨st, f, rfl⟩ := hb
    obtain ⟨u, hu, hcase⟩ := execBeacon_cases st f s
    obtain rfl : u = t := Host.Outcome.next.inj (hu.symm.trans h)
    exact hcase.imp times_of_clockBase (fun hs => ⟨f, ⟨st, .inl rfl⟩, hs⟩)
  · by_cases hs : c = .transmissionSuccess
    · subst hs
      obtain ⟨u, hu, hcase⟩ := execTransmissionSuccess_cases s
      obtain rfl : u = t := Host.Outcome.next.inj (hu.symm.trans h)
      exact hcase.imp times_of_clockBase id
    · have hk := exec_times s c hr ht (fun st f he => hb ⟨st, f, he⟩) hs
      rw [h] at hk
      exact .inl hk

/-! ### The tick (R25) -/

theorem profileTick_times (s : State) : (profileTick s).times = s.times := by
  unfold profileTick
  split
  · rfl
  · split <;> rfl

theorem fadeTick_times (s : State) : (fadeTick s).times = s.times := by
  unfold fadeTick
  split
  · rfl
  · split <;> rfl

theorem tickWork_times (s : State) : (tickWork s).times = (s.clock.linkClock + 1, s.clock.tickCount + 1) :=
  (fadeTick_times _).trans (profileTick_times (frameSync (advanceClocks s)))

theorem exec_tick_of_not_reset {s : State} (h : s.station.mode ≠ .reset) : exec .tick s = .next (tickWork s) :=
  congrArg Host.Outcome.next (if_neg h)

/-- Settles O57: the times are written by a power-on reset and by a tick, and else, as the cases of `exec_times_or_stepped`
say, by the step test alone, which goes forward. -/
theorem clockOnlyForward : Obligations.ClockOnlyForward := by
  intro s t c h
  refine ⟨?_, ?_, ?_⟩
  · rintro rfl
    obtain rfl := Host.Outcome.next.inj h
    exact ⟨rfl, rfl⟩
  · rintro rfl hm
    obtain rfl := Host.Outcome.next.inj ((exec_tick_of_not_reset hm).symm.trans h)
    have hw := tickWork_times s
    exact ⟨congrArg Prod.fst hw, congrArg Prod.snd hw⟩
  · intro hr ht
    rcases exec_times_or_stepped h hr ht with hk | ⟨f, ⟨st, hc⟩, hs⟩
    · exact ⟨congrArg Prod.snd hk, .inl (congrArg Prod.fst hk)⟩
    · have hlink : t.clock.linkClock = (s.clockBase.stepped f).linkClock := congrArg ClockBase.linkClock hs
      refine ⟨(congrArg ClockBase.tickCount hs).trans (stepped_tickCount f _), ?_⟩
      rcases stepped_forward f s.clockBase with hkept | ⟨hstep, hlt⟩
      · exact .inl (hlink.trans hkept)
      · exact .inr ⟨st, f, hc, hlink.trans hstep, hlt⟩

end Sys2Proof.Machine
end

section
/-! SUPPORT. What the blocks leave of the status line, the line state and the beacon timer: a change of mode writes all three
as the new mode gives them, and every other operation leaves the mode and the status line, keeps a line that is on on and one
that is OFF off, and keeps a beacon timer that runs running and one that is STOPPED stopped (R3, R38, R192).

The invariant reads four fields. A state that differs from `s` in other fields alone meets it by `h : ModeInv s`, up to
unfolding; `by exact h` passes `h` for such a state where the goal, and not `h`, has to name it. -/

namespace Sys2Proof.Machine

/-! ### What states of one mode share -/

/-- States with one station control and one clock, the line OFF in both or in neither, meet the invariant together. -/
theorem modeInv_congr {s t : State} (hst : t.station = s.station) (hc : t.clock = s.clock)
    (hl : t.link.lineState = .off ↔ s.link.lineState = .off) (h : ModeInv s) : ModeInv t := by
  simpa only [ModeInv, hst, hc, hl] using h

/-- An operation that keeps the line base meets the invariant with station control and the clock left. -/
theorem modeInv_of_lineBase {s t : State} (hb : t.lineBase = s.lineBase) (hst : t.station = s.station)
    (hc : t.clock = s.clock) (h : ModeInv s) : ModeInv t :=
  modeInv_congr hst hc (by rw [lineState_of_lineBase hb]) h

/-- A line that is on goes to any other state but OFF (R3). -/
theorem modeInv_of_lineOn {s t : State} (h : ModeInv s) (hs : s.link.lineState ≠ .off) (ht : t.link.lineState ≠ .off)
    (hst : t.station = s.station) (hc : t.clock = s.clock) : ModeInv t :=
  modeInv_congr hst hc (iff_of_false ht hs) h

theorem modeInv_ite {s t : State} {p : Prop} [Decidable p] (hs : p → ModeInv s) (ht : ModeInv t) :
    ModeInv (if p then s else t) := by
  split
  · exact hs ‹p›
  · exact ht

/-- What each step of a fold keeps, the fold keeps. -/
theorem foldl_modeInv {α : Type} {f : State → α → State} (hf : ∀ s a, ModeInv s → ModeInv (f s a)) (l : List α)
    {s : State} (h : ModeInv s) : ModeInv (l.foldl f s) :=
  List.foldlRecOn (motive := ModeInv) l f h (fun t ht a _ => hf t a ht)

/-! ### A change of mode (R3, R38, R192) -/

theorem lineFor_eq_off_iff (m : StationMode) (l : LineState) : lineFor m l = .off ↔ m.linkOff = true := by
  by_cases hm : m.linkOff = true
  · simp [lineFor, hm]
  · by_cases hl : l = .off <;> simp [lineFor, hm, hl]

theorem enterLine_lineState (m : StationMode) (k : LinkState) : (enterLine m k).lineState = lineFor m k.lineState := by
  unfold enterLine
  split
  · rfl
  · rename_i h
    obtain ⟨hm, hl⟩ : m.linkOff = false ∧ k.lineState ≠ .off := by simpa using h
    simp [lineFor, hm, hl]

theorem setMode_lineState (m : StationMode) (s : State) : (setMode m s).link.lineState = lineFor m s.link.lineState := by
  unfold setMode
  dsimp only
  split
  · exact enterLine_lineState m s.link
  · exact (lineState_of_lineBase (offer_lineBase .beacon _)).trans (enterLine_lineState m s.link)

/-- A change of mode leaves a state that meets the invariant, whatever state it finds. -/
theorem setMode_modeInv (m : StationMode) (s : State) : ModeInv (setMode m s) := by
  refine ⟨?_, ?_, ?_⟩
  · rw [setMode_station]
  · rw [setMode_lineState, setMode_station]
    exact lineFor_eq_off_iff m _
  · rw [setMode_beaconTimer, setMode_station]
    cases m.linkOff <;> simp

section
variable {s : State} (h : ModeInv s)
include h

/-! ### Offers, requests and lowerings -/

theorem toldDrop_modeInv (b : TxBody) : ModeInv (toldDrop b s) :=
  modeInv_of_lineBase (toldDrop_lineBase b s) (toldDrop_station b s) (toldDrop_clock b s) h

theorem offer_modeInv (b : TxBody) : ModeInv (offer b s) :=
  modeInv_of_lineBase (offer_lineBase b s) (offer_station b s) (offer_clock b s) h

theorem request_modeInv (w : Nat) (r : Reason) (p : Purpose) : ModeInv (request w r p s) :=
  modeInv_of_lineBase (request_lineBase w r p s) (request_station w r p s) (request_clock w r p s) h

theorem lowerAfterEnd_modeInv : ModeInv (lowerAfterEnd s) :=
  modeInv_of_lineBase (lowerAfterEnd_lineBase s) (lowerAfterEnd_station s) (lowerAfterEnd_clock s) h

theorem lowerFrom_modeInv (u : State) : ModeInv (lowerFrom u s) := by
  rcases lowerFrom_eq u s with hu | hu <;> rw [hu]
  · exact h
  · exact lowerAfterEnd_modeInv h

theorem freshen_modeInv : ModeInv (freshen s) :=
  modeInv_of_lineBase (freshen_lineBase s) (freshen_station s) (freshen_clock s) h

theorem endPurpose_modeInv (p : Purpose) : ModeInv (endPurpose p s) :=
  modeInv_of_lineBase (endPurpose_lineBase p s) (endPurpose_station p s) (endPurpose_clock p s) h

/-! ### Ends of calls -/

theorem endCall_modeInv (id : Word16) (o : CallOutcome) : ModeInv (endCall id o s) :=
  modeInv_of_lineBase (endCall_lineBase id o s) (endCall_station id o s) (endCall_clock id o s) h

theorem endCalls_modeInv (o : CallOutcome) (ids : List Word16) : ModeInv (endCalls o ids s) :=
  endCalls_induction (P := ModeInv) o (fun id _ ht => endCall_modeInv ht id o) ids s h

theorem endIfComplete_modeInv (id : Word16) : ModeInv (endIfComplete id s) := by
  rcases endIfComplete_cases id s with he | he <;> rw [he]
  · exact h
  · exact endCall_modeInv h id .done

theorem finishIfComplete_modeInv (id : Word16) : ModeInv (finishIfComplete id s) :=
  lowerFrom_modeInv (endIfComplete_modeInv h id) s

/-! ### Planning and the next call -/

theorem recordPlan_modeInv (id : Word16) (pl : Plan) (cap : Nat) : ModeInv (recordPlan id pl cap s) :=
  request_modeInv (by exact h) _ _ _

theorem planCall_modeInv (id : Word16) : ModeInv (planCall id s) := by
  unfold planCall
  split
  · exact h
  · exact recordPlan_modeInv (by exact h) _ _ _

theorem replanCall_modeInv (id : Word16) : ModeInv (replanCall id s) := by
  unfold replanCall
  split
  · exact h
  · split
    · exact h
    · exact recordPlan_modeInv h _ _ _

theorem planAgain_modeInv : ModeInv (planAgain s) :=
  foldl_modeInv (fun _ id ht => planCall_modeInv ht id) _ h

theorem withdrawCall_modeInv (id : Word16) : ModeInv (withdrawCall id s) :=
  endPurpose_modeInv (by exact h) _

theorem withdrawOthers_modeInv (id : Word16) : ModeInv (withdrawOthers id s) :=
  foldl_modeInv (f := fun s i => withdrawCall i s) (fun _ i ht => withdrawCall_modeInv ht i) _ h

theorem review_modeInv : ModeInv (review s) := by
  unfold review
  split
  · exact h
  · split
    · exact h
    · have hw := withdrawOthers_modeInv h
      exact modeInv_ite (fun _ => planCall_modeInv (hw _) _) (hw _)

/-! ### The start of a call -/

theorem beginNext_modeInv (id : Word16) : ModeInv (beginNext id s) := by
  unfold beginNext
  split
  · exact h
  · split <;> exact h

theorem startColour_modeInv (c : ColourPart) (k : Nat) (o : FadeOwner) : ModeInv (startColour c k o s) :=
  modeInv_congr (startFade_station ..) (startFade_clock ..) (by simp [startColour]) h

theorem startCallFade_modeInv (r : CallRecord) : ModeInv (startCallFade r s) := by
  unfold startCallFade
  split
  · exact h
  · exact startColour_modeInv h _ _ _

theorem startCall_modeInv (id : Word16) : ModeInv (startCall id s) := by
  unfold startCall
  split
  · exact h
  · exact endIfComplete_modeInv (beginNext_modeInv (startCallFade_modeInv (by exact h) _) _) _

/-! ### Grants and the close of an event -/

theorem offerLanding_modeInv (id : Word16) : ModeInv (offerLanding id s) := by
  unfold offerLanding
  split
  · exact h
  · split
    · exact modeInv_ite (fun _ => offer_modeInv (by exact h) _) h
    all_goals exact h

theorem grantCall_modeInv (id : Word16) : ModeInv (grantCall id s) := by
  unfold grantCall
  split
  · exact h
  · split
    · exact offerLanding_modeInv (by exact h) id
    · exact startCall_modeInv h id
    all_goals exact h

theorem grantRole_modeInv (w : Nat) : ModeInv (grantRole w s) := by
  unfold grantRole
  split
  · exact h
  · exact modeInv_ite (fun _ => h) h

theorem tellGrant_modeInv (p : Purpose) (w : Nat) : ModeInv (tellGrant p w s) := by
  cases p with
  | homing => exact modeInv_ite (fun _ => setMode_modeInv .homing _) h
  | follow => exact grantRole_modeInv h w
  | lowering => exact h
  | move id => exact grantCall_modeInv h id

theorem askFollow_modeInv : ModeInv (askFollow s) := by
  unfold askFollow
  split
  · exact h
  · exact request_modeInv h _ _ _

theorem askAgain_modeInv (p : Purpose) : ModeInv (askAgain p s) := by
  cases p with
  | homing => exact modeInv_ite (fun _ => request_modeInv h _ _ _) h
  | follow =>
    simp only [askAgain]
    split
    · exact h
    · exact modeInv_ite (fun _ => askFollow_modeInv h) h
  | lowering => exact h
  | move id =>
    simp only [askAgain]
    split
    · exact h
    · exact modeInv_ite (fun _ => replanCall_modeInv h id) h

theorem rearm_modeInv : ModeInv (rearm s) := by
  unfold rearm
  split
  · exact h
  · exact foldl_modeInv (fun _ p ht => askAgain_modeInv ht p) _ (by exact h)

theorem tell_modeInv (n : Notice) : ModeInv (tell n s) := by
  cases n with
  | granted p w => exact tellGrant_modeInv h p w
  | rearm => exact rearm_modeInv h

omit h in
theorem settle_modeInv (n : Nat) {s : State} (h : ModeInv s) : ModeInv (settle n s) := by
  induction n generalizing s with
  | zero => exact h
  | succ n ih =>
    unfold settle
    split
    · exact ih (freshen_modeInv h)
    · split
      · exact h
      · exact ih (lowerFrom_modeInv (tell_modeInv (by exact h) _) _)

omit h in
theorem tellSoFar_modeInv (n : Nat) {s : State} (h : ModeInv s) : ModeInv (tellSoFar n s) := by
  induction n generalizing s with
  | zero => exact h
  | succ n ih =>
    unfold tellSoFar
    split
    · exact h
    · exact ih (tell_modeInv (by exact h) _)

theorem conclude_modeInv : ModeInv (conclude s) :=
  have ht := settle_modeInv settleFuel h
  modeInv_ite (fun _ => settle_modeInv settleFuel (review_modeInv ht)) ht

theorem closeEvent_modeInv : ModeInv (closeEvent s) := conclude_modeInv (review_modeInv h)

/-! ### Go (R51 to R55) -/

theorem landingGo_modeInv (id : Word16) (planned : Bool) : ModeInv (landingGo id planned s) := by
  unfold landingGo
  split <;> exact h

theorem preempt_modeInv (lowers : Bool) (id : Word16) : ModeInv (preempt lowers id s) :=
  have he := endCalls_modeInv h .cut (s.preempted id)
  modeInv_ite (fun _ => lowerAfterEnd_modeInv he) he

theorem startFollow_modeInv (r : CallRecord) : ModeInv (startFollow r s) := by
  unfold startFollow
  dsimp only
  split
  · exact h
  · exact askFollow_modeInv (by exact h)

theorem planAtGo_modeInv (id : Word16) : ModeInv (planAtGo id s) :=
  planCall_modeInv (withdrawOthers_modeInv (by exact h) id) id

theorem goEffect_modeInv (r : CallRecord) : ModeInv (goEffect r s) := by
  have hmove : ModeInv (if r.chain.isEmpty then enterWaiting r.callId s else planAtGo r.callId s) :=
    modeInv_ite (fun _ => h) (planAtGo_modeInv h _)
  unfold goEffect
  split
  · exact startCall_modeInv h _
  · exact h
  · split
    · exact startFollow_modeInv h r
    · exact planAtGo_modeInv h _
    · exact hmove
    · exact hmove
  all_goals exact h

theorem passGo_modeInv (lowers : Bool) (r : CallRecord) : ModeInv (passGo lowers r s) :=
  tellSoFar_modeInv _ (goEffect_modeInv (landingGo_modeInv (preempt_modeInv (by exact h) _ _) _ _) r)

theorem goOne_modeInv (rest : List Word16) (id : Word16) : ModeInv (goOne rest id s) := by
  unfold goOne
  split
  · exact h
  · have hp := passGo_modeInv h
    exact modeInv_ite (fun _ => lowerAfterEnd_modeInv (hp _ _)) (hp _ _)

theorem goTests_modeInv : ModeInv (goTests s) :=
  goAll_induction (P := ModeInv) (fun rest id _ ht => goOne_modeInv ht rest id) _ s h

theorem clockTests_modeInv : ModeInv (clockTests s) :=
  modeInv_ite (fun _ => closeEvent_modeInv (goTests_modeInv h)) h

/-! ### Waits, changes of mode and faults -/

theorem endWait_modeInv : ModeInv (endWait s) := by
  unfold endWait
  split
  · exact h
  · split
    · exact h
    · split
      · exact replanCall_modeInv (by exact h) _
      · exact askFollow_modeInv (by exact h)
      · exact request_modeInv (by exact h) _ _ _
      · exact request_modeInv h _ _ _

theorem headroomRise_modeInv : ModeInv (headroomRise s) := by
  unfold headroomRise
  split
  · exact h
  · exact modeInv_ite (fun _ => endWait_modeInv h) h

theorem endWaitNow_modeInv : ModeInv (endWaitNow s) := by
  unfold endWaitNow
  split
  · exact h
  · exact modeInv_ite (fun _ => endWait_modeInv h) h

theorem enterSolo_modeInv : ModeInv (enterSolo s) := modeInv_ite (fun _ => h) h

omit h in
theorem enterIsolated_modeInv (s : State) : ModeInv (enterIsolated s) :=
  have hcut := endCalls_modeInv (setMode_modeInv .isolated { s with station.faultCode := 9 }) .cut
    ((isolatedMode s).callIds CallRecord.carriedOut)
  closeEvent_modeInv (planAgain_modeInv (enterSolo_modeInv (by exact hcut)))

omit h in
theorem leaveIsolated_modeInv (s : State) : ModeInv (leaveIsolated s) :=
  closeEvent_modeInv (endWaitNow_modeInv (setMode_modeInv .ready _))

omit h in
theorem enterReady_modeInv (s : State) : ModeInv (enterReady s) :=
  modeInv_ite (fun _ => enterIsolated_modeInv _) (closeEvent_modeInv (goTests_modeInv (setMode_modeInv .ready _)))

theorem faultPower_modeInv : ModeInv (faultPower s) := request_modeInv (by exact h) _ _ _

theorem enterFault_modeInv (code : Nat) : ModeInv (enterFault code s) := by
  unfold enterFault
  split
  · have hmode : ModeInv (haltMotion (dark (setMode .faulted { s with station.faultCode := code }))) :=
      setMode_modeInv .faulted _
    exact conclude_modeInv (faultPower_modeInv (endCalls_modeInv hmode .cut _))
  · exact h

theorem loseLink_modeInv : ModeInv (loseLink s) :=
  modeInv_ite (fun _ => h) (modeInv_ite (fun _ => enterIsolated_modeInv _) h)

theorem checkMarks_modeInv : ModeInv (checkMarks s) :=
  modeInv_ite (fun _ => modeInv_ite (fun _ => leaveIsolated_modeInv _) h) h

theorem markReceive_modeInv : ModeInv (markReceive s) := checkMarks_modeInv (by exact h)

theorem markSend_modeInv : ModeInv (markSend s) := checkMarks_modeInv (by exact h)

/-! ### Holder lists and the own role -/

theorem setPhase_modeInv (p : RolePhase) : ModeInv (setPhase p s) := by
  unfold setPhase
  split <;> exact h

theorem becomeCandidate_modeInv : ModeInv (becomeCandidate s) := setPhase_modeInv (by exact h) _

theorem offerHold_modeInv (r : Role) : ModeInv (offerHold r s) := offer_modeInv (by exact h) _

theorem offerYield_modeInv (t n : Nat) : ModeInv (offerYield t n s) := offer_modeInv h _

theorem ownReact_modeInv (b : OwnEntry) : ModeInv (ownReact b s) := by
  unfold ownReact
  split
  · exact h
  · split
    · exact h
    · split
      · exact setPhase_modeInv h _
      · exact offerHold_modeInv (setPhase_modeInv h _) _
      · exact offerYield_modeInv (becomeCandidate_modeInv h) _ _
      · exact becomeCandidate_modeInv h
      all_goals exact h

theorem selfYield_modeInv : ModeInv (selfYield s) := by
  unfold selfYield
  split
  · exact h
  · exact modeInv_ite (fun _ => offerYield_modeInv (becomeCandidate_modeInv (by exact h)) _ _) h

theorem takeTest_modeInv : ModeInv (takeTest s) := by
  unfold takeTest
  split
  · exact h
  · exact modeInv_ite (fun _ => offer_modeInv (by exact h) _) h

theorem coverTests_modeInv : ModeInv (coverTests s) := takeTest_modeInv (selfYield_modeInv h)

theorem changeHolders_modeInv (t : Nat) (l : List Holder) : ModeInv (changeHolders t l s) :=
  have hr : ModeInv (ownReact s.ownEntry (setHolders t l s)) := ownReact_modeInv (by exact h) _
  modeInv_ite (fun _ => modeInv_ite (fun _ => hr) (coverTests_modeInv hr)) h

theorem stationGone_modeInv (st : Byte) : ModeInv (stationGone st s) :=
  have hr : ModeInv (ownReact s.ownEntry (dropFromLists st s)) := ownReact_modeInv (by exact h) _
  modeInv_ite (fun _ => hr) (coverTests_modeInv hr)

theorem ownAdded_modeInv (f : CoverFields) : ModeInv (ownAdded f s) := by
  unfold ownAdded
  dsimp only
  split
  · exact offerYield_modeInv (by exact h) _ _
  · split
    · exact startColour_modeInv (setPhase_modeInv h _) _ _ _
    · exact offerYield_modeInv (by exact h) _ _

theorem applyCover_modeInv (own : Bool) (st : Byte) (f : CoverFields) : ModeInv (applyCover own st f s) := by
  unfold applyCover
  split
  · exact h
  · dsimp only
    split
    · have ha (t : Nat) (l : List Holder) (k : CoverCounters) :
          ModeInv (ownAdded f (setHolders t l { s with cover.counters := k })) := ownAdded_modeInv (by exact h) f
      exact modeInv_ite (fun _ => coverTests_modeInv (ha _ _ _)) (ha _ _ _)
    · exact changeHolders_modeInv (by exact h) _ _

theorem followTrack_modeInv (r : Role) (f : TrackFields) : ModeInv (followTrack r f s) := by
  unfold followTrack
  split
  · exact h
  · exact modeInv_ite (fun _ => coverTests_modeInv (by exact h)) h

theorem applyTrack_modeInv (f : TrackFields) : ModeInv (applyTrack f s) := by
  unfold applyTrack
  split
  · exact h
  · dsimp only
    split
    · exact h
    · exact modeInv_ite (fun _ => followTrack_modeInv (by exact h) _ f) h

/-! ### The peer table and the clock step -/

theorem createPeer_modeInv (p : Peer) : ModeInv (createPeer p s) := by
  unfold createPeer
  split
  · exact h
  · split
    · split
      · exact modeInv_ite (fun _ => stationGone_modeInv (by exact h) _) h
      · exact h
    · exact h

theorem peerStage_modeInv (fr : Frame) : ModeInv (peerStage fr s) := by
  have hrise (st : Byte) (f : Peer → Peer) : ModeInv (headroomRise (updatePeer st f s)) :=
    headroomRise_modeInv (by exact h)
  unfold peerStage
  split
  case h_1 f =>
    unfold beaconPeer
    split
    · exact createPeer_modeInv h _
    · exact modeInv_ite (fun _ => hrise _ _) h
  case h_2 f =>
    unfold claimPeer
    split
    · exact createPeer_modeInv h _
    · exact modeInv_ite (fun _ => hrise _ _) h
  all_goals exact h

theorem clockStep_modeInv (f : BeaconFields) : ModeInv (clockStep f s) :=
  modeInv_ite (fun _ => clockTests_modeInv (by exact h)) h

theorem statedClaim_modeInv (st : Byte) (f : BeaconFields) (existed : Bool) : ModeInv (statedClaim st f existed s) := by
  unfold statedClaim
  split
  · exact h
  · exact modeInv_ite (fun _ => headroomRise_modeInv (by exact h)) h

theorem applyBeacon_modeInv (st : Byte) (f : BeaconFields) (existed : Bool) : ModeInv (applyBeacon st f existed s) :=
  statedClaim_modeInv (clockStep_modeInv h f) st f existed

/-! ### Frames of the other kinds -/

theorem testPeerClaim_modeInv (st : Byte) (f : ClaimFields) : ModeInv (testPeerClaim st f s).1 := by
  unfold testPeerClaim
  split
  · exact h
  · split <;> exact h

theorem applyClaim_modeInv (st : Byte) (f : ClaimFields) : ModeInv (applyClaim st f s) :=
  have ht := testPeerClaim_modeInv h st f
  modeInv_ite (fun _ => headroomRise_modeInv ht) ht

theorem settleRound_modeInv (f : ClaimFields) (granted : Bool) : ModeInv (settleRound f granted s) := by
  unfold settleRound
  split
  · exact h
  · exact modeInv_ite (fun _ => modeInv_ite (fun _ => h) h) (modeInv_ite (fun _ => h) h)

theorem ownClaimReadback_modeInv (f : ClaimFields) : ModeInv (ownClaimReadback f s) :=
  modeInv_ite (fun _ => h)
    (modeInv_ite (fun _ => settleRound_modeInv (by exact h) f true) (settleRound_modeInv (by exact h) f false))

theorem applyOffer_modeInv (f : OfferFields) : ModeInv (applyOffer f s) := by
  have htake : ModeInv (takeOffer f s) := by
    unfold takeOffer
    split
    · exact h
    · exact modeInv_ite (fun _ => h) (modeInv_ite (fun _ => h) h)
  exact modeInv_ite (fun _ => htake) h

omit h in
/-- A RESTART ends in CONFIG, its line OFF and its beacon timer STOPPED, whatever state it finds (R191). -/
theorem performRestart_modeInv (s : State) : ModeInv (performRestart s) := setMode_modeInv .config (dark (haltMotion s))

theorem stopStation_modeInv (f : StopFields) : ModeInv (stopStation f s) := by
  have hcalls := endCalls_modeInv h .cut s.stopped
  unfold stopStation
  refine modeInv_ite (fun _ => performRestart_modeInv _) ?_
  have hdark (i : Intake) (t : State) (ht : ModeInv t) :
      ModeInv (if f.blackout then blackout { t with store.intake := i } else { t with store.intake := i }) :=
    modeInv_ite (fun _ => ht) ht
  exact modeInv_ite (fun _ => lowerAfterEnd_modeInv (hdark _ _ hcalls)) (hdark _ _ hcalls)

theorem applyStop_modeInv (f : StopFields) : ModeInv (applyStop f s) := modeInv_ite (fun _ => stopStation_modeInv h f) h

theorem addCall_modeInv (f : CallFields) (arrival : Nat) : ModeInv (addCall f arrival s) := modeInv_ite (fun _ => h) h

theorem lateTests_modeInv (f : CallFields) : ModeInv (lateTests f s) := modeInv_ite (fun _ => goTests_modeInv h) h

theorem supersedeCall_modeInv (f : CallFields) (old : CallRecord) : ModeInv (supersedeCall f old s) := by
  have hadd (k : Nat) :
      ModeInv (addCall f old.arrival { endCall f.callId .cut s with store.counters.superseded := k }) :=
    addCall_modeInv (by exact endCall_modeInv h f.callId .cut) f _
  exact closeEvent_modeInv (lateTests_modeInv (modeInv_ite (fun _ => hadd _) (lowerAfterEnd_modeInv (hadd _))) f)

theorem applyCall_modeInv (f : CallFields) : ModeInv (applyCall f s) := by
  unfold applyCall
  split
  case h_6 old _ => exact supersedeCall_modeInv h f old
  case h_7 => exact closeEvent_modeInv (lateTests_modeInv (addCall_modeInv (by exact h) f _) f)
  all_goals exact h

theorem noteRequested_modeInv (id : Word16) (n : Nat) : ModeInv (noteRequested id n s) := by
  unfold noteRequested
  split <;> exact h

theorem segmentEffect_modeInv (r : CallRecord) : ModeInv (segmentEffect r s) := by
  unfold segmentEffect
  split
  · exact modeInv_ite (fun _ => planCall_modeInv h _) h
  · exact beginNext_modeInv (by exact h) _
  all_goals exact h

theorem applySegment_modeInv (f : SegmentFields) : ModeInv (applySegment f s) := by
  unfold applySegment
  split
  case h_7 r _ => exact closeEvent_modeInv (segmentEffect_modeInv (noteRequested_modeInv (by exact h) _ _) r)
  all_goals exact h

theorem clearPage_modeInv (page : Nat) : ModeInv (clearPage page s) := by
  unfold clearPage
  split <;> exact h

theorem offerPart_modeInv (n : Snapshot) : ModeInv (offerPart n s) := offer_modeInv (by exact h) _

theorem newSnapshot_modeInv (page : Nat) (clear : Bool) : ModeInv (newSnapshot page clear s) :=
  have hp := offerPart_modeInv h ⟨page, pageBytes page s, 0⟩
  modeInv_ite (fun _ => clearPage_modeInv hp page) hp

theorem applyProbe_modeInv (f : ProbeFields) : ModeInv (applyProbe f s) := by
  unfold applyProbe
  split
  · exact h
  · split
    · exact newSnapshot_modeInv h _ _
    · exact modeInv_ite (fun _ => offerPart_modeInv h _) (newSnapshot_modeInv h _ _)

/-! ### The drive port, the peer unit's times and the other timers -/

theorem absentFrame_modeInv : ModeInv (absentFrame s) :=
  modeInv_ite (fun _ => modeInv_ite (fun _ => enterFault_modeInv (by exact h) 6) h) h

theorem takeTemperature_modeInv (tau : Int) : ModeInv (takeTemperature tau s) := by
  unfold takeTemperature
  split <;> exact h

theorem handTemperature_modeInv (tau : Int) : ModeInv (handTemperature tau s) :=
  have ht := takeTemperature_modeInv h tau
  modeInv_ite (fun _ => enterFault_modeInv ht 7) ht

theorem followEncoders_modeInv (enc : Int × Int) : ModeInv (followEncoders enc s) := modeInv_ite (fun _ => h) h

theorem onTargetTest_modeInv (enc : Int × Int) : ModeInv (onTargetTest enc s) := by
  unfold onTargetTest
  split
  · exact modeInv_ite (fun _ => offerHold_modeInv (by exact h) _) h
  all_goals exact h

theorem homingCheck_modeInv : ModeInv (homingCheck s) := modeInv_ite (fun _ => enterReady_modeInv s) h

theorem driveChecks_modeInv (m : StationMode) (status : Slot) (enc : Int × Int) :
    ModeInv (driveChecks m status enc s) := by
  unfold driveChecks
  split
  · dsimp only
    split
    · exact enterFault_modeInv (by exact h) _
    · exact h
  · exact h

theorem presentFrame_modeInv (status : Slot) (enc : Int × Int) (tau : Int) : ModeInv (presentFrame status enc tau s) :=
  have hhand := handTemperature_modeInv (s := recordFrame status enc s) h tau
  driveChecks_modeInv (homingCheck_modeInv (onTargetTest_modeInv (followEncoders_modeInv hhand enc) enc)) _ status enc

theorem removePeer_modeInv (p : Peer) : ModeInv (removePeer p s) :=
  modeInv_ite (fun _ => conclude_modeInv (headroomRise_modeInv (by exact h))) h

/-- The beacon timer restarts only where it is not STOPPED already (R38). -/
theorem beaconNow_modeInv (hon : s.clock.beaconTimer.isSome = true) : ModeInv (beaconNow s) := by
  obtain ⟨hstatus, hline, htimer⟩ := h
  have hmode : s.station.mode.linkOff ≠ true := fun hoff => by simp [htimer.mpr hoff] at hon
  exact offer_modeInv (s := { s with clock.beaconTimer := some Config.beaconInterval })
    ⟨hstatus, hline, iff_of_false (Option.some_ne_none _) hmode⟩ .beacon

theorem offerHeld_modeInv : ModeInv (offerHeld s) := by
  unfold offerHeld
  split
  · exact h
  · exact modeInv_ite (fun _ => offer_modeInv (by exact h) _) h

theorem settleOver_modeInv : ModeInv (settleOver s) :=
  modeInv_ite (fun _ => enterReady_modeInv _) (offerHeld_modeInv (by exact h))

theorem restate_modeInv : ModeInv (restate s) := by
  unfold restate
  split
  · exact h
  · exact modeInv_ite (fun _ => offerHold_modeInv h _) h

/-! ### The call store's events -/

theorem expireCall_modeInv (o : CallOutcome) (r : CallRecord) : ModeInv (expireCall o r s) :=
  closeEvent_modeInv (lowerAfterEnd_modeInv (endCall_modeInv h _ o))

theorem chainOn_modeInv (id : Word16) : ModeInv (chainOn id s) := by
  unfold chainOn
  split
  · exact h
  · exact modeInv_ite (fun _ => beginNext_modeInv h id)
      (modeInv_ite (fun _ => finishIfComplete_modeInv (by exact h) id) h)

theorem segmentOver_modeInv (m : Motion) : ModeInv (segmentOver m s) := by
  unfold segmentOver
  split
  · exact h
  · exact closeEvent_modeInv (chainOn_modeInv h _)

theorem fadeOver_modeInv (f : Fade) : ModeInv (fadeOver f s) := by
  unfold fadeOver
  dsimp only
  split
  · exact h
  · exact closeEvent_modeInv (finishIfComplete_modeInv (by exact h) _)

/-! ### The tick (R25) -/

theorem profileTick_modeInv : ModeInv (profileTick s) := by
  unfold profileTick
  split
  · exact h
  · exact modeInv_ite (fun _ => h) h

theorem fadeTick_modeInv : ModeInv (fadeTick s) := by
  unfold fadeTick
  split
  · exact h
  · exact modeInv_ite (fun _ => h) h

omit h in
theorem countDown_eq_none_iff (o : Option Nat) : countDown o = none ↔ o = none := by
  cases o <;> simp [countDown]

/-- A beacon timer that is STOPPED stays so, and one that runs is not stopped by its end (R38). -/
theorem timersTick_modeInv : ModeInv (timersTick s) := by
  obtain ⟨hstatus, hline, htimer⟩ := h
  exact ⟨hstatus, hline, (countDown_eq_none_iff _).trans htimer⟩

theorem tickWork_modeInv : ModeInv (tickWork s) :=
  timersTick_modeInv (fadeTick_modeInv (profileTick_modeInv (by exact h)))

/-! ### Arrivals and the readback (R3, R5, R10) -/

omit h in
theorem receiving_of_receives {bytes : List Byte} {fault : Option SymbolFault} {s : State}
    (hr : s.receives bytes fault = true) : s.link.lineState = .receiving :=
  eq_of_beq (Bool.and_eq_true_iff.mp hr).1

omit h in
theorem lineOn_of_onLine {k : LinkState} (hon : k.onLine = true) : k.lineState ≠ .off := by
  intro hoff
  simp [LinkState.onLine, hoff] at hon

theorem discardFrame_modeInv (hs : s.link.lineState = .receiving) (r : DiscardReason) (levels : List Bool) :
    ModeInv (discardFrame r levels s) :=
  modeInv_of_lineOn h (by simp [hs]) (by simp [discardFrame, toWaitIdle]) rfl rfl

theorem countReceived_modeInv (hs : s.link.lineState = .receiving) (levels : List Bool) :
    ModeInv (countReceived levels s) :=
  modeInv_of_lineOn h (by simp [hs]) (by simp [countReceived, toWaitIdle]) rfl rfl

/-- An arrival meets the invariant where the blocks of its kind do. -/
theorem receiveFrame_modeInv {fr : Frame} {act : State → State} (hact : ∀ u, ModeInv u → ModeInv (act u)) :
    ModeInv (receiveFrame fr act s) := by
  unfold receiveFrame
  split
  · have hs := receiving_of_receives ‹_›
    split
    · exact discardFrame_modeInv h hs _ _
    · exact conclude_modeInv (hact _ (peerStage_modeInv (markReceive_modeInv (countReceived_modeInv h hs _)) fr))
  · exact h

theorem dispatchOwn_modeInv (fr : Frame) : ModeInv (dispatchOwn fr s) := by
  unfold dispatchOwn
  split
  · exact ownClaimReadback_modeInv h _
  · exact applyCover_modeInv h _ _ _
  · exact applyOffer_modeInv h _
  · exact clockStep_modeInv h _
  all_goals exact h

theorem readbackOwn_modeInv (fr : Frame) : ModeInv (readbackOwn fr s) := modeInv_ite (fun _ => dispatchOwn_modeInv h fr) h

theorem sent_modeInv (hon : s.link.onLine = true) (fr : Frame) : ModeInv (sent fr s) :=
  have hk : ModeInv { s with link := sentLink (lineLevels fr.bytes) s.link } :=
    modeInv_of_lineOn h (lineOn_of_onLine hon) (by simp [sentLink, toWaitIdle]) rfl rfl
  markSend_modeInv hk

/-! ### The own attempt (R8, R9, R20) -/

theorem loseArbitration_modeInv (hs : s.link.lineState = .arbitrating) (fr : Frame) (p : Nat) :
    ModeInv (loseArbitration fr p s) :=
  modeInv_of_lineOn h (by simp [hs]) (by simp [loseArbitration, fallToReceiving]) rfl rfl

theorem afterDrop_modeInv (b : TxBody) : ModeInv (afterDrop b s) :=
  have ht : ModeInv (toldDrop b (countDrop s)) := toldDrop_modeInv (by exact h) b
  modeInv_ite (fun _ => loseLink_modeInv ht) ht

theorem clashAt_modeInv (hon : s.link.onLine = true) (fr : Frame) (p : Nat) : ModeInv (clashAt fr p s) := by
  have hk (q : List TxEntry) : ModeInv { s with link := clashLink fr p q s.link } :=
    modeInv_of_lineOn h (lineOn_of_onLine hon) (by simp [clashLink, fallToReceiving]) rfl rfl
  unfold clashAt
  dsimp only
  split
  · exact hk _
  · exact conclude_modeInv (afterDrop_modeInv (hk _) _)

end

/-! ### Resets and the configuration read (R184, R185, R186) -/

theorem powerOnReset_modeInv (pending : List Instr) : ModeInv { State.reset with pending := pending } :=
  ⟨rfl, iff_of_true rfl rfl, iff_of_true rfl rfl⟩

theorem holdReset_modeInv (s : State) : ModeInv (holdReset s) := setMode_modeInv .reset s

theorem endRead_modeInv (rec : List Byte) (s : State) : ModeInv (endRead rec s) := by
  unfold endRead
  dsimp only
  split
  · exact setMode_modeInv .unconfigured _
  · have hmode (t : State) : ModeInv (setMode .starting t) := setMode_modeInv .starting t
    exact conclude_modeInv (modeInv_ite (fun _ => request_modeInv (hmode _) _ _ _) (hmode _))

/-! ### Every command -/

/-- What a command goes on to, where it goes on, meets the invariant. -/
def GoesOnInMode : Host.Outcome State Fault Refusal → Prop
  | .next t => ModeInv t
  | .fault _ => True
  | .refused _ => True

section
variable {s : State} (h : ModeInv s)
include h

/-- An event that comes under a condition goes on in its mode where its work does. -/
theorem goesOnInMode_ite {t : State} {p : Prop} [Decidable p] (ht : p → ModeInv t) :
    GoesOnInMode (.next (if p then t else s)) := modeInv_ite ht h

/-! #### Commands of the line -/

theorem execLineIdle_goesOnInMode : GoesOnInMode (execLineIdle s) :=
  goesOnInMode_ite h (fun hs => modeInv_of_lineOn h (by simp [hs]) (by simp) rfl rfl)

theorem execFrameStartBit_goesOnInMode : GoesOnInMode (execFrameStartBit s) :=
  goesOnInMode_ite h (fun hs => modeInv_of_lineOn h (by simp [hs]) (by simp) rfl rfl)

theorem execStartOpportunity_goesOnInMode : GoesOnInMode (execStartOpportunity s) := by
  refine goesOnInMode_ite h (fun hs => ?_)
  have hidle : s.link.lineState = .idle := eq_of_beq (Bool.and_eq_true_iff.mp hs).1
  split
  · exact modeInv_of_lineOn h (by simp [hidle]) (by simp [startAttempt]) rfl rfl
  · exact h

theorem execArbitrationLost_goesOnInMode (p : Nat) : GoesOnInMode (execArbitrationLost p s) := by
  unfold execArbitrationLost
  split
  · exact h
  · exact goesOnInMode_ite h (fun hs => loseArbitration_modeInv h hs.1 _ p)

theorem execClash_goesOnInMode (p : Nat) : GoesOnInMode (execClash p s) := by
  unfold execClash
  split
  · exact h
  · exact goesOnInMode_ite h (fun hs => clashAt_modeInv h hs.1 _ p)

theorem execTransmissionSuccess_goesOnInMode : GoesOnInMode (execTransmissionSuccess s) := by
  unfold execTransmissionSuccess
  split
  · exact h
  · exact goesOnInMode_ite h (fun hon => conclude_modeInv (readbackOwn_modeInv (sent_modeInv h hon _) _))

theorem execStuckLine_goesOnInMode : GoesOnInMode (execStuckLine s) :=
  modeInv_ite (fun _ => h) (conclude_modeInv (loseLink_modeInv (by exact h)))

theorem execFrameDiscard_goesOnInMode (bytes : List Byte) (fault : Option SymbolFault) :
    GoesOnInMode (execFrameDiscard bytes fault s) := by
  refine goesOnInMode_ite h (fun hr => ?_)
  split
  · exact discardFrame_modeInv h (receiving_of_receives hr) _ _
  all_goals exact h

/-! #### Commands that look first for what they act on -/

theorem execPeerSilent_goesOnInMode (st : Byte) : GoesOnInMode (execPeerSilent st s) := by
  unfold execPeerSilent
  split
  · exact h
  · exact goesOnInMode_ite h (fun _ => stationGone_modeInv (by exact h) st)

theorem execPeerRemoved_goesOnInMode (st : Byte) : GoesOnInMode (execPeerRemoved st s) := by
  unfold execPeerRemoved
  split
  · exact h
  · exact goesOnInMode_ite h (fun _ => removePeer_modeInv h _)

theorem execWaitingLimit_goesOnInMode : GoesOnInMode (execWaitingLimit s) := by
  unfold execWaitingLimit
  split
  · exact h
  · exact expireCall_modeInv h .dropped _

theorem execHoldOpenLimit_goesOnInMode : GoesOnInMode (execHoldOpenLimit s) := by
  unfold execHoldOpenLimit
  split
  · exact h
  · exact expireCall_modeInv h .short _

theorem execSegmentEnd_goesOnInMode : GoesOnInMode (execSegmentEnd s) := by
  unfold execSegmentEnd
  split
  · exact h
  · exact goesOnInMode_ite h (fun _ => segmentOver_modeInv h _)

theorem execFadeComplete_goesOnInMode : GoesOnInMode (execFadeComplete s) := by
  unfold execFadeComplete
  split
  · exact h
  · exact goesOnInMode_ite h (fun _ => fadeOver_modeInv h _)

theorem execReliefDeadline_goesOnInMode (t : Byte) : GoesOnInMode (execReliefDeadline t s) := by
  unfold execReliefDeadline
  split
  · exact h
  · exact changeHolders_modeInv (by exact h) _ _

theorem execHolderLapse_goesOnInMode (t st : Byte) : GoesOnInMode (execHolderLapse t st s) := by
  unfold execHolderLapse
  split
  · exact h
  · exact goesOnInMode_ite h (fun _ => changeHolders_modeInv (by exact h) _ _)

theorem execBeaconTimer_goesOnInMode : GoesOnInMode (execBeaconTimer s) := by
  refine goesOnInMode_ite h (fun hdue => ?_)
  obtain ⟨hon, -⟩ := Bool.and_eq_true_iff.mp hdue
  exact beaconNow_modeInv (by exact h) hon

theorem execInFrame_goesOnInMode (status pan tilt temperature : Slot) :
    GoesOnInMode (execInFrame status pan tilt temperature s) :=
  modeInv_ite (fun _ => h) (modeInv_ite (fun _ => presentFrame_modeInv h _ _ _) (absentFrame_modeInv h))

/-! #### All of them -/

theorem exec_goesOnInMode (c : Instr) : GoesOnInMode (exec c s) := by
  cases c with
  | powerOnReset => exact powerOnReset_modeInv s.pending
  | resetAsserted => exact holdReset_modeInv s
  | configurationReadEnd bytes => exact goesOnInMode_ite h (fun _ => endRead_modeInv _ s)
  | tick => exact modeInv_ite (fun _ => h) (tickWork_modeInv h)
  | lineIdle => exact execLineIdle_goesOnInMode h
  | frameStartBit => exact execFrameStartBit_goesOnInMode h
  | startOpportunity => exact execStartOpportunity_goesOnInMode h
  | arbitrationLost p => exact execArbitrationLost_goesOnInMode h p
  | clash p => exact execClash_goesOnInMode h p
  | transmissionSuccess => exact execTransmissionSuccess_goesOnInMode h
  | stuckLine => exact execStuckLine_goesOnInMode h
  | frameDiscard bytes fault => exact execFrameDiscard_goesOnInMode h bytes fault
  | stop st f => exact receiveFrame_modeInv h (fun _ hu => applyStop_modeInv hu f)
  | claim st f => exact receiveFrame_modeInv h (fun _ hu => applyClaim_modeInv hu st f)
  | track st f => exact receiveFrame_modeInv h (fun _ hu => applyTrack_modeInv hu f)
  | cover st f => exact receiveFrame_modeInv h (fun _ hu => applyCover_modeInv hu false st f)
  | offer st f => exact receiveFrame_modeInv h (fun _ hu => applyOffer_modeInv hu f)
  | call st f => exact receiveFrame_modeInv h (fun _ hu => applyCall_modeInv hu f)
  | segment st f => exact receiveFrame_modeInv h (fun _ hu => applySegment_modeInv hu f)
  | beacon st f => exact receiveFrame_modeInv h (fun _ hu => applyBeacon_modeInv hu st f _)
  | probe st f => exact receiveFrame_modeInv h (fun _ hu => applyProbe_modeInv hu f)
  | report st f => exact receiveFrame_modeInv h (fun _ hu => hu)
  | beaconTimer => exact execBeaconTimer_goesOnInMode h
  | planPoint => exact goesOnInMode_ite h (fun _ => closeEvent_modeInv h)
  | go => exact clockTests_modeInv h
  | reclaimTimer => exact goesOnInMode_ite h (fun _ => conclude_modeInv (endWait_modeInv (by exact h)))
  | viewSettleEnd => exact goesOnInMode_ite h (fun _ => settleOver_modeInv h)
  | trackTimeout t => exact goesOnInMode_ite h (fun _ => h)
  | restateTimer => exact goesOnInMode_ite h (fun _ => restate_modeInv h)
  | takeHoldoffEnd => exact goesOnInMode_ite h (fun _ => takeTest_modeInv h)
  | homingTimeout => exact goesOnInMode_ite h (fun _ => enterFault_modeInv (by exact h) 8)
  | inFrame status pan tilt temperature => exact execInFrame_goesOnInMode h status pan tilt temperature
  | peerSilent st => exact execPeerSilent_goesOnInMode h st
  | peerRemoved st => exact execPeerRemoved_goesOnInMode h st
  | waitingLimit => exact execWaitingLimit_goesOnInMode h
  | holdOpenLimit => exact execHoldOpenLimit_goesOnInMode h
  | segmentEnd => exact execSegmentEnd_goesOnInMode h
  | fadeComplete => exact execFadeComplete_goesOnInMode h
  | reliefDeadline t => exact execReliefDeadline_goesOnInMode h t
  | holderLapse t st => exact execHolderLapse_goesOnInMode h t st

end

/-- Settles O50: `setMode`, the one operation that writes the mode, writes all three as the mode gives them
(`setMode_modeInv`); every command is a chain of it and of operations that keep them. -/
theorem modeInvKept : Obligations.ModeInvKept := by
  intro s t c h ht
  have hgo := exec_goesOnInMode h c
  rw [ht] at hgo
  exact hgo

end Sys2Proof.Machine
end


section
/-! SUPPORT. What keeps a transmit queue, a call table and its pool, and a holder list well formed, said of the lists alone:
the operations of R15, R17 and R18, of R41, R42, R48, R56 and R59, and of R145 to R148. -/

namespace Sys2Proof.Machine

/-! ### The transmit queue (R14 to R18) -/

/-- Kind and subject of a queued frame together (R14). -/
def TxBody.key (b : TxBody) : Nat × Nat := (b.kind, b.subject)

theorem TxBody.same_iff {a b : TxBody} : a.same b = true ↔ a.key = b.key := by
  simp [TxBody.same, TxBody.key]

theorem TxBody.same_self (b : TxBody) : b.same b = true := TxBody.same_iff.2 rfl

/-- The keys of a queue in its order. -/
def queueKeys (q : List TxEntry) : List (Nat × Nat) := q.map (fun e => e.body.key)

/-- A queue within its bounds: the condition of QueueInv on the list. -/
def QueueOk (q : List TxEntry) : Prop :=
  q.length ≤ Config.queueCapacity ∧ (queueKeys q).Nodup ∧ ∀ e ∈ q, e.heldOk ∧ e.attempts ≤ Config.maxAttempts

theorem queueInv_iff (s : State) : QueueInv s ↔ QueueOk s.link.queue := by
  have hkeys : s.link.queue.Pairwise (fun a b => a.body.same b.body = false) ↔ (queueKeys s.link.queue).Nodup := by
    rw [queueKeys, List.Nodup, List.pairwise_map]
    exact List.Pairwise.iff (fun {a b} => by rw [Ne, ← TxBody.same_iff, Bool.not_eq_true])
  exact and_congr_right fun _ => and_congr_left fun _ => hkeys

/-- Entries that keep their bounds and come from those of a good queue by key make a good queue. -/
theorem QueueOk.of_keys {q q' : List TxEntry} (h : QueueOk q) (hk : (queueKeys q').Sublist (queueKeys q))
    (he : ∀ e ∈ q', e.heldOk ∧ e.attempts ≤ Config.maxAttempts) : QueueOk q' := by
  obtain ⟨hlen, hnodup, -⟩ := h
  refine ⟨?_, hnodup.sublist hk, he⟩
  have hshorter := hk.length_le
  simp only [queueKeys, List.length_map] at hshorter
  exact hshorter.trans hlen

/-- A map over the entries that keeps their keys and bounds. -/
theorem QueueOk.map {q : List TxEntry} (h : QueueOk q) {f : TxEntry → TxEntry}
    (hf : ∀ e ∈ q, e.heldOk → e.attempts ≤ Config.maxAttempts →
      (f e).body.key = e.body.key ∧ (f e).heldOk ∧ (f e).attempts ≤ Config.maxAttempts) : QueueOk (q.map f) := by
  have hf' := fun e he => hf e he (h.2.2 e he).1 (h.2.2 e he).2
  have hkeys : queueKeys (q.map f) = queueKeys q := by simpa [queueKeys] using fun e he => (hf' e he).1
  refine h.of_keys (hkeys ▸ .refl _) ?_
  simpa using fun e he => (hf' e he).2

theorem TxEntry.heldOk_iff (e : TxEntry) : e.heldOk ↔ ∀ b, e.next = some b → b.key = e.body.key := by
  unfold TxEntry.heldOk
  cases e.next <;> simp [TxBody.same_iff]

/-- Taking the held payload keeps the key and starts the attempts anew (R18). -/
theorem TxEntry.takeNext_ok {e : TxEntry} {b : TxBody} (he : e.heldOk) (hb : e.next = some b) :
    (e.takeNext b).body.key = e.body.key ∧ (e.takeNext b).heldOk ∧ (e.takeNext b).attempts ≤ Config.maxAttempts :=
  ⟨e.heldOk_iff.1 he b hb, trivial, Nat.zero_le _⟩

theorem TxEntry.replaceBy_ok {e : TxEntry} {b : TxBody} (hs : e.body.same b = true) (he : e.heldOk)
    (ha : e.attempts ≤ Config.maxAttempts) :
    (e.replaceBy b).body.key = e.body.key ∧ (e.replaceBy b).heldOk ∧ (e.replaceBy b).attempts ≤ Config.maxAttempts := by
  have hkey := TxBody.same_iff.1 hs
  unfold TxEntry.replaceBy
  split
  · exact ⟨rfl, by simp [TxEntry.heldOk_iff, hkey], ha⟩
  · exact ⟨hkey.symm, (TxEntry.heldOk_iff _).2 fun c hc => (e.heldOk_iff.1 he c hc).trans hkey, Nat.zero_le _⟩

theorem QueueOk.offer {q q' : List TxEntry} {b : TxBody} (h : QueueOk q) (ho : queueOffer q b = some q') : QueueOk q' := by
  unfold queueOffer at ho
  split at ho
  · obtain rfl := Option.some.inj ho
    refine h.map fun e _ he ha => ?_
    split
    · exact TxEntry.replaceBy_ok ‹_› he ha
    · exact ⟨rfl, he, ha⟩
  · rename_i hany
    split at ho
    · obtain rfl := Option.some.inj ho
      obtain ⟨-, hnodup, hent⟩ := h
      have hnew : ∀ e ∈ q, e.body.key ≠ b.key := by simpa [TxBody.same_iff] using hany
      refine ⟨by simpa using ‹_ < _›, ?_, ?_⟩
      · simp only [queueKeys, List.map_append, List.map_cons, List.map_nil, List.nodup_append] at hnodup ⊢
        refine ⟨hnodup, by simp, ?_⟩
        simpa using fun e he => hnew e he
      · simp only [List.mem_append, List.mem_singleton]
        rintro e (he | rfl)
        · exact hent e he
        · exact ⟨trivial, Nat.zero_le _⟩
    · cases ho

theorem QueueOk.markInFlight {q : List TxEntry} (h : QueueOk q) (b : TxBody) : QueueOk (markInFlight q b) := by
  refine h.map fun e _ he ha => ?_
  split
  · exact ⟨rfl, he, ha⟩
  · exact ⟨rfl, he, ha⟩

theorem QueueOk.arbLost {q : List TxEntry} (h : QueueOk q) : QueueOk (queueArbLost q) := by
  refine h.map fun e _ he ha => ?_
  split
  · split
    · exact ⟨rfl, he, ha⟩
    · exact TxEntry.takeNext_ok he ‹_›
  · exact ⟨rfl, he, ha⟩

/-- After a success each entry is one that stood, or one that took its held payload; none is added (R18). -/
theorem queueSuccess_spec {q : List TxEntry} (h : ∀ e ∈ q, e.heldOk ∧ e.attempts ≤ Config.maxAttempts) :
    (queueKeys (queueSuccess q)).Sublist (queueKeys q)
      ∧ ∀ e ∈ queueSuccess q, e.heldOk ∧ e.attempts ≤ Config.maxAttempts := by
  induction q with
  | nil => exact ⟨.refl _, by simp [queueSuccess]⟩
  | cons e rest ih =>
    obtain ⟨he, hrest⟩ := List.forall_mem_cons.1 h
    obtain ⟨ihk, ihe⟩ := ih hrest
    unfold queueSuccess
    split
    · split
      · exact ⟨List.sublist_cons_self _ _, hrest⟩
      · obtain ⟨hkey, hok⟩ := TxEntry.takeNext_ok he.1 ‹_›
        exact ⟨by simp [queueKeys, hkey], List.forall_mem_cons.2 ⟨hok, hrest⟩⟩
    · exact ⟨ihk.cons_cons _, List.forall_mem_cons.2 ⟨he, ihe⟩⟩

theorem QueueOk.success {q : List TxEntry} (h : QueueOk q) : QueueOk (queueSuccess q) :=
  h.of_keys (queueSuccess_spec h.2.2).1 (queueSuccess_spec h.2.2).2

/-- After a clash each entry is one that stood, tried once more, or with its held payload; none is added (R18). -/
theorem queueClash_spec {q : List TxEntry} (h : ∀ e ∈ q, e.heldOk ∧ e.attempts ≤ Config.maxAttempts) :
    (queueKeys (queueClash q).1).Sublist (queueKeys q)
      ∧ ∀ e ∈ (queueClash q).1, e.heldOk ∧ e.attempts ≤ Config.maxAttempts := by
  induction q with
  | nil => exact ⟨.refl _, by simp [queueClash]⟩
  | cons e rest ih =>
    obtain ⟨he, hrest⟩ := List.forall_mem_cons.1 h
    obtain ⟨ihk, ihe⟩ := ih hrest
    unfold queueClash
    split
    · split
      · obtain ⟨hkey, hok⟩ := TxEntry.takeNext_ok he.1 ‹_›
        exact ⟨by simp [queueKeys, hkey], List.forall_mem_cons.2 ⟨hok, hrest⟩⟩
      · split
        · exact ⟨.refl _, List.forall_mem_cons.2 ⟨⟨he.1, Nat.succ_le_of_lt ‹_›⟩, hrest⟩⟩
        · exact ⟨List.sublist_cons_self _ _, hrest⟩
    · exact ⟨ihk.cons_cons _, List.forall_mem_cons.2 ⟨he, ihe⟩⟩

theorem QueueOk.clash {q : List TxEntry} (h : QueueOk q) : QueueOk (queueClash q).1 :=
  h.of_keys (queueClash_spec h.2.2).1 (queueClash_spec h.2.2).2

theorem QueueOk.nil : QueueOk [] := ⟨Nat.zero_le _, .nil, by simp⟩

/-! ### The call table and the pool (R41, R42) -/

/-- The ids of a table in its order. -/
def tableIds (calls : List CallRecord) : List Word16 := calls.map CallRecord.callId

/-- A table and its pool within their bounds: the condition of StoreInv on the list and the number. -/
def TableOk (calls : List CallRecord) (free : Nat) : Prop :=
  calls.length ≤ Config.callCapacity ∧ (tableIds calls).Nodup ∧ free + chained calls = Config.poolSize

theorem storeInv_iff (s : State) : StoreInv s ↔ TableOk s.store.calls s.store.poolFree := by
  have hids : s.store.calls.Pairwise (fun a b => a.callId ≠ b.callId) ↔ (tableIds s.store.calls).Nodup := by
    rw [tableIds, List.Nodup, List.pairwise_map]
  exact and_congr_right fun _ => and_congr_left fun _ => hids

@[simp] theorem chained_nil : chained [] = 0 := rfl
@[simp] theorem chained_cons (r : CallRecord) (l : List CallRecord) : chained (r :: l) = r.chain.length + chained l := by
  simp [chained]

theorem TableOk.nil : TableOk [] Config.poolSize := ⟨Nat.zero_le _, .nil, rfl⟩

/-- A change of records that keeps ids and the lengths of chains. -/
theorem TableOk.map {calls : List CallRecord} {free : Nat} (h : TableOk calls free) {f : CallRecord → CallRecord}
    (hf : ∀ r, (f r).callId = r.callId ∧ (f r).chain.length = r.chain.length) : TableOk (calls.map f) free := by
  obtain ⟨hlen, hids, hpool⟩ := h
  refine ⟨by simpa using hlen, ?_, ?_⟩
  · simpa [tableIds, Function.comp_def, hf] using hids
  · simpa [chained, Function.comp_def, hf] using hpool

/-- With the ids apart, the records of other ids and the one of this id chain what the table chains. -/
theorem chained_filter_ne {calls : List CallRecord} (hids : (tableIds calls).Nodup) {r : CallRecord} (hr : r ∈ calls) :
    chained (calls.filter (fun c => c.callId != r.callId)) + r.chain.length = chained calls := by
  induction calls with
  | nil => cases hr
  | cons c rest ih =>
    rw [tableIds, List.map_cons, List.nodup_cons] at hids
    obtain ⟨hfresh, hrest⟩ := hids
    rcases List.mem_cons.1 hr with rfl | hmem
    · have hall : rest.filter (fun x => x.callId != r.callId) = rest :=
        List.filter_eq_self.2 fun x hx => by
          simpa using fun he : x.callId = r.callId => hfresh (he ▸ List.mem_map_of_mem hx)
      simp [hall, Nat.add_comm]
    · have hne : c.callId ≠ r.callId := fun he => hfresh (he ▸ List.mem_map_of_mem hmem)
      simp only [List.filter_cons, bne_iff_ne, ne_eq, hne, not_false_eq_true, if_true, chained_cons]
      rw [Nat.add_assoc, ih hrest hmem]

/-- With the ids apart, writing another chain into one record moves the sum by that chain alone. -/
theorem chained_update {calls : List CallRecord} (hids : (tableIds calls).Nodup) {r : CallRecord} (hr : r ∈ calls)
    (f : CallRecord → CallRecord) :
    chained (calls.map (fun c => if c.callId == r.callId then f c else c)) + r.chain.length
      = chained calls + (f r).chain.length := by
  induction calls with
  | nil => cases hr
  | cons c rest ih =>
    rw [tableIds, List.map_cons, List.nodup_cons] at hids
    obtain ⟨hfresh, hrest⟩ := hids
    rcases List.mem_cons.1 hr with rfl | hmem
    · have hall : rest.map (fun x => if x.callId == r.callId then f x else x) = rest :=
        (List.map_congr_left fun x hx => by
          have hne : x.callId ≠ r.callId := fun he => hfresh (he ▸ List.mem_map_of_mem hx)
          simp [hne]).trans (List.map_id' rest)
      simp only [List.map_cons, beq_self_eq_true, if_true, hall, chained_cons]
      rw [Nat.add_comm, Nat.add_comm (f r).chain.length, Nat.add_assoc]
    · have hne : c.callId ≠ r.callId := fun he => hfresh (he ▸ List.mem_map_of_mem hmem)
      simp only [List.map_cons, beq_iff_eq, hne, if_false, chained_cons]
      exact (Nat.add_assoc _ _ _).trans ((congrArg _ (by simpa using ih hrest hmem)).trans (Nat.add_assoc _ _ _).symm)

/-- A record leaves the table, its segments free (R59). -/
theorem TableOk.drop {calls : List CallRecord} {free : Nat} (h : TableOk calls free) {r : CallRecord} (hr : r ∈ calls) :
    TableOk (calls.filter (fun c => c.callId != r.callId)) (free + r.chain.length) := by
  obtain ⟨hlen, hids, hpool⟩ := h
  refine ⟨(List.length_filter_le _ _).trans hlen, hids.sublist (List.filter_sublist.map _), ?_⟩
  rw [← hpool, ← chained_filter_ne hids hr, Nat.add_assoc, Nat.add_comm r.chain.length]

/-- Segments that move between the pool and one chain leave their sum. -/
theorem pool_moves {free free' old new before after total : Nat} (hpool : free' + new = free + old)
    (hchains : after + old = before + new) (h : free + before = total) : free' + after = total := by
  refine Nat.add_right_cancel (m := new + old) ?_
  rw [Nat.add_add_add_comm, hpool, hchains, Nat.add_add_add_comm, h, Nat.add_comm old]

/-- A record's chain is written, the pool taking what it gives up (R48, R56). -/
theorem TableOk.update {calls : List CallRecord} {free free' : Nat} (h : TableOk calls free) {r : CallRecord}
    (hr : r ∈ calls) {f : CallRecord → CallRecord} (hf : ∀ c, (f c).callId = c.callId)
    (hpool : free' + (f r).chain.length = free + r.chain.length) :
    TableOk (calls.map (fun c => if c.callId == r.callId then f c else c)) free' := by
  obtain ⟨hlen, hids, hsum⟩ := h
  have hup := chained_update hids hr f
  refine ⟨by simpa using hlen, ?_, pool_moves hpool hup hsum⟩
  have hsame : tableIds (calls.map (fun c => if c.callId == r.callId then f c else c)) = tableIds calls := by
    simp only [tableIds, List.map_map, List.map_inj_left, Function.comp_apply]
    intro c _
    split
    · exact hf c
    · rfl
  rwa [hsame]

theorem placeCall_perm (r : CallRecord) (l : List CallRecord) : (placeCall r l).Perm (r :: l) := by
  induction l with
  | nil => exact .refl _
  | cons c rest ih =>
    unfold placeCall
    split
    · exact .refl _
    · exact (ih.cons c).trans (.swap r c rest)

/-- A record of a new id with an empty chain joins a table with room (R41, R47). -/
theorem TableOk.place {calls : List CallRecord} {free : Nat} (h : TableOk calls free) {r : CallRecord}
    (hroom : calls.length < Config.callCapacity) (hnew : ∀ c ∈ calls, c.callId ≠ r.callId) (hchain : r.chain = []) :
    TableOk (placeCall r calls) free := by
  obtain ⟨-, hids, hpool⟩ := h
  have hperm := placeCall_perm r calls
  refine ⟨?_, ?_, ?_⟩
  · simpa [hperm.length_eq] using hroom
  · refine (hperm.map CallRecord.callId).nodup_iff.2 (List.nodup_cons.2 ⟨?_, hids⟩)
    simpa [tableIds] using hnew
  · have hsum : chained (placeCall r calls) = chained (r :: calls) := (hperm.map _).sum_eq
    simpa [hsum, hchain] using hpool

/-- Records that have reached go. -/
def pastGo (calls : List CallRecord) : Nat := (calls.filter CallRecord.reachedGo).length

theorem pastGo_sublist {l l' : List CallRecord} (h : l'.Sublist l) : pastGo l' ≤ pastGo l := (h.filter _).length_le

theorem pastGo_map {l : List CallRecord} {f : CallRecord → CallRecord} (hf : ∀ r, (f r).reachedGo = r.reachedGo) :
    pastGo (l.map f) = pastGo l := by
  simp [pastGo, List.filter_map, Function.comp_def, hf]

theorem pastGo_place {r : CallRecord} (hr : r.reachedGo = false) (l : List CallRecord) : pastGo (placeCall r l) = pastGo l := by
  rw [pastGo, ((placeCall_perm r l).filter _).length_eq, List.filter_cons_of_neg (by simp [hr]), pastGo]

/-- With the ids apart, at most one record has a given id. -/
theorem pastGo_le_one {l : List CallRecord} (hids : (tableIds l).Nodup) {id : Word16}
    (h : ∀ r ∈ l, r.reachedGo = true → r.callId = id) : pastGo l ≤ 1 := by
  have hsub : ((l.filter CallRecord.reachedGo).map CallRecord.callId).Nodup := hids.sublist (List.filter_sublist.map _)
  have hall : ∀ i ∈ (l.filter CallRecord.reachedGo).map CallRecord.callId, i = id := by
    simp only [List.mem_map, List.mem_filter]
    rintro _ ⟨r, ⟨hr, hg⟩, rfl⟩
    exact h r hr hg
  rw [pastGo, ← List.length_map (f := CallRecord.callId)]
  match hl : (l.filter CallRecord.reachedGo).map CallRecord.callId with
  | [] => simp
  | [_] => simp
  | a :: b :: _ =>
    rw [hl] at hsub hall
    have : a = b := (hall a (by simp)).trans (hall b (by simp)).symm
    simp [this] at hsub

/-! ### Holder lists (R144 to R148) -/

/-- The stations of a list in its order. -/
def listStations (l : List Holder) : List Byte := l.map Holder.station

/-- The RELIEVED entries of a list. -/
def relievedCount (l : List Holder) : Nat := (l.filter (fun h => !h.isHolder)).length

theorem relievedCount_cons (x : Holder) (l : List Holder) :
    relievedCount (x :: l) = (if x.isHolder then 0 else 1) + relievedCount l := by
  by_cases hx : x.isHolder = true
  · simp [relievedCount, hx]
  · simp [relievedCount, hx, Nat.add_comm]

theorem holderListOk_iff (l : List Holder) :
    HolderListOk l ↔ l.length ≤ Config.holderCapacity ∧ (listStations l).Nodup ∧ relievedCount l ≤ 1 := by
  rw [HolderListOk, listStations, List.Nodup, List.pairwise_map, relievedCount]

theorem HolderListOk.sublist {l l' : List Holder} (h : HolderListOk l) (hs : l'.Sublist l) : HolderListOk l' :=
  ⟨hs.length_le.trans h.1, h.2.1.sublist hs, ((hs.filter _).length_le).trans h.2.2⟩

/-- A change of entries that keeps stations and makes none RELIEVED. -/
theorem HolderListOk.map {l : List Holder} (h : HolderListOk l) {f : Holder → Holder}
    (hf : ∀ x, (f x).station = x.station ∧ (x.isHolder = true → (f x).isHolder = true)) : HolderListOk (l.map f) := by
  rw [holderListOk_iff] at h ⊢
  obtain ⟨hlen, hst, hrel⟩ := h
  refine ⟨by simpa using hlen, by simpa [listStations, Function.comp_def, hf] using hst, ?_⟩
  refine le_trans ?_ hrel
  rw [relievedCount, relievedCount, List.filter_map, List.length_map, ← List.countP_eq_length_filter,
    ← List.countP_eq_length_filter]
  refine List.countP_mono_left fun x _ hx => ?_
  simp only [Function.comp_apply, Bool.not_eq_true'] at hx ⊢
  exact Bool.eq_false_iff.2 fun hh => by simp [(hf x).2 hh] at hx

/-- A HOLDER entry of a new station joins a list with room. -/
theorem HolderListOk.append {l : List Holder} (h : HolderListOk l) {x : Holder} (hx : x.isHolder = true)
    (hroom : l.length < Config.holderCapacity) (hnew : ∀ y ∈ l, y.station ≠ x.station) : HolderListOk (l ++ [x]) := by
  rw [holderListOk_iff] at h ⊢
  obtain ⟨-, hst, hrel⟩ := h
  refine ⟨by simpa using hroom, ?_, by simpa [relievedCount, hx] using hrel⟩
  simp only [listStations, List.map_append, List.map_cons, List.map_nil, List.nodup_append]
  exact ⟨hst, by simp, by simpa using hnew⟩

theorem HolderListOk.remove {l : List Holder} (h : HolderListOk l) (now : Word32) (st : Byte) :
    HolderListOk (removeHolder now st l) := by
  unfold removeHolder
  split
  · refine (h.sublist List.filter_sublist).map fun x => ?_
    split
    · exact ⟨rfl, fun _ => rfl⟩
    · exact ⟨rfl, id⟩
  · exact h

/-- HOLDER and RELIEVED entries make up a list. -/
theorem length_eq_holders_add_relieved (l : List Holder) : l.length = (holderEntries l).length + relievedCount l := by
  simp only [holderEntries, relievedCount]
  induction l with
  | nil => rfl
  | cons x rest ih =>
    by_cases hx : x.isHolder = true
    · simp [hx, ih, Nat.add_right_comm]
    · simp [hx, ih, Nat.add_assoc]

theorem not_mem_of_find_none {l : List Holder} {st : Byte} (h : l.find? (fun x => x.station == st) = none) :
    ∀ y ∈ l, y.station ≠ st := by simpa using h

/-- What each decision on a TAKE presupposes (R145). -/
theorem takeResult_cases {l : List Holder} {st : Byte} {q count margin : Nat} {r : TakeResult}
    (h : takeResult l st q count margin = r) :
    r = .restated ∨ r = .refused
      ∨ (r = .added ∧ (∀ y ∈ l, y.station ≠ st) ∧ (holderEntries l).length < count)
      ∨ ∃ w, r = .relieving w ∧ (∀ y ∈ l, y.station ≠ st) ∧ relievedCount l = 0 ∧ l.length < Config.holderCapacity := by
  unfold takeResult at h
  split at h
  · split at h
    · exact .inl h.symm
    · exact .inr (.inl h.symm)
  · have hnew := not_mem_of_find_none ‹_›
    split at h
    · exact .inr (.inr (.inl ⟨h.symm, hnew, ‹_›⟩))
    · split at h
      · exact .inr (.inl h.symm)
      · rename_i hrel
        split at h
        · exact .inr (.inl h.symm)
        · split at h
          · rename_i hroom
            simp only [Bool.and_eq_true, decide_eq_true_eq] at hroom
            refine .inr (.inr (.inr ⟨_, h.symm, hnew, ?_, hroom.1⟩))
            simpa [relievedCount, List.filter_eq_nil_iff] using hrel
          · exact .inr (.inl h.symm)

/-- One entry becomes RELIEVED in a list that had none. -/
theorem HolderListOk.relieve {l : List Holder} (h : HolderListOk l) (hnone : relievedCount l = 0) (w : Byte)
    (st : HolderState) : HolderListOk (l.map (fun x => if x.station == w then { x with state := st } else x)) := by
  have hpair := h.2.1
  rw [holderListOk_iff] at h ⊢
  obtain ⟨hlen, hst, -⟩ := h
  have hkeep : listStations (l.map (fun x => if x.station == w then { x with state := st } else x)) = listStations l := by
    simp only [listStations, List.map_map, List.map_inj_left, Function.comp_apply]
    intro x _
    split <;> rfl
  refine ⟨by simpa using hlen, hkeep ▸ hst, ?_⟩
  have hholders : ∀ x ∈ l, x.isHolder = true := by simpa [relievedCount, List.filter_eq_nil_iff] using hnone
  clear hnone hlen hkeep hst
  induction l with
  | nil => simp [relievedCount]
  | cons x rest ih =>
    obtain ⟨hx, hrest⟩ := List.pairwise_cons.1 hpair
    obtain ⟨hxh, hresth⟩ := List.forall_mem_cons.1 hholders
    by_cases hxw : x.station = w
    · have hsame : rest.map (fun y => if y.station == w then { y with state := st } else y) = rest :=
        (List.map_congr_left fun y hy => by
          have : y.station ≠ w := fun he => hx y hy (hxw.trans he.symm)
          simp [this]).trans (List.map_id' rest)
      have hzero : relievedCount rest = 0 := by simpa [relievedCount, List.filter_eq_nil_iff] using hresth
      rw [List.map_cons, hsame, relievedCount_cons, hzero, Nat.add_zero]
      exact ite_le_sup _ _ _
    · have := ih hrest hresth
      simpa [relievedCount_cons, hxw, hxh] using this

theorem HolderListOk.take {l : List Holder} (h : HolderListOk l) {st : Byte} {q count margin : Nat} (hc : count ≤ 4)
    (now : Word32) : HolderListOk (applyTake now st q (takeResult l st q count margin) l) := by
  rcases takeResult_cases (r := takeResult l st q count margin) rfl with hr | hr | ⟨hr, hnew, hfew⟩ | ⟨w, hr, hnew, hnone, hroom⟩
  · rw [hr]
    refine h.map fun x => ?_
    split
    · exact ⟨rfl, id⟩
    · exact ⟨rfl, id⟩
  · rw [hr]; exact h
  · rw [hr]
    refine h.append rfl ?_ hnew
    have hholders : (holderEntries l).length ≤ 3 := Nat.le_of_lt_succ (hfew.trans_le hc)
    exact Nat.lt_succ_of_le ((length_eq_holders_add_relieved l).trans_le (Nat.add_le_add hholders h.2.2))
  · rw [hr]
    refine (h.relieve hnone w _).append rfl (by simpa using hroom) ?_
    simp only [List.mem_map, forall_exists_index, and_imp, forall_apply_eq_imp_iff₂]
    intro y hy
    split
    · exact hnew y hy
    · exact hnew y hy

theorem HolderListOk.statedHold {l : List Holder} (h : HolderListOk l) (now : Word32) (st : Byte) (q : Nat) :
    HolderListOk (statedHold now st q l) := by
  unfold Machine.statedHold
  split
  · refine h.map fun x => ?_
    split
    · exact ⟨rfl, id⟩
    · exact ⟨rfl, id⟩
  · rename_i hany
    split
    · exact h.append rfl ‹_› (by simpa using hany)
    · exact h

theorem HolderListOk.action {l : List Holder} (h : HolderListOk l) {st : Byte} {f : CoverFields} (hc : f.count.toNat ≤ 4)
    (margin : Nat) (now : Word32) :
    HolderListOk (applyAction now st f (takeResult l st f.q.toNat f.count.toNat margin) l) := by
  unfold applyAction
  split
  · exact h.take hc now
  · split
    · unfold applyHold
      split
      · exact (h.statedHold now st f.q.toNat).sublist List.filter_sublist
      · exact h.statedHold now st f.q.toNat
    · exact h.remove now st

theorem HolderListOk.nil : HolderListOk [] := ⟨Nat.zero_le _, .nil, Nat.zero_le _⟩

end Sys2Proof.Machine
end


section
/-! SUPPORT. What the operations inside an event keep, said once for each: the invariants of the queue, the call table, the
counters, the holder lists and the owner of the segment under way, and the fields that only a change of mode, a readback or
the peer table's own operations write. -/

namespace Sys2Proof.Machine

/-! ### The relation -/

/-- Each of these counters is within its 16 bits. -/
def Bounded (l : List Nat) : Prop := ∀ n ∈ l, n ≤ 65535

/-- The counters of every block stay within their 16 bits from one state to the next. -/
structure CountsStay (s t : State) : Prop where
  linkCounts : Bounded s.link.counters.values → Bounded t.link.counters.values
  clockCounts : Bounded s.clock.counters.values → Bounded t.clock.counters.values
  storeCounts : Bounded s.store.counters.values → Bounded t.store.counters.values
  aimCounts : Bounded s.aim.counters.values → Bounded t.aim.counters.values
  plannerCounts : Bounded s.planner.counters.values → Bounded t.planner.counters.values
  powerCounts : Bounded s.power.counters.values → Bounded t.power.counters.values
  landingCounts : Bounded s.landing.counters.values → Bounded t.landing.counters.values
  coverCounts : Bounded s.cover.counters.values → Bounded t.cover.counters.values
  colourCounts : Bounded s.colour.counters.values → Bounded t.colour.counters.values
  driveCounts : Bounded s.drive.counters.values → Bounded t.drive.counters.values

/-- The invariants of the blocks that are kept from one state to the next, each for itself. -/
structure Kept (s t : State) : Prop extends CountsStay s t where
  queue : QueueInv s → QueueInv t
  store : StoreInv s → StoreInv t
  oneGo : StoreInv s → pastGo s.store.calls ≤ 1 → pastGo t.store.calls ≤ 1
  cover : CoverInv s → CoverInv t
  owner : OwnerInv s → OwnerInv t

/-- While the station is STARTING solo mode is OFF and no homing grant is left to tell. -/
def Calm (s : State) : Prop :=
  s.station.mode = .starting → s.power.solo = none ∧ ∀ w, Notice.granted .homing w ∉ s.notices

/-- What an operation inside an event does at most, the peer table and the link-lost condition apart: it keeps the invariants,
leaves solo mode, and outside solo mode the own granted claim, and moves the station mode, if at all, from STARTING to HOMING by
a homing grant that was left to tell. -/
structure Steady (s t : State) : Prop extends Kept s t where
  ownStation : t.station.ownStation = s.station.ownStation
  solo : t.power.solo = s.power.solo
  granted : s.power.solo = none → t.power.granted = s.power.granted
  mode : t.station.mode = s.station.mode ∨ s.station.mode = .starting ∧ t.station.mode = .homing
  calm : Calm s → Calm t ∧ t.station.mode = s.station.mode

/-- Such an operation that leaves the link-lost condition (R20 to R22). -/
structure Inside (s t : State) : Prop extends Steady s t where
  linkLost : t.link.linkLost = s.link.linkLost

/-- Such an operation that leaves the peer table, as all but those of the peer table do. -/
structure Within (s t : State) : Prop extends Inside s t where
  peers : t.clock.peers = s.clock.peers

theorem CountsStay.refl (s : State) : CountsStay s s :=
  ⟨id, id, id, id, id, id, id, id, id, id⟩

theorem CountsStay.trans {s t u : State} (h : CountsStay s t) (k : CountsStay t u) : CountsStay s u where
  linkCounts b := k.linkCounts (h.linkCounts b)
  clockCounts b := k.clockCounts (h.clockCounts b)
  storeCounts b := k.storeCounts (h.storeCounts b)
  aimCounts b := k.aimCounts (h.aimCounts b)
  plannerCounts b := k.plannerCounts (h.plannerCounts b)
  powerCounts b := k.powerCounts (h.powerCounts b)
  landingCounts b := k.landingCounts (h.landingCounts b)
  coverCounts b := k.coverCounts (h.coverCounts b)
  colourCounts b := k.colourCounts (h.colourCounts b)
  driveCounts b := k.driveCounts (h.driveCounts b)

theorem countInv_iff (s : State) : CountInv s ↔
    Bounded s.link.counters.values ∧ Bounded s.clock.counters.values ∧ Bounded s.store.counters.values
      ∧ Bounded s.aim.counters.values ∧ Bounded s.planner.counters.values ∧ Bounded s.power.counters.values
      ∧ Bounded s.landing.counters.values ∧ Bounded s.cover.counters.values ∧ Bounded s.colour.counters.values
      ∧ Bounded s.drive.counters.values := by
  simp only [CountInv, State.counts, List.forall_mem_append, Bounded, and_assoc]

theorem CountsStay.countInv {s t : State} (h : CountsStay s t) (hs : CountInv s) : CountInv t := by
  rw [countInv_iff] at hs ⊢
  obtain ⟨h1, h2, h3, h4, h5, h6, h7, h8, h9, h10⟩ := hs
  exact ⟨h.linkCounts h1, h.clockCounts h2, h.storeCounts h3, h.aimCounts h4, h.plannerCounts h5, h.powerCounts h6,
    h.landingCounts h7, h.coverCounts h8, h.colourCounts h9,
    h.driveCounts h10⟩

theorem Kept.refl (s : State) : Kept s s := ⟨.refl s, id, id, fun _ => id, id, id⟩

theorem Kept.trans {s t u : State} (h : Kept s t) (k : Kept t u) : Kept s u where
  queue b := k.queue (h.queue b)
  store b := k.store (h.store b)
  oneGo b c := k.oneGo (h.store b) (h.oneGo b c)
  toCountsStay := h.toCountsStay.trans k.toCountsStay
  cover b := k.cover (h.cover b)
  owner b := k.owner (h.owner b)

theorem Kept.ite {s t u : State} {p : Prop} [Decidable p] (ht : p → Kept s t) (hu : ¬p → Kept s u) :
    Kept s (if p then t else u) := by
  split
  · exact ht ‹p›
  · exact hu ‹¬p›

theorem Steady.refl (s : State) : Steady s s := ⟨.refl s, rfl, rfl, fun _ => rfl, .inl rfl, fun h => ⟨h, rfl⟩⟩

theorem Steady.trans {s t u : State} (h : Steady s t) (k : Steady t u) : Steady s u where
  toKept := h.toKept.trans k.toKept
  ownStation := k.ownStation.trans h.ownStation
  solo := k.solo.trans h.solo
  granted b := (k.granted (h.solo.trans b)).trans (h.granted b)
  mode := by
    rcases h.mode with hm | ⟨hs, ht⟩ <;> rcases k.mode with km | ⟨kt, ku⟩
    · exact .inl (km.trans hm)
    · exact .inr ⟨hm.symm.trans kt, ku⟩
    · exact .inr ⟨hs, km.trans ht⟩
    · rw [ht] at kt; cases kt
  calm b := ⟨(k.calm (h.calm b).1).1, (k.calm (h.calm b).1).2.trans (h.calm b).2⟩

/-- Any mode but STARTING stands through such an operation (R184). -/
theorem Steady.mode_of_ne {s t : State} (h : Steady s t) (hs : s.station.mode ≠ .starting) :
    t.station.mode = s.station.mode := h.mode.resolve_right fun hh => hs hh.1

theorem Inside.refl (s : State) : Inside s s := ⟨.refl s, rfl⟩

theorem Inside.trans {s t u : State} (h : Inside s t) (k : Inside t u) : Inside s u where
  toSteady := h.toSteady.trans k.toSteady
  linkLost := k.linkLost.trans h.linkLost

theorem Inside.ite {s t u : State} {p : Prop} [Decidable p] (ht : p → Inside s t) (hu : ¬p → Inside s u) :
    Inside s (if p then t else u) := by
  split
  · exact ht ‹p›
  · exact hu ‹¬p›

theorem Within.refl (s : State) : Within s s := ⟨.refl s, rfl⟩

theorem Within.trans {s t u : State} (h : Within s t) (k : Within t u) : Within s u where
  toInside := h.toInside.trans k.toInside
  peers := k.peers.trans h.peers

theorem Within.after {s t u : State} (k : Within t u) (h : Within s t) : Within s u := h.trans k

theorem Within.ite {s t u : State} {p : Prop} [Decidable p] (ht : p → Within s t) (hu : ¬p → Within s u) :
    Within s (if p then t else u) := by
  split
  · exact ht ‹p›
  · exact hu ‹¬p›

/-- What each step of a fold does, the fold does. -/
theorem Within.foldl {α : Type} {f : State → α → State} (hf : ∀ s a, Within s (f s a)) (l : List α) (s : State) :
    Within s (l.foldl f s) :=
  List.foldlRecOn (motive := fun t => Within s t) l f (.refl s) (fun t ht a _ => ht.trans (hf t a))

/-! ### Counters, block by block

A block's counters are told apart by their place, counted from 0, in the list of its `values`. -/

theorem Bounded.set {l : List Nat} (h : Bounded l) (i : Nat) {v : Nat} (hv : v ≤ 65535) : Bounded (l.set i v) := fun n hn =>
  (List.mem_or_eq_of_mem_set hn).elim (h n) fun hnv => hnv ▸ hv

theorem Bounded.count {l : List Nat} (h : Bounded l) (i n : Nat) : Bounded (l.set i (satInc n)) := h.set i (satInc_le n)

theorem Bounded.countBy {l : List Nat} (h : Bounded l) (i n k : Nat) : Bounded (l.set i (satAdd n k)) := h.set i (satAdd_le n k)

theorem Bounded.getD {l : List Nat} (h : Bounded l) (i : Nat) : l.getD i 0 ≤ 65535 := by
  rcases Nat.lt_or_ge i l.length with hi | hi
  · rw [List.getD_eq_getElem _ _ hi]
    exact h _ (List.getElem_mem hi)
  · rw [List.getD_eq_default _ _ hi]
    exact Nat.zero_le _

theorem Bounded.countIf {l : List Nat} (h : Bounded l) (i : Nat) (b : Bool) : Bounded (l.set i (satIf b (l.getD i 0))) :=
  h.set i (satIf_le (h.getD i) b)

theorem Bounded.zeros (k : Nat) : Bounded (List.replicate k 0) := fun _ hn =>
  (List.eq_of_mem_replicate hn).trans_le (Nat.zero_le _)

theorem bounded_countAim {k : AimCounters} (h : Bounded k.values) : ∀ c : AimClass, Bounded (countAim c k).values
  | .solved => h
  | .clamped => h.count 1 _
  | .degenerate => h.count 0 _

theorem bounded_endsOf {g : Figures} {pose : Option MountPose} {mode : CallMode} (chain : List PoolSegment) (p t : Int)
    {k : AimCounters} (h : Bounded k.values) : Bounded (endsOf g pose mode p t chain k).2.values := by
  induction chain generalizing p t k with
  | nil => exact h
  | cons seg rest ih => exact ih _ _ (bounded_countAim h _)

theorem bounded_countPlan {k : PlannerCounters} (h : Bounded k.values) (step : LadderStep) (cap : Nat) :
    Bounded (countPlan step cap k).values :=
  (((((h.count 0 _).countIf 1 _).countIf 2 _).countIf 3 _).countIf 4 _).countBy 7 _ _

theorem bounded_countFit {k : PlannerCounters} (h : Bounded k.values) (a : SegmentAsk) (f : Fit) :
    Bounded (countFit a f k).values :=
  ((h.countIf 5 _).countIf 6 _).countBy 7 _ _

theorem bounded_countLanding {k : LandingCounters} (h : Bounded k.values) (s : State) (id : Word16) (f : Fit) :
    Bounded (countLanding s id f k).values :=
  (h.countIf 5 _).countIf 6 _

theorem bounded_countOutcome {k : StoreCounters} (h : Bounded k.values) : ∀ o : CallOutcome, Bounded (countOutcome o k).values
  | .done => h.count 12 _
  | .cut => h.count 13 _
  | .dropped => h.count 14 _
  | .short => h.count 15 _

theorem bounded_countCover {k : CoverCounters} (h : Bounded k.values) (own : Bool) (f : CoverFields) (r : TakeResult)
    (full relief : Bool) : Bounded (countCover own f r full relief k).values :=
  (((h.countIf 3 _).countIf 4 _).countIf 9 _).countIf 5 _

theorem bounded_countDiscard {k : LinkCounters} (h : Bounded k.values) : ∀ r : DiscardReason, Bounded (countDiscard r k).values
  | .symbolError => h.count 6 _
  | .unknownKind => h.count 7 _
  | .badStation => h.count 8 _
  | .badLength => h.count 9 _
  | .badCrc => h.count 10 _
  | .badField => h.count 11 _
  | .ownNumber => h.count 12 _

/-! ### Offers (R15, R16) -/

theorem claimDropped_within (f : ClaimFields) (s : State) : Within s (claimDropped f s) := by
  unfold claimDropped
  split
  · exact .refl s
  · exact Within.ite (fun _ => { Within.refl s with powerCounts := fun h => h.count 4 _ }) (fun _ => .refl s)

theorem toldDrop_within (b : TxBody) (s : State) : Within s (toldDrop b s) := by
  cases b with
  | claim f => exact claimDropped_within f s
  | cover f => exact { Within.refl s with coverCounts := fun h => h.count 10 _ }
  | offer f => exact { Within.refl s with landingCounts := fun h => h.count 1 _ }
  | beacon => exact .refl s
  | report f => exact .refl s

theorem offer_within (b : TxBody) (s : State) : Within s (offer b s) := by
  rcases offer_cases b s with ⟨q, hq, h⟩ | ⟨-, h⟩ <;> rw [h]
  · exact { Within.refl s with queue := fun hi => (queueInv_iff _).2 (((queueInv_iff s).1 hi).offer hq) }
  · refine Within.trans ?_ (toldDrop_within b _)
    exact { Within.refl s with linkCounts := fun h => h.count 5 _ }

/-! ### Requests and lowerings (R103, R113, R115, R121) -/

theorem Calm.solo_off {s : State} (h : Calm s) (hm : s.station.mode = .starting) : s.power.solo = none := (h hm).1

/-- In solo mode a calm state is not STARTING, so that whatever is left to tell leaves it calm. -/
theorem Calm.of_solo {s t : State} (h : Calm s) (hsolo : s.power.solo.isSome = true) (hm : t.station.mode = s.station.mode) :
    Calm t := fun hs => by
  rw [hm] at hs
  rw [h.solo_off hs] at hsolo
  cases hsolo

theorem decideLocally_within {s : State} (hsolo : s.power.solo.isSome = true) (w : Nat) (r : Reason) (p : Purpose) :
    Within s (decideLocally w r p s) := by
  have hne : s.power.solo ≠ none := by simpa [Option.isSome_iff_ne_none] using hsolo
  exact Within.ite
    (fun _ => { Within.refl s with granted := fun h => absurd h hne, calm := fun h => ⟨h.of_solo hsolo rfl, rfl⟩ })
    (fun _ => { Within.refl s with powerCounts := fun h => h.count 0 _ })

theorem openRound_within (w : Nat) (r : Reason) (p : Purpose) (s : State) : Within s (openRound w r p s) :=
  Within.ite (fun _ => { Within.refl s with }) (fun _ => (offer_within _ _).after { Within.refl s with })

theorem request_within (w : Nat) (r : Reason) (p : Purpose) (s : State) : Within s (request w r p s) := by
  have hdefer : Within s { s with
    power.deferred := deferFor s.power.round p s.power.deferred, power.abandoned := false } := { Within.refl s with }
  exact Within.ite
    (fun hsolo => hdefer.trans (decideLocally_within (s := { s with
      power.deferred := deferFor s.power.round p s.power.deferred, power.abandoned := false }) hsolo w r p))
    (fun _ => hdefer.trans (openRound_within w r p _))

theorem lowerAfterEnd_within (s : State) : Within s (lowerAfterEnd s) := by
  unfold lowerAfterEnd
  split
  · exact .refl s
  · split
    · exact Within.ite (fun _ => .refl s) (fun _ => request_within _ _ _ s)
    · split
      · exact .refl s
      · exact request_within _ _ _ s

theorem lowerFrom_within (u s : State) : Within s (lowerFrom u s) := by
  rcases lowerFrom_eq u s with h | h <;> rw [h]
  · exact .refl s
  · exact lowerAfterEnd_within s

theorem freshen_within (s : State) : Within s (freshen s) :=
  Within.ite (fun _ => request_within _ _ _ s) (fun _ => .refl s)

theorem endPurpose_within (p : Purpose) (s : State) : Within s (endPurpose p s) := by
  unfold endPurpose
  dsimp only
  split
  · exact { Within.refl s with }
  · exact Within.ite (fun _ => { Within.refl s with }) (fun _ => { Within.refl s with })

/-! ### The owner of the segment under way (R82, R140) -/

theorem holdsCall_map {l : List CallRecord} {f : CallRecord → CallRecord} (hf : ∀ r, (f r).callId = r.callId) {id : Word16}
    (h : holdsCall id l) : holdsCall id (l.map f) := by
  obtain ⟨r, hr, hid⟩ := h
  exact ⟨f r, List.mem_map_of_mem hr, (hf r).trans hid⟩

theorem holdsCall_filter_ne {l : List CallRecord} {id x : Word16} (h : holdsCall id l) (hne : id ≠ x) :
    holdsCall id (l.filter (fun c => c.callId != x)) := by
  obtain ⟨r, hr, hid⟩ := h
  exact ⟨r, List.mem_filter.2 ⟨hr, by simpa [hid] using hne⟩, hid⟩

theorem findCall_callId {s : State} {id : Word16} {r : CallRecord} (h : s.findCall id = some r) : r.callId = id := by
  simpa using List.find?_some h

theorem findCall_mem {s : State} {id : Word16} {r : CallRecord} (h : s.findCall id = some r) : r ∈ s.store.calls :=
  List.mem_of_find?_eq_some h

theorem findCall_holdsCall {s : State} {id : Word16} {r : CallRecord} (h : s.findCall id = some r) :
    holdsCall id s.store.calls := ⟨r, findCall_mem h, findCall_callId h⟩

/-- The owner invariant passes to a state with the calls' ids, a segment under way or none, a role of the same call or none. -/
theorem OwnerInv.of_ids {s t : State} (h : OwnerInv s) (hids : ∀ id, holdsCall id s.store.calls → holdsCall id t.store.calls)
    (hmotion : t.planner.motion = s.planner.motion ∨ t.planner.motion = none)
    (hmode : t.station.mode = s.station.mode) (hrole : t.cover.role = s.cover.role) : OwnerInv t := by
  obtain ⟨hm, hr⟩ := h
  refine ⟨fun m hmt => ?_, fun r hrt => hids _ (hr r (hrole ▸ hrt))⟩
  rcases hmotion with he | he
  · have := hm m (he ▸ hmt)
    cases howner : m.owner with
    | call id => rw [howner] at this; exact hids id this
    | follow => rw [howner] at this; rw [ownerStands, hrole, hmode]; exact this
  · rw [he] at hmt; cases hmt

/-- The role stands with its call, its phase or what else it holds changed. -/
theorem OwnerInv.of_role {s t : State} (h : OwnerInv s) (hcalls : t.store.calls = s.store.calls)
    (hmotion : t.planner.motion = s.planner.motion) (hmode : t.station.mode = s.station.mode)
    (hrole : (t.cover.role.map Role.callId) = (s.cover.role.map Role.callId)) : OwnerInv t := by
  obtain ⟨hm, hr⟩ := h
  refine ⟨fun m hmt => ?_, fun r hrt => ?_⟩
  · have := hm m (hmotion ▸ hmt)
    cases howner : m.owner with
    | call id => rw [howner] at this; rw [ownerStands, hcalls]; exact this
    | follow =>
      rw [howner, ownerStands] at this
      rw [ownerStands, hmode]
      refine this.imp_left fun hsome => ?_
      have hmap := congrArg Option.isSome hrole
      rw [Option.isSome_map, Option.isSome_map] at hmap
      exact hmap.trans hsome
  · rw [hrt, Option.map_some] at hrole
    obtain ⟨ro, hro, hid⟩ := Option.map_eq_some_iff.1 hrole.symm
    rw [hcalls, ← hid]
    exact hr ro hro

/-! ### Updates of one record (R41, R125) -/

/-- A change of a call record that keeps its id, the length of its chain and its mark of go. -/
theorem updateCall_within (id : Word16) {f : CallRecord → CallRecord}
    (hf : ∀ r, (f r).callId = r.callId ∧ (f r).chain.length = r.chain.length ∧ (f r).reachedGo = r.reachedGo) (s : State) :
    Within s (updateCall id f s) := by
  have hif : ∀ r : CallRecord, (if r.callId == id then f r else r).callId = r.callId
      ∧ (if r.callId == id then f r else r).chain.length = r.chain.length
      ∧ (if r.callId == id then f r else r).reachedGo = r.reachedGo := fun r => by
    split
    · exact hf r
    · exact ⟨rfl, rfl, rfl⟩
  exact { Within.refl s with
    store := fun h => (storeInv_iff _).2 (((storeInv_iff s).1 h).map fun r => ⟨(hif r).1, (hif r).2.1⟩)
    oneGo := fun _ h => (pastGo_map fun r => (hif r).2.2).trans_le h
    owner := fun h => h.of_ids (fun _ => holdsCall_map fun r => (hif r).1) (.inl rfl) rfl rfl }

theorem updateLanding_within (id : Word16) (f : LandingRecord → LandingRecord) (s : State) :
    Within s (updateLanding id f s) := { Within.refl s with }

/-! ### Fades (R160, R162) -/

theorem startFade_within (target : List Nat) (n scale : Nat) (o : FadeOwner) (s : State) :
    Within s (startFade target n scale o s) := Within.ite (fun _ => { Within.refl s with }) (fun _ => { Within.refl s with })

theorem stopFadeOf_within (o : FadeOwner) (s : State) : Within s (stopFadeOf o s) := by
  unfold stopFadeOf
  split
  · exact .refl s
  · exact Within.ite (fun _ => { Within.refl s with }) (fun _ => .refl s)

theorem dark_within (s : State) : Within s (dark s) := { Within.refl s with }

/-! ### Holder lists and the own role (R144 to R153) -/

theorem coverInv_of_lists {s t : State} (h : CoverInv s) (htracks : t.cover.tracks.length = s.cover.tracks.length)
    (hlen : t.cover.lists.length = s.cover.lists.length)
    (hlists : (∀ l ∈ s.cover.lists, HolderListOk l) → ∀ l ∈ t.cover.lists, HolderListOk l) : CoverInv t :=
  ⟨htracks.trans h.1, hlen.trans h.2.1, hlists h.2.2⟩

theorem CoverInv.holders {s : State} (h : CoverInv s) (t : Nat) : HolderListOk (s.holders t) := by
  unfold State.holders
  rw [List.getD_eq_getElem?_getD]
  cases hl : s.cover.lists[t]? with
  | none => exact .nil
  | some l => exact h.2.2 l (List.mem_of_getElem? hl)

theorem setHolders_within {t : Nat} {l : List Holder} {s : State}
    (hl : HolderListOk (s.holders t) → HolderListOk l) : Within s (setHolders t l s) :=
  { Within.refl s with
    cover h := coverInv_of_lists h rfl (List.length_set ..) fun hall x hx => by
      rcases List.mem_or_eq_of_mem_set hx with hx | rfl
      · exact hall x hx
      · exact hl (h.holders t) }

theorem dropFromLists_within (st : Byte) (s : State) : Within s (dropFromLists st s) :=
  { Within.refl s with
    cover := fun h => coverInv_of_lists h rfl (List.length_map ..) fun hall x hx => by
      obtain ⟨l, hl, rfl⟩ := List.mem_map.1 hx
      exact (hall l hl).remove _ st }

theorem setPhase_within (p : RolePhase) (s : State) : Within s (setPhase p s) := by
  unfold setPhase
  split
  · exact .refl s
  · rename_i r hr
    exact { Within.refl s with owner := fun h => h.of_role rfl rfl rfl (by simp [hr]) }

theorem becomeCandidate_within (s : State) : Within s (becomeCandidate s) :=
  ((dark_within s).trans (setPhase_within .candidate (dark s))).trans { Within.refl _ with }

theorem offerHold_within (r : Role) (s : State) : Within s (offerHold r s) := (offer_within _ _).after { Within.refl s with }

theorem offerYield_within (t n : Nat) (s : State) : Within s (offerYield t n s) := offer_within _ s

theorem ownReact_within (b : OwnEntry) (s : State) : Within s (ownReact b s) := by
  unfold ownReact
  split
  · exact .refl s
  · refine Within.ite (fun _ => .refl s) (fun _ => ?_)
    split
    · exact (setPhase_within .relieved s).trans { Within.refl _ with }
    · exact (setPhase_within .holder s).trans (offerHold_within _ _)
    · exact (becomeCandidate_within s).trans (offerYield_within _ _ _)
    · exact becomeCandidate_within s
    all_goals exact .refl s

theorem selfYield_within (s : State) : Within s (selfYield s) := by
  unfold selfYield
  split
  · exact .refl s
  · rename_i r _
    refine Within.ite (fun _ => ?_) (fun _ => .refl s)
    refine (setHolders_within (t := r.target) (l := removeHolder s.clock.tickCount s.station.ownStation (s.holders r.target))
      fun h => h.remove _ _).trans ((becomeCandidate_within _).trans ((offerYield_within r.target r.count _).trans ?_))
    exact { Within.refl _ with coverCounts := fun h => h.count 8 _ }

theorem takeTest_within (s : State) : Within s (takeTest s) := by
  unfold takeTest
  split
  · exact .refl s
  · refine Within.ite (fun _ => ?_) (fun _ => .refl s)
    refine Within.trans ?_ (offer_within _ _)
    exact { Within.refl s with coverCounts := fun h => h.count 2 _ }

theorem coverTests_within (s : State) : Within s (coverTests s) := (selfYield_within s).trans (takeTest_within _)

theorem changeHolders_within {t : Nat} {l : List Holder} {s : State} (hl : HolderListOk (s.holders t) → HolderListOk l) :
    Within s (changeHolders t l s) := by
  have hset := setHolders_within hl
  have hreact := hset.trans (ownReact_within s.ownEntry _)
  exact Within.ite (fun _ => Within.ite (fun _ => hreact) (fun _ => hreact.trans (coverTests_within _))) (fun _ => hset)

theorem stationGone_within (st : Byte) (s : State) : Within s (stationGone st s) := by
  have h := (dropFromLists_within st s).trans (ownReact_within s.ownEntry _)
  exact Within.ite (fun _ => h) (fun _ => h.trans (coverTests_within _))

theorem giveUpEntry_within (r : Role) (s : State) : Within s (giveUpEntry r s) :=
  Within.ite (fun _ => .refl s)
    (fun _ => (setHolders_within fun h => h.remove _ _).trans (offerYield_within _ _ _))

theorem stopMotionOf_motion (o : MotionOwner) (s : State) (m : Motion) (h : (stopMotionOf o s).planner.motion = some m) :
    s.planner.motion = some m ∧ m.owner ≠ o := by
  unfold stopMotionOf at h
  split at h
  · rw [‹s.planner.motion = none›] at h; cases h
  · rename_i k hk
    split at h
    · cases h
    · obtain rfl := Option.some.inj (hk.symm.trans h)
      exact ⟨hk, ‹_›⟩

theorem stopMotionOf_within (o : MotionOwner) (s : State) : Within s (stopMotionOf o s) := by
  unfold stopMotionOf
  split
  · exact .refl s
  · exact Within.ite (fun _ => { Within.refl s with owner := fun h => h.of_ids (fun _ h => h) (.inr rfl) rfl rfl }) (fun _ => .refl s)

/-- The role leaves together with the segment it owns (R98, R153). -/
theorem leaveRole_within (s : State) : Within s (stopMotionOf .follow (clearRole s)) := by
  have hcover : (stopMotionOf .follow (clearRole s)).cover = (clearRole s).cover := by simp
  have hstation : (stopMotionOf .follow (clearRole s)).station = s.station := by simp
  have hcalls : (stopMotionOf .follow (clearRole s)).store = s.store := by simp
  have hcleared : Kept (clearRole s) (stopMotionOf .follow (clearRole s)) := (stopMotionOf_within .follow (clearRole s)).toKept
  exact { stopMotionOf_within .follow (clearRole s) with
    owner := fun h => by
      refine ⟨fun m hm => ?_, fun r hr => ?_⟩
      · obtain ⟨hms, hne⟩ := stopMotionOf_motion _ _ m hm
        have := h.1 m hms
        cases howner : m.owner with
        | call id => rw [howner] at this; rw [ownerStands, hcalls]; exact this
        | follow => exact absurd howner hne
      · rw [hcover] at hr; cases hr
    peers := by simp
    ownStation := by simp
    linkLost := by simp
    solo := by simp
    granted := fun _ => by simp
    mode := .inl (by simp)
    calm := fun h => ⟨by simpa [Calm] using h, by simp⟩ }

theorem endRole_within (s : State) : Within s (endRole s) := by
  unfold endRole
  split
  · exact .refl s
  · exact (giveUpEntry_within _ s).trans ((dark_within _).trans ((leaveRole_within _).trans (endPurpose_within _ _)))

theorem endRoleOf_within (id : Word16) (s : State) : Within s (endRoleOf id s) := by
  unfold endRoleOf
  split
  · exact .refl s
  · exact Within.ite (fun _ => endRole_within s) (fun _ => .refl s)

theorem endRole_role (s : State) : (endRole s).cover.role = none := by
  unfold endRole
  split
  · assumption
  · simp

/-- No role of the call is left once its role has ended (R153). -/
theorem endRoleOf_role_ne {id : Word16} {s : State} {r : Role} (h : (endRoleOf id s).cover.role = some r) : r.callId ≠ id := by
  unfold endRoleOf at h
  split at h
  · rw [‹s.cover.role = none›] at h; cases h
  · rename_i k hk
    split at h
    · rw [endRole_role] at h; cases h
    · obtain rfl := Option.some.inj (hk.symm.trans h)
      assumption

/-! ### The end of a call (R59) -/

/-- A call with no role leaves the table with its motion and its fade. -/
theorem leaveTable_within {id : Word16} {r : CallRecord} {s : State} (o : CallOutcome) (hr : s.findCall id = some r)
    (hrole : ∀ k, s.cover.role = some k → k.callId ≠ id) :
    Within s (removeLanding id (dropRecord r o (stopFadeOf (.call id) (stopMotionOf (.call id) s)))) := by
  obtain rfl := findCall_callId hr
  have hmem := findCall_mem hr
  have hstopped : Within s (stopFadeOf (.call r.callId) (stopMotionOf (.call r.callId) s)) :=
    (stopMotionOf_within (.call r.callId) s).trans (stopFadeOf_within (.call r.callId) _)
  have hstore : (stopFadeOf (.call r.callId) (stopMotionOf (.call r.callId) s)).store = s.store := by simp
  have hcover : (stopFadeOf (.call r.callId) (stopMotionOf (.call r.callId) s)).cover = s.cover := by simp
  have hstation : (stopFadeOf (.call r.callId) (stopMotionOf (.call r.callId) s)).station = s.station := by simp
  have hmotion : (stopFadeOf (.call r.callId) (stopMotionOf (.call r.callId) s)).planner.motion
      = (stopMotionOf (.call r.callId) s).planner.motion := by simp
  generalize stopFadeOf (.call r.callId) (stopMotionOf (.call r.callId) s) = u at *
  exact { hstopped with
    store := fun h => by
      rw [storeInv_iff] at h ⊢
      have := h.drop hmem
      simpa [dropRecord, hstore] using this
    oneGo := fun _ h => by
      refine le_trans (pastGo_sublist ?_) h
      simp only [removeLanding_store, dropRecord, hstore, List.filter_sublist]
    storeCounts := fun h => bounded_countOutcome (hstopped.storeCounts h) o
    owner := fun h => by
      refine ⟨fun m hm => ?_, fun k hk => ?_⟩
      · obtain ⟨hms, hne⟩ := stopMotionOf_motion _ _ m (hmotion ▸ hm)
        have hstands := h.1 m hms
        cases howner : m.owner with
        | call x =>
          rw [howner] at hstands hne
          have hx : x ≠ r.callId := fun he => hne (he ▸ rfl)
          simpa [ownerStands, dropRecord, hstore] using holdsCall_filter_ne hstands hx
        | follow => simpa [howner, ownerStands, hcover, hstation] using hstands
      · have hk' : s.cover.role = some k := by simpa [hcover] using hk
        simpa [dropRecord, hstore] using holdsCall_filter_ne (h.2 k hk') (hrole k hk') }

theorem endCall_within (id : Word16) (o : CallOutcome) (s : State) : Within s (endCall id o s) := by
  unfold endCall
  split
  · exact .refl s
  · rename_i r hr
    have hfound : (endRoleOf id s).findCall id = some r := by simpa [State.findCall] using hr
    exact (endRoleOf_within id s).trans ((leaveTable_within o hfound fun k hk => endRoleOf_role_ne hk).trans
      (endPurpose_within _ _))

theorem endCalls_within (o : CallOutcome) (ids : List Word16) (s : State) : Within s (endCalls o ids s) :=
  endCalls_induction (P := fun t => Within s t) o (fun id t ht => ht.trans (endCall_within id o t)) ids s (.refl s)

theorem endIfComplete_within (id : Word16) (s : State) : Within s (endIfComplete id s) := by
  rcases endIfComplete_cases id s with h | h <;> rw [h]
  · exact .refl s
  · exact endCall_within id .done s

theorem finishIfComplete_within (id : Word16) (s : State) : Within s (finishIfComplete id s) :=
  (endIfComplete_within id s).trans (lowerFrom_within s _)

/-! ### Planning and the next call (R50, R91 to R94) -/

theorem recordPlan_within (id : Word16) (pl : Plan) (cap : Nat) (s : State) : Within s (recordPlan id pl cap s) := by
  have hcall := updateCall_within id (f := fun r => { r with plan := some pl, state := r.state.onPlan })
    (fun _ => ⟨rfl, rfl, rfl⟩) s
  have hlanding := hcall.trans (updateLanding_within id (fun r => { r with plannedLead := pl.segs.head?.map SegPlan.d }) _)
  refine hlanding.trans ((request_within _ _ _ _).after ?_)
  exact { Within.refl _ with plannerCounts := fun h => bounded_countPlan h _ _ }

theorem planCall_within (id : Word16) (s : State) : Within s (planCall id s) := by
  unfold planCall
  split
  · exact .refl s
  · refine Within.trans ?_ (recordPlan_within _ _ _ _)
    exact { Within.refl s with aimCounts := bounded_endsOf _ _ _ }

theorem replanCall_within (id : Word16) (s : State) : Within s (replanCall id s) := by
  unfold replanCall
  split
  · exact .refl s
  · split
    · exact .refl s
    · exact recordPlan_within _ _ _ s

theorem planAgain_within (s : State) : Within s (planAgain s) := Within.foldl (fun s id => planCall_within id s) _ s

theorem withdrawCall_within (id : Word16) (s : State) : Within s (withdrawCall id s) :=
  (updateCall_within id (f := fun r => { r with plan := none, state := .pending }) (fun _ => ⟨rfl, rfl, rfl⟩) s).trans
    ((updateLanding_within id _ _).trans (endPurpose_within _ _))

theorem withdrawOthers_within (id : Word16) (s : State) : Within s (withdrawOthers id s) :=
  Within.foldl (f := fun s i => withdrawCall i s) (fun s i => withdrawCall_within i s) _ s

theorem review_within (s : State) : Within s (review s) := by
  unfold review
  split
  · exact .refl s
  · split
    · exact .refl s
    · have h := withdrawOthers_within ‹CallRecord›.callId s
      exact Within.ite (fun _ => h.trans (planCall_within _ _)) (fun _ => h)

/-! ### The start of a call (R52, R95 to R97) -/

theorem length_activate (i : Nat) (chain : List PoolSegment) : (activate i chain).length = chain.length := by simp [activate]

theorem liveSegments_length_le (chain : List PoolSegment) : (liveSegments (consumeActive chain)).length ≤ chain.length := by
  simpa [liveSegments, consumeActive] using List.length_filter_le (fun g => g.state != .consumed) (consumeActive chain)

theorem activateSegment_within {id : Word16} {r : CallRecord} {s : State} (hr : s.findCall id = some r) (seg : PoolSegment) :
    Within s (activateSegment r seg s) := by
  have hmem := findCall_mem hr
  have hle := liveSegments_length_le r.chain
  have hgo : ∀ l : List CallRecord, pastGo (l.map (fun c =>
      if c.callId == r.callId then { c with chain := activate seg.index (liveSegments (consumeActive r.chain)) } else c))
        = pastGo l := fun l => pastGo_map fun c => by split <;> rfl
  exact { Within.refl s with
    store := fun h => by
      rw [storeInv_iff] at h ⊢
      refine h.update hmem (fun _ => rfl) ?_
      change s.store.poolFree + (r.chain.length - (liveSegments (consumeActive r.chain)).length)
        + (activate seg.index (liveSegments (consumeActive r.chain))).length = _
      rw [length_activate, Nat.add_assoc, Nat.sub_add_cancel hle]
    oneGo := fun _ h => (hgo _).trans_le h
    owner := fun h => h.of_ids (fun _ => holdsCall_map fun c => by split <;> rfl) (.inl rfl) rfl rfl }

theorem runSegment_within {id : Word16} {r : CallRecord} {s : State} (hid : r.callId = id)
    (hr : holdsCall id s.store.calls) (seg : PoolSegment) : Within s (runSegment r seg s) :=
  { Within.refl s with
    plannerCounts := fun h => bounded_countFit h _ _
    aimCounts := fun h => bounded_countAim h _
    landingCounts := fun h => bounded_countLanding h _ _ _
    owner := fun h => ⟨fun m hm => by
      obtain rfl := Option.some.inj hm
      exact (hid ▸ hr : holdsCall r.callId s.store.calls), h.2⟩ }

theorem beginNext_within (id : Word16) (s : State) : Within s (beginNext id s) := by
  unfold beginNext
  split
  · exact .refl s
  · rename_i r hr
    split
    · exact .refl s
    · exact (activateSegment_within hr _).trans
        (runSegment_within (findCall_callId hr)
          (holdsCall_map (fun c => by split <;> rfl) (findCall_holdsCall hr)) _)

theorem startCallFade_within (r : CallRecord) (s : State) : Within s (startCallFade r s) := by
  unfold startCallFade
  split
  · exact .refl s
  · exact startFade_within _ _ _ _ s

theorem startCall_within (id : Word16) (s : State) : Within s (startCall id s) := by
  unfold startCall
  split
  · exact .refl s
  · exact (updateCall_within id (f := fun r => { r with state := .running, waitStart := none }) (fun _ => ⟨rfl, rfl, rfl⟩) s).trans
      ((startCallFade_within _ _).trans ((beginNext_within id _).trans (endIfComplete_within id _)))

/-! ### Changes of mode (R184) -/

/-- A change of mode: out of RESET, where the follow role's segment may stand without the role, with no segment (R82). -/
theorem setMode_kept {m : StationMode} {s : State} (hs : s.station.mode ≠ .reset ∨ s.planner.motion = none ∨ m = .reset) :
    Kept s (setMode m s) := by
  have hqueue : QueueInv s → QueueInv (setMode m s) := fun h => by
    unfold setMode
    split
    · have : QueueOk (enterLine m s.link).queue := by unfold enterLine; split <;> exact (queueInv_iff s).1 h
      exact (queueInv_iff _).2 this
    · have : QueueOk (enterLine m s.link).queue := by unfold enterLine; split <;> exact (queueInv_iff s).1 h
      exact (offer_within _ _).queue ((queueInv_iff _).2 this)
  have hlink : Bounded s.link.counters.values → Bounded (setMode m s).link.counters.values := fun h => by
    have hline : Bounded (enterLine m s.link).counters.values := by unfold enterLine; split <;> exact h
    unfold setMode
    split
    · exact hline
    · exact (offer_within _ _).linkCounts hline
  exact {
    queue := hqueue
    store := fun h => by simpa [StoreInv] using h
    oneGo := fun _ h => by simpa using h
    linkCounts := hlink
    clockCounts := by simp
    storeCounts := by simp
    aimCounts := by simp
    plannerCounts := by simp
    powerCounts := by simp
    landingCounts := by simp
    coverCounts := by simp
    colourCounts := by simp
    driveCounts := by simp
    cover := fun h => by simpa [CoverInv] using h
    owner := fun h => ⟨fun k hk => by
        have hks : s.planner.motion = some k := by simpa using hk
        have := h.1 k hks
        cases howner : k.owner with
        | call id => simpa [howner, ownerStands] using this
        | follow =>
          rw [howner, ownerStands] at this
          rcases hs with hs | hs | rfl
          · exact .inl (by simpa using this.resolve_right hs)
          · rw [hs] at hks; cases hks
          · exact .inr (by simp),
      fun r hr => by simpa using h.2 r (by simpa using hr)⟩ }

theorem setMode_linkLost (m : StationMode) (s : State) : (setMode m s).link.linkLost = s.link.linkLost := by
  have henter : (enterLine m s.link).linkLost = s.link.linkLost := by unfold enterLine; split <;> rfl
  unfold setMode
  split
  · exact henter
  · exact (offer_within _ _).linkLost.trans henter

theorem seedPosition_within (s : State) : Within s (seedPosition s) := by
  unfold seedPosition
  split <;> exact { Within.refl s with }

@[simp] theorem seedPosition_station (s : State) : (seedPosition s).station = s.station := by
  unfold seedPosition; split <;> rfl

theorem enterHoming_kept {s : State} (hs : s.station.mode ≠ .reset) : Kept s (enterHoming s) := by
  have haxes : Kept (seedPosition s) { seedPosition s with drive.axesOn := true, drive.homing := some 0 } :=
    { Kept.refl _ with }
  exact (seedPosition_within s).toKept.trans (haxes.trans (setMode_kept (m := .homing) (.inl (by simpa using hs))))

/-! ### Grants and the close of an event (R103, R115, R116) -/

theorem offerLanding_within (id : Word16) (s : State) : Within s (offerLanding id s) := by
  unfold offerLanding
  split
  · exact .refl s
  · split
    · refine Within.ite (fun _ => Within.trans ?_ (offer_within _ _)) (fun _ => .refl s)
      exact { Within.refl s with landingCounts := fun h => h.count 0 _ }
    all_goals exact .refl s

theorem grantCall_within (id : Word16) (s : State) : Within s (grantCall id s) := by
  unfold grantCall
  split
  · exact .refl s
  · split
    · exact (updateCall_within id (f := fun r => { r with state := .planned }) (fun _ => ⟨rfl, rfl, rfl⟩) s).trans
        (offerLanding_within id _)
    · exact startCall_within id s
    all_goals exact .refl s

theorem grantRole_within (w : Nat) (s : State) : Within s (grantRole w s) := by
  unfold grantRole
  split
  · exact .refl s
  · rename_i r hr
    exact Within.ite (fun _ => { Within.refl s with owner := fun h => h.of_role rfl rfl rfl (by simp [hr]) }) (fun _ => .refl s)

theorem askFollow_within (s : State) : Within s (askFollow s) := by
  unfold askFollow
  split
  · exact .refl s
  · exact request_within _ _ _ s

theorem askAgain_within (p : Purpose) (s : State) : Within s (askAgain p s) := by
  cases p with
  | homing => exact Within.ite (fun _ => request_within _ _ _ s) (fun _ => .refl s)
  | follow =>
    unfold askAgain
    dsimp only
    split
    · exact .refl s
    · exact Within.ite (fun _ => askFollow_within s) (fun _ => .refl s)
  | lowering => exact .refl s
  | move id =>
    unfold askAgain
    dsimp only
    split
    · exact .refl s
    · exact Within.ite (fun _ => replanCall_within id s) (fun _ => .refl s)

theorem rearm_within (s : State) : Within s (rearm s) := by
  unfold rearm
  split
  · exact .refl s
  · exact (Within.foldl (f := fun s p => askAgain p s) (fun s p => askAgain_within p s) _ _).after { Within.refl s with }

/-- The first notice leaves the list of what is to be told. -/
theorem untold_within {s : State} {x : Notice} {rest : List Notice} (h : s.notices = x :: rest) :
    Within s { s with notices := rest } :=
  { Within.refl s with
    calm := fun hc => ⟨fun hs => ⟨(hc hs).1, fun w hw => (hc hs).2 w (h ▸ List.mem_cons_of_mem x hw)⟩, rfl⟩ }

/-- The first notice is told. -/
theorem tell_within {s : State} {x : Notice} {rest : List Notice} (h : s.notices = x :: rest) :
    Within s (tell x { s with notices := rest }) := by
  have huntold := untold_within h
  cases x with
  | rearm => exact huntold.trans (rearm_within _)
  | granted p w =>
    cases p with
    | homing =>
      refine Within.ite (fun (hs : s.station.mode = .starting) => ?_) (fun _ => huntold)
      have hhome := enterHoming_kept (s := { s with notices := rest }) (by simp [hs])
      have hseed := seedPosition_within { s with notices := rest }
      exact {
        toKept := huntold.toKept.trans hhome
        peers := (setMode_clock_peers _ _).trans hseed.peers
        ownStation := by simp [enterHoming]
        linkLost := (setMode_linkLost _ _).trans hseed.linkLost
        solo := by simpa [enterHoming] using hseed.solo
        granted := fun hsolo => by simpa [enterHoming] using hseed.granted hsolo
        mode := .inr ⟨hs, by simp [enterHoming]⟩
        calm := fun hc => absurd (h ▸ List.mem_cons_self) ((hc hs).2 w) }
    | follow => exact huntold.trans (grantRole_within w _)
    | lowering => exact huntold
    | move id => exact huntold.trans (grantCall_within id _)

theorem settle_within (n : Nat) : ∀ s : State, Within s (settle n s) := by
  induction n with
  | zero =>
    exact fun s => { Within.refl s with calm := fun hc => ⟨fun hs => ⟨(hc hs).1, fun _ hw => (List.not_mem_nil hw).elim⟩, rfl⟩ }
  | succ n ih =>
    intro s
    unfold settle
    split
    · exact (freshen_within s).trans (ih _)
    · split
      · exact .refl s
      · exact (tell_within ‹_›).trans ((lowerFrom_within s _).trans (ih _))

theorem tellSoFar_within (n : Nat) : ∀ s : State, Within s (tellSoFar n s) := by
  induction n with
  | zero => exact Within.refl
  | succ n ih =>
    intro s
    unfold tellSoFar
    split
    · exact .refl s
    · exact (tell_within ‹_›).trans (ih _)

theorem conclude_within (s : State) : Within s (conclude s) := by
  have h := settle_within settleFuel s
  exact Within.ite (fun _ => h.trans ((review_within _).trans (settle_within _ _))) (fun _ => h)

theorem closeEvent_within (s : State) : Within s (closeEvent s) := (review_within s).trans (conclude_within _)

end Sys2Proof.Machine
end


section
/-! SUPPORT. What go, the moves of a chain, the waits of the claim round, and the arrivals of frames keep, in the terms of the
section before. -/

namespace Sys2Proof.Machine

/-! ### Calls that end (R59) -/

theorem endCall_calls (id : Word16) (o : CallOutcome) (s : State) :
    (endCall id o s).store.calls = s.store.calls.filter (fun c => c.callId != id) := by
  unfold endCall
  split
  · rename_i h
    exact (List.filter_eq_self.2 fun c hc => by simpa using (List.find?_eq_none.1 h) c hc).symm
  · obtain rfl := findCall_callId ‹_›
    simp [dropRecord]

theorem endCalls_calls (o : CallOutcome) (ids : List Word16) (s : State) :
    (endCalls o ids s).store.calls = s.store.calls.filter (fun c => !ids.contains c.callId) := by
  induction ids generalizing s with
  | nil => exact (List.filter_eq_self.2 fun _ _ => rfl).symm
  | cons id rest ih =>
    change (endCalls o rest (endCall id o s)).store.calls = _
    rw [ih, endCall_calls, List.filter_filter]
    refine List.filter_congr fun c _ => ?_
    by_cases h : c.callId = id <;> simp [h]

theorem preempt_calls (lowers : Bool) (id : Word16) (s : State) :
    (preempt lowers id s).store.calls = s.store.calls.filter (fun c => !(s.preempted id).contains c.callId) := by
  cases lowers with
  | false => exact endCalls_calls ..
  | true => simpa [preempt] using endCalls_calls .cut (s.preempted id) s

/-! ### Go (R51 to R55) -/

theorem endCalls_lowered_within (lowers : Bool) (id : Word16) (s : State) : Within s (preempt lowers id s) := by
  have h := endCalls_within .cut (s.preempted id) s
  cases lowers with
  | false => exact h
  | true => exact h.trans (lowerAfterEnd_within _)

/-- After a preemption no other record has reached go (R53). -/
theorem preempt_leaves {lowers : Bool} {id : Word16} {s : State} {c : CallRecord}
    (hc : c ∈ (preempt lowers id s).store.calls) (hgo : c.reachedGo = true) : c.callId = id := by
  rw [preempt_calls, List.mem_filter] at hc
  obtain ⟨hmem, hkept⟩ := hc
  by_contra hne
  have : c.callId ∈ s.preempted id := List.mem_map_of_mem (List.mem_filter.2 ⟨hmem, by simp [hgo, hne]⟩)
  simp [this] at hkept

theorem preempt_holdsCall {lowers : Bool} {id : Word16} {s : State} (h : holdsCall id s.store.calls) :
    holdsCall id (preempt lowers id s).store.calls := by
  obtain ⟨r, hr, rfl⟩ := h
  refine ⟨r, ?_, rfl⟩
  rw [preempt_calls, List.mem_filter]
  refine ⟨hr, ?_⟩
  simp [State.preempted]

/-- The mark of go and the preemption with it: one record at most has reached go then (R51, R53). -/
theorem markGo_preempt_within (lowers : Bool) (r : CallRecord) (s : State) :
    Within s (preempt lowers r.callId (markGo r s)) := by
  have hp := endCalls_lowered_within lowers r.callId (markGo r s)
  have hsame : ∀ c : CallRecord, (if c.callId == r.callId then { c with reachedGo := true } else c).callId = c.callId
      ∧ (if c.callId == r.callId then { c with reachedGo := true } else c).chain.length = c.chain.length := fun c => by
    split <;> exact ⟨rfl, rfl⟩
  have hstore : StoreInv s → StoreInv (markGo r s) := fun h =>
    (storeInv_iff _).2 (((storeInv_iff s).1 h).map hsame)
  exact { hp with
    store := fun h => hp.store (hstore h)
    oneGo := fun h _ => pastGo_le_one ((storeInv_iff _).1 (hp.store (hstore h))).2.1 fun _ hc hgo => preempt_leaves hc hgo
    storeCounts := fun h => hp.storeCounts (h.countIf 6 _)
    owner := fun h => hp.owner (h.of_ids (fun _ => holdsCall_map fun c => (hsame c).1) (.inl rfl) rfl rfl) }

theorem landingGo_within (id : Word16) (planned : Bool) (s : State) : Within s (landingGo id planned s) := by
  unfold landingGo
  split
  · exact .refl s
  · exact { Within.refl s with landingCounts := fun h => (h.countIf 2 _).countIf 7 _ }

theorem enterWaiting_within (id : Word16) (s : State) : Within s (enterWaiting id s) :=
  updateCall_within id (f := fun r => { r with state := .waiting, waitStart := some s.clock.tickCount })
    (fun _ => ⟨rfl, rfl, rfl⟩) s

/-- A role begins for a call that the table holds (R140). -/
theorem startRole_within {id : Word16} {s : State} (h : holdsCall id s.store.calls) (target count : Nat) (c : ColourPart) :
    Within s (startRole id target count c s) := by
  have hrole : Within s { s with
      cover.role := some ⟨.claiming, target, id, count, c, 0⟩, cover.ownQ := 0, cover.onTarget := false,
      cover.followEnd := none, cover.holdoff := none, cover.restate := none } :=
    { Within.refl s with
      owner := fun ho => by
        refine ⟨fun m hm => ?_, fun r hr => ?_⟩
        · have := ho.1 m hm
          cases howner : m.owner with
          | call x => rw [howner] at this; exact this
          | follow => exact .inl rfl
        · obtain rfl := Option.some.inj hr
          exact h }
  exact hrole.trans ((dark_within _).trans (askFollow_within _))

theorem startFollow_within {r : CallRecord} {s : State} (h : holdsCall r.callId s.store.calls) :
    Within s (startFollow r s) := by
  have hrun := updateCall_within r.callId (f := fun r => { r with state := .running }) (fun _ => ⟨rfl, rfl, rfl⟩) s
  unfold startFollow
  dsimp only
  split
  · exact hrun
  · exact hrun.trans (startRole_within (holdsCall_map (fun c => by split <;> rfl) h) _ _ _)

theorem planAtGo_within (id : Word16) (s : State) : Within s (planAtGo id s) :=
  (enterWaiting_within id s).trans ((withdrawOthers_within id _).trans (planCall_within id _))

theorem goEffect_within {r : CallRecord} {s : State} (h : holdsCall r.callId s.store.calls) : Within s (goEffect r s) := by
  unfold goEffect
  split
  · exact startCall_within _ s
  · exact enterWaiting_within _ s
  · split
    · exact startFollow_within h
    · exact planAtGo_within _ s
    · exact Within.ite (fun _ => enterWaiting_within _ s) (fun _ => planAtGo_within _ s)
    · exact Within.ite (fun _ => enterWaiting_within _ s) (fun _ => planAtGo_within _ s)
  all_goals exact .refl s

theorem landingGo_store (id : Word16) (planned : Bool) (s : State) : (landingGo id planned s).store = s.store := by
  unfold landingGo; split <;> rfl

theorem passGo_within {lowers : Bool} {r : CallRecord} {s : State} (h : holdsCall r.callId s.store.calls) :
    Within s (passGo lowers r s) := by
  refine (markGo_preempt_within lowers r s).trans ((landingGo_within r.callId _ _).trans
    ((goEffect_within ?_).trans (tellSoFar_within _ _)))
  rw [landingGo_store]
  exact preempt_holdsCall (holdsCall_map (fun c => by split <;> rfl) h)

theorem goOne_within (rest : List Word16) (id : Word16) (s : State) : Within s (goOne rest id s) := by
  unfold goOne
  split
  · exact .refl s
  · rename_i r hr
    have hgo := passGo_within (lowers := !(s.preempted id).isEmpty && !startsAmong (id :: rest) s) (r := r) (s := s)
      (findCall_callId hr ▸ findCall_holdsCall hr)
    exact Within.ite (fun _ => hgo.trans (lowerAfterEnd_within _)) (fun _ => hgo)

theorem goAll_within (ids : List Word16) : ∀ s : State, Within s (goAll ids s) := by
  induction ids with
  | nil => exact Within.refl
  | cons id rest ih => exact fun s => (goOne_within rest id s).trans (ih _)

theorem goTests_within (s : State) : Within s (goTests s) := goAll_within _ s

theorem clockTests_within (s : State) : Within s (clockTests s) :=
  Within.ite (fun _ => (goTests_within s).trans (closeEvent_within _)) (fun _ => .refl s)

/-! ### The chain moves on (R56 to R58) -/

theorem haltMotion_within (s : State) : Within s (haltMotion s) :=
  { Within.refl s with
    owner h := h.of_ids (fun _ hc => hc) (.inr rfl) rfl rfl }

theorem enterHoldOpen_within (id : Word16) (s : State) : Within s (enterHoldOpen id s) :=
  updateCall_within id (f := fun r => { r with state := .holdOpen, holdStart := some s.clock.tickCount })
    (fun _ => ⟨rfl, rfl, rfl⟩) s

theorem chainOn_within (id : Word16) (s : State) : Within s (chainOn id s) := by
  unfold chainOn
  split
  · exact haltMotion_within s
  · refine Within.ite (fun _ => beginNext_within id s) (fun _ => ?_)
    have h := (haltMotion_within s).trans (updateCall_within id (f := fun r => { r with chain := consumeActive r.chain })
      (fun r => ⟨rfl, List.length_map .., rfl⟩) (haltMotion s))
    exact Within.ite (fun _ => h.trans (finishIfComplete_within id _)) (fun _ => h.trans (enterHoldOpen_within id _))

theorem expireCall_within (o : CallOutcome) (r : CallRecord) (s : State) : Within s (expireCall o r s) :=
  (endCall_within _ o s).trans ((lowerAfterEnd_within _).trans (closeEvent_within _))

theorem segmentOver_within (m : Motion) (s : State) : Within s (segmentOver m s) := by
  unfold segmentOver
  split
  · exact haltMotion_within s
  · exact (chainOn_within _ s).trans (closeEvent_within _)

theorem fadeOver_within (f : Fade) (s : State) : Within s (fadeOver f s) := by
  have h : Within s { s with colour.levels := f.target, colour.fade := none } := { Within.refl s with }
  unfold fadeOver
  dsimp only
  split
  · exact h
  · exact h.trans ((finishIfComplete_within _ _).trans (closeEvent_within _))

/-! ### Waits of the claim round (R110, R111) -/

theorem countReclaim_within (s : State) : Within s (countReclaim s) :=
  { Within.refl s with
    powerCounts := fun h => h.count 3 _ }

theorem endWait_within (s : State) : Within s (endWait s) := by
  unfold endWait
  split
  · exact .refl s
  · refine Within.ite (fun _ => .refl s) (fun _ => ?_)
    split
    · exact (countReclaim_within s).trans (replanCall_within _ _)
    · exact (countReclaim_within s).trans (askFollow_within _)
    · exact (countReclaim_within s).trans (request_within _ _ _ _)
    · exact request_within _ _ _ s

theorem headroomRise_within (s : State) : Within s (headroomRise s) := by
  unfold headroomRise
  split
  · exact .refl s
  · exact Within.ite (fun _ => endWait_within s) (fun _ => .refl s)

theorem endWaitNow_within (s : State) : Within s (endWaitNow s) := by
  unfold endWaitNow
  split
  · exact .refl s
  · exact Within.ite (fun _ => endWait_within s) (fun _ => .refl s)

/-! ### COVER, TRACK and OFFER frames (R130, R138, R144 to R150) -/

theorem startColour_within (c : ColourPart) (scale : Nat) (o : FadeOwner) (s : State) : Within s (startColour c scale o s) :=
  startFade_within _ _ _ _ s

theorem ownAdded_within (f : CoverFields) (s : State) : Within s (ownAdded f s) := by
  have hback := (setHolders_within (t := f.target.toNat) (s := s)
    (l := removeHolder s.clock.tickCount s.station.ownStation (s.holders f.target.toNat)) fun h => h.remove _ _).trans
    (offerYield_within f.target.toNat f.count.toNat _)
  unfold ownAdded
  dsimp only
  split
  · exact hback
  · refine Within.ite (fun _ => ?_) (fun _ => hback)
    exact ((setPhase_within .holder s).trans (startColour_within _ _ _ _)).trans { Within.refl _ with }

theorem applyCover_within (own : Bool) (st : Byte) {f : CoverFields} (hf : f.count.toNat ≤ 4) (s : State) :
    Within s (applyCover own st f s) := by
  refine Within.ite (fun _ => .refl s) (fun _ => ?_)
  dsimp only
  generalize hs1 : ({ s with cover.counters := _ } : State) = s1
  have hcount : Within s s1 := hs1 ▸ { Within.refl s with coverCounts := fun h => bounded_countCover h _ _ _ _ _ }
  have hlist : HolderListOk (s1.holders f.target.toNat) → HolderListOk (applyAction s.clock.tickCount st f
      (takeResult (s.holders f.target.toNat) st f.q.toNat f.count.toNat s.fig.handoffMargin) (s.holders f.target.toNat)) := by
    rw [← hs1]
    exact fun h => h.action hf _ _
  refine Within.ite (fun _ => ?_) (fun _ => hcount.trans (changeHolders_within hlist))
  have h := hcount.trans ((setHolders_within hlist).trans (ownAdded_within f _))
  exact Within.ite (fun _ => h.trans (coverTests_within _)) (fun _ => h)

theorem handFollow_within {s : State} (hrole : s.cover.role.isSome = true) (pan tilt : Int) :
    Within s (handFollow pan tilt s) :=
  { Within.refl s with
    coverCounts := fun h => h.countIf 1 _
    owner h := ⟨fun m hm => by
      obtain rfl := Option.some.inj hm
      exact .inl hrole, h.2⟩ }

theorem followTrack_within {r : Role} {s : State} (hrole : s.cover.role = some r) (f : TrackFields) :
    Within s (followTrack r f s) := by
  unfold followTrack
  split
  · exact .refl s
  · rename_i p _
    have hq : Within s { s with
      cover.ownQ := (solve s.fig p s.planner.pan s.planner.tilt f.x.toInt f.y.toInt f.z.toInt).q } := { Within.refl s with }
    exact Within.ite
      (fun _ => hq.trans ((handFollow_within (by simp [hrole]) _ _).trans (coverTests_within _))) (fun _ => hq)

theorem recordTrack_within (f : TrackFields) (s : State) : Within s (recordTrack f s) :=
  { Within.refl s with
    cover h := coverInv_of_lists h (List.length_set ..) rfl fun hl => hl }

theorem applyTrack_within (f : TrackFields) (s : State) : Within s (applyTrack f s) := by
  refine Within.ite (fun _ => .refl s) (fun _ => ?_)
  have h := recordTrack_within f s
  dsimp only
  split
  · exact h
  · exact Within.ite (fun _ => h.trans (followTrack_within ‹_› f)) (fun _ => h)

theorem onTargetTest_within (enc : Int × Int) (s : State) : Within s (onTargetTest enc s) := by
  unfold onTargetTest
  split
  · exact Within.ite (fun _ => (offerHold_within _ _).after { Within.refl s with }) (fun _ => .refl s)
  · exact .refl s
  · exact .refl s

theorem takeOffer_within (f : OfferFields) (s : State) : Within s (takeOffer f s) := by
  unfold takeOffer
  split
  · exact { Within.refl s with landingCounts := fun h => h.count 3 _ }
  · refine Within.ite (fun _ => ?_) (fun _ => Within.ite (fun _ => ?_) (fun _ => ?_))
    · exact { Within.refl s with landingCounts := fun h => h.count 3 _ }
    · exact { Within.refl s with landingCounts := fun h => h.count 4 _ }
    · exact { Within.refl s with landingCounts := fun h => h.countIf 2 _ }

theorem applyOffer_within (f : OfferFields) (s : State) : Within s (applyOffer f s) :=
  Within.ite (fun _ => takeOffer_within f s) (fun _ => .refl s)

/-! ### The cover unit's own events (R139, R148, R149, R150) -/

theorem loseTrack_within (t : Nat) (s : State) : Within s (loseTrack t s) :=
  { Within.refl s with
    coverCounts := fun h => h.count 0 _
    cover h := coverInv_of_lists h (List.length_set ..) rfl fun hl => hl }

theorem expireRelief_within (t : Nat) (k : Byte) (s : State) : Within s (expireRelief t k s) := by
  refine Within.trans ?_ (changeHolders_within fun h => h.remove _ _)
  exact { Within.refl s with coverCounts := fun h => h.count 6 _ }

theorem lapseHolder_within (t : Nat) (st : Byte) (s : State) : Within s (lapseHolder t st s) := by
  refine Within.trans ?_ (changeHolders_within fun h => h.remove _ _)
  exact { Within.refl s with coverCounts := fun h => h.count 7 _ }

theorem restate_within (s : State) : Within s (restate s) := by
  unfold restate
  split
  · exact { Within.refl s with }
  · exact Within.ite (fun _ => offerHold_within _ s) (fun _ => { Within.refl s with })

/-! ### The peer table's operations (R30 to R36, R105, R108) -/

theorem peerTableFull_within (s : State) : Within s (peerTableFull s) :=
  { Within.refl s with
    clockCounts := fun h => h.count 3 _ }

theorem evictFor_inside (p old : Peer) (s : State) : Inside s (evictFor p old s) := by
  have h : Inside s { s with
      clock.peers := insertPeer p (dropPeer old.station s.clock.peers)
      clock.counters.peersEvicted := satInc s.clock.counters.peersEvicted } :=
    { Within.refl s with clockCounts := fun h => h.count 2 _ }
  exact Inside.ite (fun _ => h.trans (stationGone_within _ _).toInside) (fun _ => h)

theorem createPeer_inside (p : Peer) (s : State) : Inside s (createPeer p s) := by
  refine Inside.ite (fun _ => { Within.refl s with }) (fun _ => Inside.ite (fun _ => ?_) (fun _ => (peerTableFull_within s).toInside))
  split
  · exact evictFor_inside p _ s
  · exact (peerTableFull_within s).toInside

theorem updatePeer_inside (st : Byte) (f : Peer → Peer) (s : State) : Inside s (updatePeer st f s) := { Within.refl s with }

theorem beaconPeer_inside (st : Byte) (f : BeaconFields) (s : State) : Inside s (beaconPeer st f s) := by
  unfold beaconPeer
  split
  · exact createPeer_inside _ s
  · have h := updatePeer_inside st (fun p => (p.heard s.clock.tickCount).withBeacon f) s
    exact Inside.ite (fun _ => h.trans (headroomRise_within _).toInside) (fun _ => h)

theorem claimPeer_inside (st : Byte) (f : ClaimFields) (s : State) : Inside s (claimPeer st f s) := by
  unfold claimPeer
  split
  · exact createPeer_inside _ s
  · have h := updatePeer_inside st (fun p => (p.heard s.clock.tickCount).onCircuit f.circuit.toNat) s
    exact Inside.ite (fun _ => h.trans (headroomRise_within _).toInside) (fun _ => h)

theorem peerStage_inside (fr : Frame) (s : State) : Inside s (peerStage fr s) := by
  unfold peerStage
  split
  · exact beaconPeer_inside _ _ s
  · exact claimPeer_inside _ _ s
  all_goals exact updatePeer_inside _ _ s

theorem setPeerGranted_inside (st : Byte) (w : Nat) (s : State) : Inside s (setPeerGranted st w s) := { Within.refl s with }

theorem statedClaim_inside (st : Byte) (f : BeaconFields) (existed : Bool) (s : State) :
    Inside s (statedClaim st f existed s) := by
  unfold statedClaim
  split
  · exact .refl s
  · dsimp only
    generalize hs2 : ({ setPeerGranted st _ s with power.counters.statedOverride := _ } : State) = s2
    have h : Inside s s2 := hs2 ▸ { Within.refl s with powerCounts := fun h => h.countIf 2 _ }
    exact Inside.ite (fun _ => h.trans (headroomRise_within _).toInside) (fun _ => h)

theorem clockStep_within (f : BeaconFields) (s : State) : Within s (clockStep f s) := by
  refine Within.ite (fun _ => Within.trans ?_ (clockTests_within _)) (fun _ => .refl s)
  exact { Within.refl s with clockCounts := fun h => h.count 0 _ }

theorem applyBeacon_inside (st : Byte) (f : BeaconFields) (existed : Bool) (s : State) :
    Inside s (applyBeacon st f existed s) := (clockStep_within f s).toInside.trans (statedClaim_inside st f existed _)

theorem testPeerClaim_inside (st : Byte) (f : ClaimFields) (s : State) : Inside s (testPeerClaim st f s).1 := by
  unfold testPeerClaim
  split
  · exact .refl s
  · split
    · exact setPeerGranted_inside st _ s
    · exact { Within.refl s with powerCounts := fun h => h.count 1 _ }

theorem applyClaim_inside (st : Byte) (f : ClaimFields) (s : State) : Inside s (applyClaim st f s) := by
  have h := testPeerClaim_inside st f s
  exact Inside.ite (fun _ => h.trans (headroomRise_within _).toInside) (fun _ => h)

theorem silencePeer_inside (st : Byte) (s : State) : Inside s (silencePeer st s) :=
  (updatePeer_inside st _ s).trans (stationGone_within st _).toInside

theorem removePeer_inside (p : Peer) (s : State) : Inside s (removePeer p s) := by
  have h : Inside s { s with
      clock.peers := dropPeer p.station s.clock.peers
      clock.counters.peersRemoved := satInc s.clock.counters.peersRemoved } :=
    { Within.refl s with clockCounts := fun h => h.count 1 _ }
  exact Inside.ite (fun _ => h.trans ((headroomRise_within _).trans (conclude_within _)).toInside) (fun _ => h)

/-! ### CALL and SEGMENT (R46 to R49) -/

theorem createLanding_within (r : CallRecord) (s : State) : Within s (createLanding r s) :=
  Within.ite (fun _ => { Within.refl s with }) (fun _ => .refl s)

/-- A record of a new id joins the table, in an event in which the table had room for it or was given it (R47). -/
theorem addCall_within {u s : State} (hu : Within u s) {f : CallFields}
    (hroom : StoreInv u → s.store.calls.length < Config.callCapacity) (hnew : ∀ c ∈ s.store.calls, c.callId ≠ f.callId)
    (a : Nat) : Within u (addCall f a s) := by
  refine Within.trans (t := { s with
    store.calls := placeCall (newCall f a) s.store.calls
    store.counters.lateCall := satIf (s.isLate f) s.store.counters.lateCall }) ?_ (createLanding_within _ _)
  have hplaced : ∀ id, holdsCall id s.store.calls → holdsCall id (placeCall (newCall f a) s.store.calls) :=
    fun id ⟨r, hr, hid⟩ => ⟨r, (placeCall_perm _ _).mem_iff.2 (List.mem_cons_of_mem _ hr), hid⟩
  exact { hu with
    store := fun h => (storeInv_iff _).2 (((storeInv_iff s).1 (hu.store h)).place (hroom h) hnew rfl)
    oneGo := fun h hgo => (pastGo_place rfl _).trans_le (hu.oneGo h hgo)
    storeCounts := fun h => (hu.storeCounts h).countIf 5 _
    owner := fun h => (hu.owner h).of_ids hplaced (.inl rfl) rfl rfl }

theorem lateTests_within (f : CallFields) (s : State) : Within s (lateTests f s) :=
  Within.ite (fun _ => goTests_within s) (fun _ => .refl s)

/-- What each verdict that makes a record presupposes of the table (R44). -/
theorem judgeCall_table {f : CallFields} {s : State} :
    (judgeCall f s = .fresh → s.findCall f.callId = none ∧ s.store.calls.length < Config.callCapacity)
      ∧ ∀ old, judgeCall f s = .supersedes old → s.findCall f.callId = some old := by
  unfold judgeCall
  cases s.findCall f.callId with
  | some old => split_ifs <;> simp
  | none => split_ifs <;> simp_all

theorem acceptCall_within {f : CallFields} {s : State} (hj : judgeCall f s = .fresh) : Within s (acceptCall f s) := by
  obtain ⟨hnone, hroom⟩ := judgeCall_table.1 hj
  have hadd := addCall_within (u := s) (s := { s with store.nextArrival := s.store.nextArrival + 1 }) { Within.refl s with }
    (fun _ => hroom)
    (fun c hc => by simpa using (List.find?_eq_none.1 hnone) c hc) s.store.nextArrival
  exact hadd.trans ((lateTests_within f _).trans (closeEvent_within _))

theorem supersedeCall_within {f : CallFields} {old : CallRecord} {s : State} (hold : s.findCall f.callId = some old) :
    Within s (supersedeCall f old s) := by
  have hcalls := endCall_calls f.callId .cut s
  have hend : Within s { endCall f.callId .cut s with
      store.counters.superseded := satInc (endCall f.callId .cut s).store.counters.superseded } :=
    (endCall_within f.callId .cut s).trans { Within.refl _ with storeCounts := fun h => h.count 0 _ }
  have hfewer : (s.store.calls.filter (fun c => c.callId != f.callId)).length < s.store.calls.length :=
    List.length_filter_lt_length_iff_exists.2 ⟨old, findCall_mem hold, by simp [findCall_callId hold]⟩
  have hadd := addCall_within hend (f := f) (fun h => by simpa [hcalls] using hfewer.trans_le h.1)
    (fun c hc => by
      rw [show (_ : List CallRecord) = _ from hcalls] at hc
      simpa using (List.mem_filter.1 hc).2) old.arrival
  unfold supersedeCall
  dsimp only
  refine Within.trans ?_ ((lateTests_within f _).trans (closeEvent_within _))
  exact Within.ite (fun _ => hadd) (fun _ => hadd.trans (lowerAfterEnd_within _))

theorem applyCall_within (f : CallFields) (s : State) : Within s (applyCall f s) := by
  unfold applyCall
  split
  · exact .refl s
  · exact { Within.refl s with storeCounts := fun h => h.count 4 _ }
  · exact { Within.refl s with storeCounts := fun h => h.count 2 _ }
  · exact { Within.refl s with storeCounts := fun h => h.count 3 _ }
  · exact { Within.refl s with storeCounts := fun h => h.count 1 _ }
  · exact supersedeCall_within (judgeCall_table.2 _ ‹_›)
  · exact acceptCall_within ‹_›

theorem noteRequested_within (id : Word16) (d : Nat) (s : State) : Within s (noteRequested id d s) := by
  unfold noteRequested
  split
  · exact .refl s
  · exact { Within.refl s with landingCounts := fun h => h.countIf 2 _ }

/-- A taken SEGMENT stands on a record of its id, with a segment free (R48). -/
theorem judgeSegment_taken {f : SegmentFields} {s : State} {r : CallRecord} (hj : judgeSegment f s = .taken r) :
    s.findCall f.callId = some r ∧ s.store.poolFree ≠ 0 := by
  unfold judgeSegment at hj
  cases hf : s.findCall f.callId with
  | none => rw [hf] at hj; split at hj <;> cases hj
  | some c =>
    rw [hf] at hj
    dsimp only at hj
    split_ifs at hj with _ _ _ _ hfree
    cases hj
    exact ⟨rfl, hfree⟩

theorem chainSegment_within {f : SegmentFields} {s : State} {r : CallRecord} (hr : s.findCall f.callId = some r)
    (hfree : s.store.poolFree ≠ 0) : Within s (chainSegment f s) := by
  obtain hid := findCall_callId hr
  refine Within.trans ?_ (noteRequested_within _ _ _)
  exact { Within.refl s with
    store := fun h => by
      rw [storeInv_iff] at h ⊢
      have := h.update (f := CallRecord.withSegment f) (free' := s.store.poolFree - 1) (findCall_mem hr) (fun _ => rfl) (by
        simp only [CallRecord.withSegment, List.length_append, List.length_singleton]
        rw [Nat.add_comm r.chain.length, ← Nat.add_assoc, Nat.sub_add_cancel (Nat.one_le_iff_ne_zero.2 hfree)])
      rwa [hid] at this
    oneGo := fun _ h => (pastGo_map fun c => by split <;> rfl).trans_le h
    owner := fun h => h.of_ids (fun _ => holdsCall_map fun c => by split <;> rfl) (.inl rfl) rfl rfl }

theorem segmentEffect_within (r : CallRecord) (s : State) : Within s (segmentEffect r s) := by
  unfold segmentEffect
  split
  · exact Within.ite (fun _ => planCall_within _ s) (fun _ => .refl s)
  · exact (updateCall_within _ (f := fun r => { r with state := .running, holdStart := none }) (fun _ => ⟨rfl, rfl, rfl⟩) s).trans
      (beginNext_within _ _)
  all_goals exact .refl s

theorem applySegment_within (f : SegmentFields) (s : State) : Within s (applySegment f s) := by
  unfold applySegment
  split
  · exact .refl s
  · exact { Within.refl s with storeCounts := fun h => h.count 7 _ }
  · exact { Within.refl s with storeCounts := fun h => h.count 8 _ }
  · exact { Within.refl s with storeCounts := fun h => h.count 9 _ }
  · exact { Within.refl s with storeCounts := fun h => h.count 10 _ }
  · exact { Within.refl s with storeCounts := fun h => h.count 11 _ }
  · obtain ⟨hr, hfree⟩ := judgeSegment_taken ‹_›
    exact (chainSegment_within hr hfree).trans ((segmentEffect_within _ _).trans (closeEvent_within _))

/-! ### PROBE (R193, R194) -/

theorem offerPart_within (n : Snapshot) (s : State) : Within s (offerPart n s) := (offer_within _ _).after { Within.refl s with }

theorem clearPage_within (page : Nat) (s : State) : Within s (clearPage page s) := by
  unfold clearPage
  split
  · exact { Within.refl s with
      colourCounts := fun _ => .zeros 3
      driveCounts := fun _ => .zeros 7 }
  · exact { Within.refl s with linkCounts := fun _ => .zeros 14 }
  · exact { Within.refl s with
      storeCounts := fun _ => .zeros 16
      aimCounts := fun _ => .zeros 2
      plannerCounts := fun _ => .zeros 8
      landingCounts := fun _ => .zeros 8 }
  · exact { Within.refl s with
      clockCounts := fun _ => .zeros 4
      powerCounts := fun _ => .zeros 6 }
  · exact { Within.refl s with coverCounts := fun _ => .zeros 11 }

theorem newSnapshot_within (page : Nat) (clear : Bool) (s : State) : Within s (newSnapshot page clear s) := by
  have h := offerPart_within ⟨page, pageBytes page s, 0⟩ s
  exact Within.ite (fun _ => h.trans (clearPage_within page _)) (fun _ => h)

theorem applyProbe_within (f : ProbeFields) (s : State) : Within s (applyProbe f s) := by
  refine Within.ite (fun _ => .refl s) (fun _ => ?_)
  split
  · exact newSnapshot_within _ _ s
  · exact Within.ite (fun _ => offerPart_within _ s) (fun _ => newSnapshot_within _ _ s)

/-! ### TICK and the line's events (R2 to R10, R18, R25) -/

theorem profileTick_within (s : State) : Within s (profileTick s) := by
  unfold profileTick
  split
  · exact .refl s
  · rename_i m hm
    exact Within.ite
      (fun _ => { Within.refl s with owner := fun h => ⟨fun k hk => by
        obtain rfl := Option.some.inj hk
        exact h.1 m hm, h.2⟩ })
      (fun _ => .refl s)

theorem fadeTick_within (s : State) : Within s (fadeTick s) := by
  unfold fadeTick
  split
  · exact .refl s
  · exact Within.ite (fun _ => { Within.refl s with }) (fun _ => { Within.refl s with })

theorem tickWork_within (s : State) : Within s (tickWork s) := by
  have hsync : Within s (frameSync (advanceClocks s)) := { Within.refl s with }
  exact hsync.trans ((profileTick_within _).trans ((fadeTick_within _).trans { Within.refl _ with }))

theorem discardFrame_within (r : DiscardReason) (levels : List Bool) (s : State) : Within s (discardFrame r levels s) :=
  { Within.refl s with
    linkCounts := fun h => bounded_countDiscard h r }

theorem countReceived_within (levels : List Bool) (s : State) : Within s (countReceived levels s) :=
  { Within.refl s with
    linkCounts := fun h => h.count 0 _ }

theorem startAttempt_within (b : TxBody) (s : State) : Within s (startAttempt b s) :=
  { Within.refl s with
    queue h := (queueInv_iff _).2 (((queueInv_iff s).1 h).markInFlight b) }

theorem loseArbitration_within (fr : Frame) (p : Nat) (s : State) : Within s (loseArbitration fr p s) :=
  { Within.refl s with
    queue := fun h => (queueInv_iff _).2 ((queueInv_iff s).1 h).arbLost
    linkCounts := fun h => h.count 2 _ }

theorem attemptAt_keeps (p : Nat) (k : LinkState) : attemptAt p k = { k with lineState := (attemptAt p k).lineState } := by
  unfold attemptAt
  split
  · rw [passByteOne_eq]
  · rfl

theorem clashLink_within (fr : Frame) (p : Nat) (s : State) :
    Within s { s with link := clashLink fr p (queueClash s.link.queue).1 s.link } := by
  unfold clashLink
  rw [attemptAt_keeps]
  exact { Within.refl s with
    queue := fun h => (queueInv_iff _).2 ((queueInv_iff s).1 h).clash
    linkCounts := fun h => h.count 3 _ }

theorem countDrop_within (s : State) : Within s (countDrop s) :=
  { Within.refl s with
    linkCounts := fun h => h.count 4 _ }

theorem sentLink_within (levels : List Bool) (s : State) : Within s { s with link := sentLink levels s.link } := by
  unfold sentLink
  rw [passByteOne_eq]
  exact { Within.refl s with
    queue := fun h => (queueInv_iff _).2 ((queueInv_iff s).1 h).success
    linkCounts := fun h => h.count 1 _ }

/-! ### Timers of the claim round and of the beacon (R38, R119) -/

theorem beaconNow_within (s : State) : Within s (beaconNow s) := (offer_within _ _).after { Within.refl s with }

theorem offerHeld_within (s : State) : Within s (offerHeld s) := by
  unfold offerHeld
  split
  · exact .refl s
  · exact Within.ite (fun _ => (offer_within _ _).after { Within.refl s with }) (fun _ => .refl s)

end Sys2Proof.Machine
end


section
/-! SUPPORT. What the events that change the station mode keep, and where they leave the mode and solo mode: the link-lost
condition set and cleared, READY, FAULTED, the configuration read, a RESTART and the resets. -/

namespace Sys2Proof.Machine

/-! ### Events that end in a mode (R184) -/

/-- An event that ends in a mode of its own, the invariants kept: it writes no entry of the peer table and leaves the link-lost
condition. -/
structure Enters (m : StationMode) (s t : State) : Prop extends Kept s t where
  mode : t.station.mode = m
  ownStation : t.station.ownStation = s.station.ownStation
  linkLost : t.link.linkLost = s.link.linkLost
  peers : t.clock.peers = s.clock.peers

theorem Enters.refl (s : State) : Enters s.station.mode s s := ⟨.refl s, rfl, rfl, rfl, rfl⟩

theorem Enters.trans {m n : StationMode} {s t u : State} (h : Enters m s t) (k : Enters n t u) : Enters n s u where
  toKept := h.toKept.trans k.toKept
  mode := k.mode
  ownStation := k.ownStation.trans h.ownStation
  linkLost := k.linkLost.trans h.linkLost
  peers := k.peers.trans h.peers

/-- What follows inside the event leaves the mode entered. -/
theorem Enters.within {m : StationMode} {s t u : State} (hm : m ≠ .starting) (h : Enters m s t) (k : Within t u) :
    Enters m s u where
  toKept := h.toKept.trans k.toKept
  mode := (k.mode_of_ne (h.mode ▸ hm)).trans h.mode
  ownStation := k.ownStation.trans h.ownStation
  linkLost := k.linkLost.trans h.linkLost
  peers := k.peers.trans h.peers

theorem Within.enters {m : StationMode} {s t u : State} (h : Within s t) (k : Enters m t u) : Enters m s u where
  toKept := h.toKept.trans k.toKept
  mode := k.mode
  ownStation := k.ownStation.trans h.ownStation
  linkLost := k.linkLost.trans h.linkLost
  peers := k.peers.trans h.peers

theorem setMode_enters {m : StationMode} {s : State}
    (hs : s.station.mode ≠ .reset ∨ s.planner.motion = none ∨ m = .reset) :
    Enters m s (setMode m s) where
  toKept := setMode_kept hs
  mode := by simp
  ownStation := by simp
  linkLost := setMode_linkLost m s
  peers := setMode_clock_peers m s

/-! ### ISOLATED and solo mode (R120 to R122, R189) -/

theorem endRound_within (s : State) : Within s (endRound s) := { Within.refl s with }

theorem enterSolo_enters (s : State) : Enters s.station.mode s (enterSolo s) := by
  unfold enterSolo
  split
  · exact { Enters.refl s with }
  · exact { Enters.refl s with powerCounts := fun h => h.count 5 _ }

theorem enterSolo_solo (s : State) : (enterSolo s).power.solo.isSome = true := by
  unfold enterSolo; split <;> rfl

/-- The state of a station going to ISOLATED with its claim fitted, the calls not yet planned again (R62, R120, R189). -/
def soloEntered (s : State) : State :=
  enterSolo (endRound (endCalls .cut ((isolatedMode s).callIds CallRecord.carriedOut) (isolatedMode s)))

theorem enterIsolated_within (s : State) : Within (soloEntered s) (enterIsolated s) :=
  (planAgain_within _).trans (closeEvent_within _)

theorem enterIsolated_enters {s : State} (hs : s.station.mode ≠ .reset) : Enters .isolated s (enterIsolated s) := by
  have hmode : Enters .isolated s (isolatedMode s) :=
    Within.enters (t := { s with station.faultCode := 9 }) { Within.refl s with } (setMode_enters (.inl hs))
  have hended : Enters .isolated s (endRound (endCalls .cut ((isolatedMode s).callIds CallRecord.carriedOut) (isolatedMode s))) :=
    (hmode.within (by decide) (endCalls_within .cut _ _)).within (by decide) (endRound_within _)
  have hsolo : Enters .isolated s (soloEntered s) := hended.trans (hended.mode ▸ enterSolo_enters _)
  exact hsolo.within (by decide) (enterIsolated_within s)

theorem enterIsolated_solo (s : State) : (enterIsolated s).power.solo.isSome = true := by
  rw [(enterIsolated_within s).solo]
  exact enterSolo_solo _

/-- The state of a station just READY again, with its claim at what it draws and holds (R122, R184). -/
def soloLeft (s : State) : State := setMode .ready { s with power.granted := s.soloLeaveClaim, power.solo := none }

theorem leaveIsolated_within (s : State) : Within (soloLeft s) (leaveIsolated s) :=
  (endWaitNow_within _).trans (closeEvent_within _)

theorem leaveIsolated_enters {s : State} (hs : s.station.mode ≠ .reset) : Enters .ready s (leaveIsolated s) := by
  have hoff : Enters s.station.mode s { s with power.granted := s.soloLeaveClaim, power.solo := none } := { Enters.refl s with }
  exact (hoff.trans (setMode_enters (.inl hs))).within (by decide) (leaveIsolated_within s)

theorem leaveIsolated_solo (s : State) : (leaveIsolated s).power.solo = none := by
  rw [(leaveIsolated_within s).solo]
  simp [soloLeft]

/-! ### The link-lost condition (R20 to R22) -/

@[simp] theorem setLinkLost_station (s : State) : (setLinkLost s).station = s.station := by
  unfold setLinkLost; split <;> rfl

@[simp] theorem setLinkLost_power (s : State) : (setLinkLost s).power = s.power := by
  unfold setLinkLost; split <;> rfl

@[simp] theorem setLinkLost_notices (s : State) : (setLinkLost s).notices = s.notices := by
  unfold setLinkLost; split <;> rfl

theorem setLinkLost_kept (s : State) : Kept s (setLinkLost s) := by
  unfold setLinkLost
  split
  · exact .refl s
  · exact { Within.refl s with linkCounts := fun h => h.count 13 _ }

theorem loseLink_of_ready {s : State} (hl : s.link.linkLost = false) (hm : s.station.mode = .ready) :
    loseLink s = enterIsolated (setLinkLost s) := by
  simp [loseLink, setLinkLost, hl, hm]

theorem loseLink_of_lost {s : State} (hl : s.link.linkLost = true) : loseLink s = s := by simp [loseLink, hl]

theorem loseLink_kept (s : State) : Kept s (loseLink s) := by
  by_cases hl : s.link.linkLost = true
  · rw [loseLink_of_lost hl]; exact .refl s
  · by_cases hm : s.station.mode = .ready
    · rw [loseLink_of_ready (by simpa using hl) hm]
      exact (setLinkLost_kept s).trans (enterIsolated_enters (by simp [hm])).toKept
    · rw [loseLink_of_not_ready hm]
      exact setLinkLost_kept s

/-- A station whose link-lost condition has ended in ISOLATED: READY with solo mode OFF (R22, R122). -/
structure Rejoins (s t : State) : Prop extends Kept s t where
  ownStation : t.station.ownStation = s.station.ownStation
  was : s.station.mode = .isolated
  lost : s.link.linkLost = true
  mode : t.station.mode = .ready
  found : t.link.linkLost = false
  solo : t.power.solo = none

theorem Rejoins.inside {s t u : State} (h : Rejoins s t) (k : Inside t u) : Rejoins s u where
  toKept := h.toKept.trans k.toKept
  ownStation := k.ownStation.trans h.ownStation
  was := h.was
  lost := h.lost
  mode := (k.mode_of_ne (by simp [h.mode])).trans h.mode
  found := k.linkLost.trans h.found
  solo := k.solo.trans h.solo

/-- What a station does at most in an event that may end its link-lost condition: it goes on in its mode, or rejoins. -/
def Resumes (s t : State) : Prop := Steady s t ∨ Rejoins s t

theorem Resumes.kept {s t : State} (h : Resumes s t) : Kept s t := h.elim (fun k => k.toKept) (fun k => k.toKept)

theorem Resumes.inside {s t u : State} (h : Resumes s t) (k : Inside t u) : Resumes s u :=
  h.imp (fun h => h.trans k.toSteady) (fun h => h.inside k)

/-- Only STARTING and HOMING are no modes to look back through such an operation (R184). -/
theorem Steady.was_of_mode {s t : State} (h : Steady s t) (ht : t.station.mode ≠ .homing) :
    s.station.mode = t.station.mode :=
  (h.mode.resolve_right fun hh => ht hh.2).symm

theorem Inside.resumes {s t u : State} (h : Inside s t) (k : Resumes t u) : Resumes s u :=
  k.imp (fun k => h.toSteady.trans k) fun k =>
    { toKept := h.toKept.trans k.toKept
      ownStation := k.ownStation.trans h.ownStation
      was := (h.was_of_mode (by simp [k.was])).trans k.was
      lost := h.linkLost ▸ k.lost
      mode := k.mode
      found := k.found
      solo := k.solo }

theorem checkMarks_resumes (s : State) : Resumes s (checkMarks s) := by
  unfold checkMarks
  split
  · rename_i hmarks
    have hlost : s.link.linkLost = true := by simp_all
    dsimp only
    split
    · rename_i hm
      have hm' : s.station.mode = .isolated := hm
      have hcleared : Kept s
        { s with link.linkLost := false, link.receiveMark := false, link.sendMark := false } := { Within.refl s with }
      have hleft := leaveIsolated_enters
        (s := { s with link.linkLost := false, link.receiveMark := false, link.sendMark := false }) (by simp [hm'])
      exact .inr {
        toKept := hcleared.trans hleft.toKept
        ownStation := hleft.ownStation
        was := hm'
        lost := hlost
        mode := hleft.mode
        found := hleft.linkLost
        solo := leaveIsolated_solo _ }
    · exact .inl { Within.refl s with }
  · exact .inl (.refl s)

theorem checkMarks_of_found {s : State} (h : s.link.linkLost = false) : checkMarks s = s := by simp [checkMarks, h]

theorem markReceive_resumes (s : State) : Resumes s (markReceive s) :=
  Inside.resumes (t := { s with link.receiveMark := s.link.linkLost || s.link.receiveMark }) { Within.refl s with } (checkMarks_resumes _)

theorem markSend_resumes (s : State) : Resumes s (markSend s) :=
  Inside.resumes (t := { s with link.sendMark := s.link.linkLost || s.link.sendMark }) { Within.refl s with } (checkMarks_resumes _)

/-- The blocks of its kind find a frame with the receive mark set, perhaps rejoined, and its sender entered (R12, R22). -/
theorem handed_resumes (fr : Frame) (s : State) : Resumes s (handed fr s) :=
  ((countReceived_within _ s).toInside.resumes (markReceive_resumes _)).inside (peerStage_inside fr _)

theorem sent_resumes (fr : Frame) (s : State) : Resumes s (sent fr s) :=
  (sentLink_within _ s).toInside.resumes (markSend_resumes _)

theorem verdictOf_none {own : Byte} {fr : Frame} (h : verdictOf own fr = none) :
    fr.body.fieldsOk = true ∧ fr.station ≠ own := by
  unfold verdictOf at h
  split_ifs at h with _ _ hf hn
  exact ⟨by simpa using hf, by simpa using hn⟩

/-- A frame is not taken, is discarded, or reaches the blocks of its kind, its fields good and its sender another station
(R5, R12). -/
theorem receiveFrame_course (fr : Frame) (act : State → State) (s : State) :
    Within s (receiveFrame fr act s)
      ∨ (s.receives fr.bytes none = true ∧ fr.body.fieldsOk = true ∧ fr.station ≠ s.station.ownStation)
        ∧ receiveFrame fr act s = conclude (act (handed fr s)) := by
  unfold receiveFrame
  split
  · split
    · exact .inl (discardFrame_within _ _ s)
    · exact .inr ⟨⟨‹_›, verdictOf_none ‹_›⟩, rfl⟩
  · exact .inl (.refl s)

/-- A frame whose blocks keep to an event's inside (R12). -/
theorem receiveFrame_resumes {fr : Frame} {act : State → State} (hact : fr.body.fieldsOk = true → ∀ u, Inside u (act u))
    (s : State) : Resumes s (receiveFrame fr act s) := by
  rcases receiveFrame_course fr act s with h | ⟨⟨-, hok, -⟩, h⟩
  · exact .inl h.toSteady
  · rw [h]
    exact ((handed_resumes fr s).inside (hact hok _)).inside (conclude_within _).toInside

/-! ### The drop of a fourth clash (R18, R20) -/

theorem afterDrop_cases (b : TxBody) (s : State) :
    ∃ u, Within s u ∧ (afterDrop b s = u ∨ afterDrop b s = loseLink u) := by
  have h := (countDrop_within s).trans (toldDrop_within b _)
  refine ⟨_, h, ?_⟩
  unfold afterDrop
  dsimp only
  split
  · exact .inr rfl
  · exact .inl rfl

/-- A loss of the link in an event: the station goes on as it was, or READY is left for ISOLATED with solo mode ON (R20, R184). -/
structure Isolates (s t : State) : Prop extends Kept s t where
  ownStation : t.station.ownStation = s.station.ownStation
  was : s.station.mode = .ready
  lost : s.link.linkLost = false
  mode : t.station.mode = .isolated
  found : t.link.linkLost = true
  solo : t.power.solo.isSome = true
  peers : t.clock.peers = s.clock.peers

theorem Isolates.within {s t u : State} (h : Isolates s t) (k : Within t u) : Isolates s u where
  toKept := h.toKept.trans k.toKept
  ownStation := k.ownStation.trans h.ownStation
  was := h.was
  lost := h.lost
  mode := (k.mode_of_ne (by simp [h.mode])).trans h.mode
  found := k.linkLost.trans h.found
  solo := k.solo ▸ h.solo
  peers := k.peers.trans h.peers

theorem Within.isolates {s t u : State} (h : Within s t) (k : Isolates t u) : Isolates s u where
  toKept := h.toKept.trans k.toKept
  ownStation := k.ownStation.trans h.ownStation
  was := (h.was_of_mode (by simp [k.was])).trans k.was
  lost := h.linkLost ▸ k.lost
  mode := k.mode
  found := k.found
  solo := k.solo
  peers := k.peers.trans h.peers

theorem setLinkLost_steady (s : State) : Steady s (setLinkLost s) where
  toKept := setLinkLost_kept s
  ownStation := by rw [setLinkLost_station]
  solo := by rw [setLinkLost_power]
  granted _ := by rw [setLinkLost_power]
  mode := .inl (by rw [setLinkLost_station])
  calm h := ⟨by simpa [Calm] using h, by rw [setLinkLost_station]⟩

theorem loseLink_cases (s : State) :
    (Steady s (loseLink s) ∧ (loseLink s).clock.peers = s.clock.peers) ∨ Isolates s (loseLink s) := by
  by_cases hl : s.link.linkLost = true
  · rw [loseLink_of_lost hl]
    exact .inl ⟨.refl s, rfl⟩
  · by_cases hm : s.station.mode = .ready
    · have hl' : s.link.linkLost = false := by simpa using hl
      have hent := enterIsolated_enters (s := setLinkLost s) (by simp [hm])
      rw [loseLink_of_ready hl' hm]
      exact .inr {
        toKept := (setLinkLost_kept s).trans hent.toKept
        ownStation := hent.ownStation.trans (by rw [setLinkLost_station])
        was := hm
        lost := hl'
        mode := hent.mode
        found := hent.linkLost.trans (setLinkLost_linkLost s)
        solo := enterIsolated_solo _
        peers := hent.peers.trans (by rw [setLinkLost_clock]) }
    · rw [loseLink_of_not_ready hm]
      exact .inl ⟨setLinkLost_steady s, by rw [setLinkLost_clock]⟩

/-- A clash: the station goes on in its mode, or loses the link in READY (R9, R18, R20). -/
theorem clashAt_cases (fr : Frame) (p : Nat) (s : State) :
    (Steady s (clashAt fr p s) ∧ (clashAt fr p s).clock.peers = s.clock.peers) ∨ Isolates s (clashAt fr p s) := by
  have hlink := clashLink_within fr p s
  unfold clashAt
  dsimp only
  split
  · exact .inl ⟨hlink.toSteady, rfl⟩
  · rename_i b _
    obtain ⟨u, hu, hdrop | hdrop⟩ := afterDrop_cases b
      { s with link := clashLink fr p (queueClash s.link.queue).1 s.link } <;> rw [hdrop]
    · have h := (hlink.trans hu).trans (conclude_within u)
      exact .inl ⟨h.toSteady, h.peers⟩
    · have hsu := hlink.trans hu
      rcases loseLink_cases u with ⟨hk, hp⟩ | hk
      · have hc := conclude_within (loseLink u)
        exact .inl ⟨(hsu.toSteady.trans hk).trans hc.toSteady, (hc.peers.trans hp).trans hsu.peers⟩
      · exact .inr ((hsu.isolates hk).within (conclude_within _))

/-! ### READY (R113, R184, R188, R189) -/

/-- The state of a station just READY, the calls that are due gone, before the link is looked at (R179, R184, R188). -/
def readyEntered (s : State) : State :=
  closeEvent (goTests (setMode .ready
    (requestLowering (State.idleClaim { s with drive.homing := none }) { s with drive.homing := none })))

theorem readyEntered_within (s : State) :
    Within (setMode .ready (requestLowering (State.idleClaim { s with drive.homing := none }) { s with drive.homing := none }))
      (readyEntered s) := (goTests_within _).trans (closeEvent_within _)

theorem lowered_within (s : State) : Within s
    (requestLowering (State.idleClaim { s with drive.homing := none }) { s with drive.homing := none }) :=
  Within.trans (t := { s with drive.homing := none }) { Within.refl s with } (request_within _ _ _ _)

theorem readyEntered_enters {s : State} (hs : s.station.mode ≠ .reset) : Enters .ready s (readyEntered s) := by
  have hlow := lowered_within s
  refine (hlow.enters (setMode_enters (.inl ?_))).within (by decide) (readyEntered_within s)
  rcases hlow.mode with h | h
  · rw [h]; exact hs
  · rw [h.2]; decide

theorem readyEntered_solo (s : State) : (readyEntered s).power.solo = s.power.solo := by
  rw [(readyEntered_within s).solo, setMode_power, (lowered_within s).solo]

theorem readyEntered_granted {s : State} (h : s.power.solo = none) : (readyEntered s).power.granted = s.power.granted := by
  rw [(readyEntered_within s).granted (by rw [setMode_power, (lowered_within s).solo, h]), setMode_power,
    (lowered_within s).granted h]

theorem readyEntered_linkLost {s : State} (hs : s.station.mode ≠ .reset) :
    (readyEntered s).link.linkLost = s.link.linkLost := (readyEntered_enters hs).linkLost

theorem enterReady_eq (s : State) :
    enterReady s = if (readyEntered s).link.linkLost then enterIsolated (readyEntered s) else readyEntered s := rfl

theorem enterReady_of_found {s : State} (hs : s.station.mode ≠ .reset) (hl : s.link.linkLost = false) :
    enterReady s = readyEntered s := by
  rw [enterReady_eq, if_neg (by simp [readyEntered_linkLost hs, hl])]

theorem enterReady_of_lost {s : State} (hs : s.station.mode ≠ .reset) (hl : s.link.linkLost = true) :
    enterReady s = enterIsolated (readyEntered s) := by
  rw [enterReady_eq, if_pos (by simp [readyEntered_linkLost hs, hl])]

/-- The end of start-up: READY, or with the link lost ISOLATED with solo mode ON (R184, R188, R189). -/
structure Readies (s t : State) : Prop extends Kept s t where
  ownStation : t.station.ownStation = s.station.ownStation
  linkLost : t.link.linkLost = s.link.linkLost
  peers : t.clock.peers = s.clock.peers
  mode : t.station.mode = if s.link.linkLost then .isolated else .ready
  solo : if s.link.linkLost then t.power.solo.isSome = true else t.power.solo = s.power.solo
  granted : s.link.linkLost = false → s.power.solo = none → t.power.granted = s.power.granted

theorem enterReady_readies {s : State} (hs : s.station.mode ≠ .reset) : Readies s (enterReady s) := by
  have h := readyEntered_enters hs
  by_cases hl : s.link.linkLost = true
  · have hi := h.trans (enterIsolated_enters (s := readyEntered s) (by simp [h.mode]))
    rw [enterReady_of_lost hs hl]
    exact {
      toKept := hi.toKept
      ownStation := hi.ownStation
      linkLost := hi.linkLost
      peers := hi.peers
      mode := by rw [if_pos hl]; exact hi.mode
      solo := by rw [if_pos hl]; exact enterIsolated_solo _
      granted := fun hf => by rw [hl] at hf; cases hf }
  · rw [enterReady_of_found hs (by simpa using hl)]
    exact {
      toKept := h.toKept
      ownStation := h.ownStation
      linkLost := h.linkLost
      peers := h.peers
      mode := by rw [if_neg hl]; exact h.mode
      solo := by rw [if_neg hl]; exact readyEntered_solo s
      granted := fun _ => readyEntered_granted }

/-! ### FAULTED (R190) -/

/-- The state of a station just FAULTED, its motion stopped and its calls ended (R190). -/
def stoppedByFault (code : Nat) (s : State) : State :=
  let s1 := haltMotion (dark (setMode .faulted { s with station.faultCode := code }))
  endCalls .cut (s1.callIds (fun _ => true)) s1

theorem enterFault_of_monitored {s : State} (h : s.station.mode.monitored = true) (code : Nat) :
    enterFault code s = conclude (faultDrive (faultPower (stoppedByFault code s))) := if_pos h

theorem enterFault_of_not_monitored {s : State} (h : s.station.mode.monitored = false) (code : Nat) :
    enterFault code s = { s with station.faultCode := code } := if_neg (by simp [h])

theorem stoppedByFault_within (code : Nat) (s : State) :
    Within (setMode .faulted { s with station.faultCode := code }) (stoppedByFault code s) :=
  (dark_within _).trans ((haltMotion_within _).trans (endCalls_within _ _ _))

theorem stoppedByFault_enters {s : State} (h : s.station.mode ≠ .reset) (code : Nat) :
    Enters .faulted s (stoppedByFault code s) := by
  have hmode : Enters .faulted s (setMode .faulted { s with station.faultCode := code }) :=
    Within.enters (t := { s with station.faultCode := code }) { Within.refl s with } (setMode_enters (.inl h))
  exact hmode.within (by decide) (stoppedByFault_within code s)

/-- The power share unit at an entry to FAULTED, before its request (R113, R122, R123). -/
def soloCleared (s : State) : State :=
  { endRound s with power.solo := none, power.granted := if s.soloOn then s.fig.still else s.power.granted }

theorem soloCleared_solo (s : State) : (soloCleared s).power.solo = none := rfl

theorem soloCleared_granted {s : State} (h : s.power.solo = none) : (soloCleared s).power.granted = s.power.granted := by
  simp [soloCleared, State.soloOn, h]

theorem soloCleared_enters (s : State) : Enters s.station.mode s (soloCleared s) := { Enters.refl s with }

theorem faultPower_within (s : State) : Within (soloCleared s) (faultPower s) := request_within _ _ _ _

theorem faultDrive_within (s : State) : Within s (faultDrive s) := { Within.refl s with }

theorem faulted_within (s : State) : Within (soloCleared s) (conclude (faultDrive (faultPower s))) :=
  (faultPower_within s).trans ((faultDrive_within _).trans (conclude_within _))

/-- The entry to FAULTED from a monitored mode, solo mode OFF after it (R122, R190). -/
structure Faults (s t : State) : Prop extends Enters .faulted s t where
  monitored : s.station.mode.monitored = true
  solo : t.power.solo = none
  granted : s.power.solo = none → t.power.granted = s.power.granted

theorem not_reset_of_monitored {m : StationMode} (h : m.monitored = true) : m ≠ .reset := by
  rintro rfl; cases h

theorem enterFault_faults {s : State} (h : s.station.mode.monitored = true) (code : Nat) : Faults s (enterFault code s) := by
  have hstop := stoppedByFault_enters (not_reset_of_monitored h) code
  have hclear : Enters .faulted s (soloCleared (stoppedByFault code s)) :=
    hstop.trans (hstop.mode ▸ soloCleared_enters _)
  have hin := stoppedByFault_within code s
  have hend := faulted_within (stoppedByFault code s)
  rw [enterFault_of_monitored h]
  exact {
    toEnters := hclear.within (by decide) hend
    monitored := h
    solo := hend.solo.trans (soloCleared_solo _)
    granted := fun hsolo => by
      have hoff : (setMode .faulted { s with station.faultCode := code }).power.solo = none := by
        rw [setMode_power]; exact hsolo
      rw [hend.granted (soloCleared_solo _), soloCleared_granted (hin.solo.trans hoff), hin.granted hoff, setMode_power] }

theorem Within.faults {s t u : State} (h : Within s t) (hm : t.station.mode = s.station.mode) (k : Faults t u) :
    Faults s u where
  toEnters := h.enters k.toEnters
  monitored := hm ▸ k.monitored
  solo := k.solo
  granted hs := (k.granted (h.solo.trans hs)).trans (h.granted hs)

/-! ### The configuration read (R186 to R188, R191) -/

/-- The event of a configuration read that passes goes on from here (R186). -/
theorem passRead_within (rec : List Byte) (s : State) : Within (setMode .starting (takeRecord rec s)) (passRead rec s) := by
  have hask (u : State) : Within u (if u.station.homingNeeded then askHoming u else u) :=
    Within.ite (fun _ => request_within _ _ _ u) (fun _ => .refl u)
  exact (hask _).trans (conclude_within _)

theorem takeRecord_kept (rec : List Byte) (s : State) : Kept s (takeRecord rec s) := by
  unfold takeRecord
  dsimp only
  split <;> exact { Within.refl s with }

theorem takeRecord_mode (rec : List Byte) (s : State) : (takeRecord rec s).station.mode = s.station.mode := by
  unfold takeRecord; dsimp only; split <;> rfl

theorem takeRecord_solo (rec : List Byte) (s : State) : (takeRecord rec s).power.solo = s.power.solo := by
  unfold takeRecord; dsimp only; split <;> rfl

theorem takeRecord_notices (rec : List Byte) (s : State) : (takeRecord rec s).notices = s.notices := by
  unfold takeRecord; dsimp only; split <;> rfl

theorem takeRecord_peers (rec : List Byte) (s : State) : (takeRecord rec s).clock.peers = s.clock.peers := by
  unfold takeRecord; dsimp only; split <;> rfl

theorem passRead_kept {s : State} (hs : s.station.mode ≠ .reset) (rec : List Byte) : Kept s (passRead rec s) :=
  (takeRecord_kept rec s).trans ((setMode_kept (.inl (by rw [takeRecord_mode]; exact hs))).trans
    (passRead_within rec s).toKept)

theorem failRead_kept {s : State} (hs : s.station.mode ≠ .reset) (code : Nat) : Kept s (failRead code s) :=
  Kept.trans (t := { s with
    station.faultCode := code, station.record := none, station.figures := none, station.restarted := false,
    station.homingNeeded := true, aim.pose := none, drive.axesOn := false, power.granted := 0, power.settle := none })
    { Within.refl s with } (setMode_kept (.inl hs))

theorem endRead_kept {s : State} (hs : s.station.mode ≠ .reset) (rec : List Byte) : Kept s (endRead rec s) := by
  have hown : Kept s { s with station.ownStation := ownNumberOf rec } := { Within.refl s with }
  unfold endRead
  dsimp only
  split
  · exact hown.trans (failRead_kept (s := { s with station.ownStation := ownNumberOf rec }) hs _)
  · exact hown.trans (passRead_kept (s := { s with station.ownStation := ownNumberOf rec }) hs _)

/-! ### RESTART and STOP (R60, R61, R191) -/

theorem coverInv_cleared {s : State} (htracks : s.cover.tracks = List.replicate Config.targets .blank)
    (hlists : s.cover.lists = List.replicate Config.targets []) : CoverInv s := by
  refine ⟨by rw [htracks]; rfl, by rw [hlists]; rfl, fun l hl => ?_⟩
  rw [hlists] at hl
  obtain rfl := List.eq_of_mem_replicate hl
  exact .nil

theorem OwnerInv.of_none {s : State} (hm : s.planner.motion = none) (hr : s.cover.role = none) : OwnerInv s :=
  ⟨by simp [hm], by simp [hr]⟩

theorem performRestart_kept (s : State) : Kept s (performRestart s) := by
  have hmode : Kept s (setMode .config (dark (haltMotion s))) :=
    ((haltMotion_within s).trans (dark_within _)).toKept.trans (setMode_kept (.inr (.inl rfl)))
  exact { hmode with
    queue := fun _ => (queueInv_iff _).2 QueueOk.nil
    store := fun _ => (storeInv_iff _).2 TableOk.nil
    oneGo := fun _ _ => Nat.zero_le _
    cover := fun _ => coverInv_cleared rfl rfl
    owner := fun _ => OwnerInv.of_none (by simp [performRestart]) rfl }

theorem blackout_within (s : State) : Within s (blackout s) :=
  { Within.refl s with
    colourCounts := fun h => h.count 0 _ }

/-- The state of a STOP with its calls ended, before its lowering (R60, R61, R164). -/
def stopTaken (f : StopFields) (s : State) : State :=
  let s1 := endCalls .cut s.stopped s
  let s2 : State := { s1 with store.intake := if f.freeze then .held else .opened }
  if f.blackout then blackout s2 else s2

/-- The state of a STOP before its RESTART is looked at (R113). -/
def stopHeld (f : StopFields) (s : State) : State :=
  if s.station.mode.takesIntake then lowerAfterEnd (stopTaken f s) else stopTaken f s

theorem stopStation_eq (f : StopFields) (s : State) :
    stopStation f s = if f.restart then performRestart (freshen (stopHeld f s)) else stopHeld f s := rfl

theorem stopTaken_within (f : StopFields) (s : State) : Within s (stopTaken f s) := by
  have hend := endCalls_within .cut s.stopped s
  unfold stopTaken
  dsimp only
  split
  · exact hend.trans ((blackout_within _).after { Within.refl _ with })
  · exact hend.trans { Within.refl _ with }

theorem stopHeld_within (f : StopFields) (s : State) : Within s (stopHeld f s) := by
  unfold stopHeld
  split
  · exact (stopTaken_within f s).trans (lowerAfterEnd_within _)
  · exact stopTaken_within f s

/-- A station restarting: its own number stands, solo mode is OFF and the peer table empty (R191). -/
structure Restarts (s t : State) : Prop extends Kept s t where
  ownStation : t.station.ownStation = s.station.ownStation
  mode : t.station.mode = .config
  solo : t.power.solo = none
  peers : t.clock.peers = []
  granted : s.power.solo = none → t.power.granted = s.power.granted

theorem performRestart_restarts (s : State) : Restarts s (performRestart s) where
  toKept := performRestart_kept s
  ownStation := by simp [performRestart]
  mode := by simp [performRestart]
  solo := rfl
  peers := rfl
  granted _ := by simp [performRestart, restartPower]

theorem Within.restarts {s t u : State} (h : Within s t) (k : Restarts t u) : Restarts s u where
  toKept := h.toKept.trans k.toKept
  ownStation := k.ownStation.trans h.ownStation
  mode := k.mode
  solo := k.solo
  peers := k.peers
  granted hs := (k.granted (h.solo.trans hs)).trans (h.granted hs)

theorem stopStation_of_restart {f : StopFields} (hf : f.restart = true) (s : State) : Restarts s (stopStation f s) := by
  rw [stopStation_eq, if_pos hf]
  exact ((stopHeld_within f s).trans (freshen_within _)).restarts (performRestart_restarts _)

theorem applyStop_cases (f : StopFields) (s : State) :
    Within s (applyStop f s) ∨ (f.restart = true ∧ s.inScope f.scope = true) ∧ Restarts s (applyStop f s) := by
  unfold applyStop
  split
  · by_cases hf : f.restart = true
    · exact .inr ⟨⟨hf, ‹_›⟩, stopStation_of_restart hf s⟩
    · rw [stopStation_eq, if_neg hf]
      exact .inl (stopHeld_within f s)
  · exact .inl (.refl s)

theorem Restarts.within {s t u : State} (h : Restarts s t) (k : Within t u) : Restarts s u where
  toKept := h.toKept.trans k.toKept
  ownStation := k.ownStation.trans h.ownStation
  mode := (k.mode_of_ne (by simp [h.mode])).trans h.mode
  solo := k.solo.trans h.solo
  peers := k.peers.trans h.peers
  granted hs := (k.granted h.solo).trans (h.granted hs)

/-! ### Resets (R185) -/

/-- The invariants of `Kept` hold of an empty block (R185). -/
theorem Kept.of_reset (s : State) (p : List Instr) : Kept s { State.reset with pending := p } where
  queue _ := (queueInv_iff _).2 QueueOk.nil
  store _ := (storeInv_iff _).2 TableOk.nil
  oneGo _ _ := Nat.zero_le _
  linkCounts _ := .zeros 14
  clockCounts _ := .zeros 4
  storeCounts _ := .zeros 16
  aimCounts _ := .zeros 2
  plannerCounts _ := .zeros 8
  powerCounts _ := .zeros 6
  landingCounts _ := .zeros 8
  coverCounts _ := .zeros 11
  colourCounts _ := .zeros 3
  driveCounts _ := .zeros 7
  cover _ := coverInv_cleared rfl rfl
  owner _ := OwnerInv.of_none rfl rfl

theorem holdReset_kept (s : State) : Kept s (holdReset s) := by
  have h : Kept s (setMode .reset s) := setMode_kept (.inr (.inr rfl))
  exact { h with
    owner := fun ho => ⟨fun m hm => by
        have := (h.owner ho).1 m hm
        cases howner : m.owner with
        | call id => rw [howner] at this; exact this
        | follow => exact .inr (by simp [holdReset]),
      fun r hr => by cases hr⟩ }

/-! ### The drive port (R175 to R181) -/

theorem recordFrame_within (status : Slot) (enc : Int × Int) (s : State) : Within s (recordFrame status enc s) :=
  { Within.refl s with
    driveCounts := fun h => (h.countIf 6 _).countIf 6 _ }

theorem takeTemperature_within (tau : Int) (s : State) : Within s (takeTemperature tau s) := by
  unfold takeTemperature
  split
  · exact { Within.refl s with }
  · exact { Within.refl s with colourCounts := fun h => (h.countIf 1 _).countIf 2 _ }

theorem followEncoders_within (enc : Int × Int) (s : State) : Within s (followEncoders enc s) :=
  Within.ite (fun _ => { Within.refl s with }) (fun _ => .refl s)

/-- What a present or absent in-frame does to the mode at most (R175, R176, R179): the station goes on, homing is complete, or a
fault is found, perhaps in the mode that the completed homing has just given. -/
inductive DriveCourse (s t : State) : Prop where
  | goesOn (h : Within s t)
  | readies (was : s.station.mode = .homing) (h : Readies s t)
  | faults (h : Faults s t)
  | readiedFaults (u : State) (was : s.station.mode = .homing) (h : Readies s u) (k : Faults u t)

theorem Faults.within {s t u : State} (h : Faults s t) (k : Within t u) : Faults s u where
  toEnters := h.toEnters.within (by decide) k
  monitored := h.monitored
  solo := k.solo.trans h.solo
  granted hs := (k.granted h.solo).trans (h.granted hs)

theorem Within.readies {s t u : State} (h : Within s t) (k : Readies t u) : Readies s u where
  toKept := h.toKept.trans k.toKept
  ownStation := k.ownStation.trans h.ownStation
  linkLost := k.linkLost.trans h.linkLost
  peers := k.peers.trans h.peers
  mode := h.linkLost ▸ k.mode
  solo := h.solo ▸ h.linkLost ▸ k.solo
  granted hl hs := (k.granted (h.linkLost.trans hl) (h.solo.trans hs)).trans (h.granted hs)

theorem Readies.within {s t u : State} (h : Readies s t) (k : Within t u) : Readies s u where
  toKept := h.toKept.trans k.toKept
  ownStation := k.ownStation.trans h.ownStation
  linkLost := k.linkLost.trans h.linkLost
  peers := k.peers.trans h.peers
  mode := by
    rw [k.mode_of_ne, h.mode]
    rw [h.mode]
    split <;> decide
  solo := k.solo ▸ h.solo
  granted hl hs := by
    have hsolo : t.power.solo = none := by
      have := h.solo
      rw [if_neg (by simp [hl])] at this
      exact this.trans hs
    exact (k.granted hsolo).trans (h.granted hl hs)

theorem enterFault_cases (code : Nat) (s : State) :
    (Within s (enterFault code s) ∧ (enterFault code s).station.mode = s.station.mode) ∨ Faults s (enterFault code s) := by
  cases h : s.station.mode.monitored with
  | true => exact .inr (enterFault_faults h code)
  | false =>
    rw [enterFault_of_not_monitored h]
    exact .inl ⟨{ Within.refl s with }, rfl⟩

theorem enterFault_after {s t : State} (h : Within s t) (hm : t.station.mode = s.station.mode) (code : Nat) :
    (Within s (enterFault code t) ∧ (enterFault code t).station.mode = s.station.mode) ∨ Faults s (enterFault code t) :=
  (enterFault_cases code t).imp (fun k => ⟨h.trans k.1, k.2.trans hm⟩) (h.faults hm)

theorem takeTemperature_mode (tau : Int) (s : State) : (takeTemperature tau s).station.mode = s.station.mode := by
  unfold takeTemperature; split <;> rfl

theorem handTemperature_cases (tau : Int) (s : State) :
    (Within s (handTemperature tau s) ∧ (handTemperature tau s).station.mode = s.station.mode)
      ∨ Faults s (handTemperature tau s) := by
  have h := takeTemperature_within tau s
  unfold handTemperature
  split
  · exact enterFault_after h (takeTemperature_mode tau s) 7
  · exact .inl ⟨h, takeTemperature_mode tau s⟩

/-- The state of a monitored station with the checks of an in-frame counted, before a fault they find is reported (R177, R178). -/
def driveCounted (m : StationMode) (status : Slot) (enc : Int × Int) (s : State) : State :=
  let pan := runNext (s.monitorRuns m) s.fig.followErrorLimit s.drive.outFrame.pan enc.1 s.drive.panRun
  let tilt := runNext (s.monitorRuns m) s.fig.followErrorLimit s.drive.outFrame.tilt enc.2 s.drive.tiltRun
  { s with
    drive.panRun := pan
    drive.tiltRun := tilt
    drive.counters.driverFaults := satIf (statusAnyFault status) s.drive.counters.driverFaults
    drive.counters.panFollowErrors := satIf (decide (Config.runLimit ≤ pan)) s.drive.counters.panFollowErrors
    drive.counters.tiltFollowErrors := satIf (decide (Config.runLimit ≤ tilt)) s.drive.counters.tiltFollowErrors }

theorem driveChecks_of_monitored {s : State} (h : s.station.mode.monitored = true) (m : StationMode) (status : Slot)
    (enc : Int × Int) :
    driveChecks m status enc s
      = match firstFault status (driveCounted m status enc s).drive.panRun (driveCounted m status enc s).drive.tiltRun with
        | some code => enterFault code (driveCounted m status enc s)
        | none => driveCounted m status enc s := if_pos h

theorem driveChecks_of_not_monitored {s : State} (h : s.station.mode.monitored = false) (m : StationMode) (status : Slot)
    (enc : Int × Int) :
    driveChecks m status enc s = { s with drive.absentCount := 0, drive.panRun := 0, drive.tiltRun := 0 } :=
  if_neg (by simp [h])

theorem driveCounted_within (m : StationMode) (status : Slot) (enc : Int × Int) (s : State) :
    Within s (driveCounted m status enc s) :=
  { Within.refl s with
    driveCounts := fun h => ((h.countIf 2 _).countIf 3 _).countIf 4 _ }

theorem driveChecks_cases (m : StationMode) (status : Slot) (enc : Int × Int) (s : State) :
    Within s (driveChecks m status enc s)
      ∨ s.station.mode.monitored = true ∧ Faults s (driveChecks m status enc s) := by
  have hcount := driveCounted_within m status enc s
  cases hmon : s.station.mode.monitored with
  | false =>
    rw [driveChecks_of_not_monitored hmon]
    exact .inl { Within.refl s with }
  | true =>
    rw [driveChecks_of_monitored hmon]
    split
    · exact (enterFault_after hcount rfl _).imp And.left fun k => ⟨rfl, k⟩
    · exact .inl hcount

theorem onTargetTest_mode (enc : Int × Int) (s : State) : (onTargetTest enc s).station.mode = s.station.mode := by
  unfold onTargetTest
  split
  · split
    · simp
    · rfl
  · rfl
  · rfl

theorem followEncoders_mode (enc : Int × Int) (s : State) : (followEncoders enc s).station.mode = s.station.mode := by
  unfold followEncoders; split <;> rfl

/-- The end of homing as a present in-frame finds it: nothing in any other mode (R179). -/
theorem homingCheck_cases (s : State) :
    homingCheck s = s ∨ s.station.mode = .homing ∧ Readies s (homingCheck s) := by
  unfold homingCheck
  split
  · rename_i h
    exact .inr ⟨h.1, enterReady_readies (by simp [h.1])⟩
  · exact .inl rfl

theorem presentFrame_course (status : Slot) (enc : Int × Int) (tau : Int) (s : State) :
    DriveCourse s (presentFrame status enc tau s) := by
  have hrec := recordFrame_within status enc s
  have hfollow (u : State) : Within u (onTargetTest enc (followEncoders enc u)) :=
    (followEncoders_within enc u).trans (onTargetTest_within enc _)
  have hfollowMode (u : State) : (onTargetTest enc (followEncoders enc u)).station.mode = u.station.mode :=
    (onTargetTest_mode enc _).trans (followEncoders_mode enc u)
  unfold presentFrame
  dsimp only
  generalize hv : onTargetTest enc (followEncoders enc (handTemperature tau (recordFrame status enc s))) = v
  rcases handTemperature_cases tau (recordFrame status enc s) with ⟨h, hm⟩ | h
  · have hsv : Within s v := hv ▸ (hrec.trans h).trans (hfollow _)
    have hmode : v.station.mode = s.station.mode := hv ▸ (hfollowMode _).trans hm
    rcases homingCheck_cases v with hc | ⟨hhoming, hc⟩
    · rw [hc]
      rcases driveChecks_cases s.station.mode status enc v with hd | ⟨-, hd⟩
      · exact .goesOn (hsv.trans hd)
      · exact .faults (hsv.faults hmode hd)
    · have hready := hsv.readies hc
      rcases driveChecks_cases s.station.mode status enc (homingCheck v) with hd | ⟨-, hd⟩
      · exact .readies (hmode.symm.trans hhoming) (hready.within hd)
      · exact .readiedFaults _ (hmode.symm.trans hhoming) hready hd
  · have hv' : Faults s v := hv ▸ (hrec.faults rfl h).within (hfollow _)
    have hc : homingCheck v = v := by simp [homingCheck, hv'.mode]
    rw [hc]
    rcases driveChecks_cases s.station.mode status enc v with hd | ⟨hmon, -⟩
    · exact .faults (hv'.within hd)
    · rw [hv'.mode] at hmon; cases hmon

/-- The state of a station that has just counted its tenth absent in-frame in a row (R175, R176). -/
def absentTenth (s : State) : State :=
  { s with
    drive.absentCount := Config.absentLimit
    drive.counters.absentFrames := satInc s.drive.counters.absentFrames
    drive.counters.linkLosses := satInc s.drive.counters.linkLosses }

theorem absentTenth_within (s : State) : Within s (absentTenth s) :=
  { Within.refl s with
    driveCounts := fun h => (h.count 0 _).count 1 _ }

theorem absentFrame_course (s : State) : DriveCourse s (absentFrame s) := by
  unfold absentFrame
  dsimp only
  split
  · split
    · rcases enterFault_after (absentTenth_within s) rfl 6 with ⟨k, -⟩ | k
      · exact .goesOn k
      · exact .faults k
    · exact .goesOn { Within.refl s with driveCounts := fun h => h.count 0 _ }
  · exact .goesOn { Within.refl s with driveCounts := fun h => h.count 0 _ }

theorem homingTooLong_cases (s : State) : Within s (homingTooLong s) ∨ Faults s (homingTooLong s) := by
  have h : Within s
    { s with drive.homing := none, drive.counters.homingTimeouts := satInc s.drive.counters.homingTimeouts } :=
    { Within.refl s with driveCounts := fun h => h.count 5 _ }
  exact (enterFault_after h rfl 8).imp And.left id

theorem DriveCourse.kept {s t : State} (h : DriveCourse s t) : Kept s t := by
  cases h with
  | goesOn h => exact h.toKept
  | readies _ h => exact h.toKept
  | faults h => exact h.toKept
  | readiedFaults u _ h k => exact h.toKept.trans k.toKept

/-! ### The readback of an own CLAIM, and the end of the view settle time (R106, R119) -/

theorem closeGranted_kept (w : Nat) (p : Purpose) (s : State) : Kept s (closeGranted w p s) := { Within.refl s with }

theorem settleRound_kept (f : ClaimFields) (granted : Bool) (s : State) : Kept s (settleRound f granted s) := by
  unfold settleRound
  split
  · exact .refl s
  · exact Kept.ite (fun _ => Kept.ite (fun _ => { Within.refl s with }) (fun _ => { Within.refl s with }))
      (fun _ => Kept.ite (fun _ => { Within.refl s with }) (fun _ => .refl s))

theorem ownClaimReadback_kept (f : ClaimFields) (s : State) : Kept s (ownClaimReadback f s) := by
  have hgrant : Kept s { s with power.granted := f.requested.toNat } := { Within.refl s with }
  have hrefuse : Kept s { s with power.counters.ownRefused := satInc s.power.counters.ownRefused } :=
    { Within.refl s with powerCounts := fun h => h.count 0 _ }
  exact Kept.ite (fun _ => .refl s)
    (fun _ => Kept.ite (fun _ => hgrant.trans (settleRound_kept _ _ _)) (fun _ => hrefuse.trans (settleRound_kept _ _ _)))

theorem coverCount_of_fieldsOk {f : CoverFields} (h : Payload.fieldsOk (.cover f) = true) : f.count.toNat ≤ 4 := by
  simp [Payload.fieldsOk] at h
  omega

/-- An own frame that is no good CLAIM keeps to an event's inside when it is read back (R10, R12). -/
theorem readbackOwn_inside {fr : Frame} (hfr : ∀ f, fr.body = .claim f → fr.body.fieldsOk = false) (s : State) :
    Inside s (readbackOwn fr s) := by
  unfold readbackOwn
  split
  · rename_i hok
    unfold dispatchOwn
    cases hbody : fr.body with
    | claim f => exact absurd hok (by simp [hfr f hbody])
    | cover f => exact (applyCover_within true _ (coverCount_of_fieldsOk (hbody ▸ hok)) s).toInside
    | offer f => exact (applyOffer_within f s).toInside
    | beacon f => exact (clockStep_within f s).toInside
    | report f => exact .refl s
    | stop f => exact .refl s
    | track f => exact .refl s
    | call f => exact .refl s
    | segment f => exact .refl s
    | probe f => exact .refl s
  · exact { Within.refl s with linkCounts := fun h => h.count 11 _ }

theorem readbackOwn_kept (fr : Frame) (s : State) : Kept s (readbackOwn fr s) := by
  cases hbody : fr.body with
  | claim f =>
    unfold readbackOwn dispatchOwn
    rw [hbody]
    exact Kept.ite (fun _ => ownClaimReadback_kept f s)
      (fun _ => { Within.refl s with linkCounts := fun h => h.count 11 _ })
  | _ => exact (readbackOwn_inside (by simp [hbody]) s).toKept

/-- The end of the view settle time: nothing but an offer, or the end of a start-up without homing (R119, R188). -/
theorem settleOver_cases (s : State) :
    Within s (settleOver s) ∨ s.station.mode = .starting ∧ Readies s (settleOver s) := by
  have h : Within s (offerHeld { s with power.settle := none }) :=
    Within.trans (t := { s with power.settle := none }) { Within.refl s with } (offerHeld_within _)
  have hm : (offerHeld { s with power.settle := none }).station.mode = s.station.mode := by
    unfold offerHeld
    split
    · rfl
    · split
      · rw [offer_station]
      · rfl
  unfold settleOver
  dsimp only
  split
  · rename_i hs
    exact .inr ⟨hm.symm.trans hs.1, h.readies (enterReady_readies (by simp [hs.1]))⟩
  · exact .inl h

end Sys2Proof.Machine
end


section
/-! SUPPORT. What every command does at most, in one walk through them, and the invariants that follow. -/

namespace Sys2Proof.Machine

/-! ### The course of a command -/

/-- The readback of an own CLAIM: the own granted claim stands or is the one asked for, and a homing grant may be told
(R106, R188). -/
structure Claims (f : ClaimFields) (s t : State) : Prop extends Kept s t where
  ownStation : t.station.ownStation = s.station.ownStation
  solo : t.power.solo = s.power.solo
  granted : s.power.solo = none → t.power.granted = s.power.granted ∨ t.power.granted = f.requested.toNat
  mode : t.station.mode = s.station.mode ∨ s.station.mode = .starting ∧ t.station.mode = .homing

/-- What a command does at most, by its kind (R184). -/
inductive Course (c : Instr) (s t : State) : Prop where
  | steady (h : Steady s t)
  | rejoins (h : Rejoins s t)
  | isolates (hc : c = .stuckLine ∨ ∃ p, c = .clash p) (h : Isolates s t)
  | claims (hc : c = .transmissionSuccess) (st : Byte) (f : ClaimFields) (htx : s.link.txFrame = some ⟨st, .claim f⟩)
      (h : Claims f s t)
  | readies (hc : s.station.mode = .starting ∧ c = .viewSettleEnd
      ∨ s.station.mode = .homing ∧ ∃ status pan tilt temp, c = .inFrame status pan tilt temp) (h : Readies s t)
  | faults (hc : (∃ status pan tilt temp, c = .inFrame status pan tilt temp) ∨ c = .homingTimeout) (h : Faults s t)
  | readiedFaults (hc : ∃ status pan tilt temp, c = .inFrame status pan tilt temp) (was : s.station.mode = .homing)
      (u : State) (h : Readies s u) (k : Faults u t)
  | restarts (st : Byte) (f : StopFields) (hc : c = .stop st f) (hline : s.link.lineState = .receiving)
      (hok : Payload.fieldsOk (.stop f) = true) (hf : f.restart = true) (u : State) (h : Resumes s u)
      (hscope : u.inScope f.scope = true) (k : Restarts u t)
  | reads (bytes : List Byte) (hc : c = .configurationReadEnd bytes) (was : s.station.mode = .config)
      (h : t = endRead (recordBytes bytes) s)
  | powerOn (hc : c = .powerOnReset) (h : t = { State.reset with pending := s.pending })
  | held (hc : c = .resetAsserted) (h : t = holdReset s)

theorem Inside.course {c : Instr} {s t : State} (h : Inside s t) : Course c s t := .steady h.toSteady

theorem Within.course {c : Instr} {s t : State} (h : Within s t) : Course c s t := .steady h.toSteady

theorem Resumes.course {c : Instr} {s t : State} (h : Resumes s t) : Course c s t := h.elim .steady .rejoins

theorem Course.ite {c : Instr} {s t : State} {p : Prop} [Decidable p] (h : p → Course c s t) :
    Course c s (if p then t else s) := by
  split
  · exact h ‹p›
  · exact .steady (.refl s)

/-! ### The own readback (R10, R106) -/

theorem settleRound_station (f : ClaimFields) (g : Bool) (s : State) : (settleRound f g s).station = s.station := by
  unfold settleRound
  split
  · rfl
  · split
    · split <;> rfl
    · split <;> rfl

theorem settleRound_link (f : ClaimFields) (g : Bool) (s : State) : (settleRound f g s).link = s.link := by
  unfold settleRound
  split
  · rfl
  · split
    · split <;> rfl
    · split <;> rfl

theorem settleRound_solo (f : ClaimFields) (g : Bool) (s : State) : (settleRound f g s).power.solo = s.power.solo := by
  unfold settleRound
  split
  · rfl
  · split
    · split <;> rfl
    · split <;> rfl

theorem settleRound_granted (f : ClaimFields) (g : Bool) (s : State) :
    (settleRound f g s).power.granted = s.power.granted := by
  unfold settleRound
  split
  · rfl
  · split
    · split <;> rfl
    · split <;> rfl

theorem ownClaimReadback_station (f : ClaimFields) (s : State) : (ownClaimReadback f s).station = s.station := by
  unfold ownClaimReadback
  split
  · rfl
  · split <;> rw [settleRound_station]

theorem ownClaimReadback_link (f : ClaimFields) (s : State) : (ownClaimReadback f s).link = s.link := by
  unfold ownClaimReadback
  split
  · rfl
  · split <;> rw [settleRound_link]

theorem ownClaimReadback_solo (f : ClaimFields) (s : State) : (ownClaimReadback f s).power.solo = s.power.solo := by
  unfold ownClaimReadback
  split
  · rfl
  · split <;> rw [settleRound_solo]

theorem ownClaimReadback_granted (f : ClaimFields) (s : State) :
    (ownClaimReadback f s).power.granted = s.power.granted
      ∨ (ownClaimReadback f s).power.granted = f.requested.toNat := by
  unfold ownClaimReadback
  split
  · exact .inl rfl
  · split <;> rw [settleRound_granted]
    · exact .inr rfl
    · exact .inl rfl

/-- What the readback of an own CLAIM comes to, told (R106, R116). -/
theorem ownClaim_claims (f : ClaimFields) (s : State) : Claims f s (conclude (ownClaimReadback f s)) := by
  have h := conclude_within (ownClaimReadback f s)
  exact {
    toKept := (ownClaimReadback_kept f s).trans h.toKept
    ownStation := h.ownStation.trans (by rw [ownClaimReadback_station])
    solo := h.solo.trans (ownClaimReadback_solo f s)
    granted := fun hs => by
      rw [h.granted ((ownClaimReadback_solo f s).trans hs)]
      exact ownClaimReadback_granted f s
    mode := by simpa only [ownClaimReadback_station] using h.mode }

theorem Steady.claims {f : ClaimFields} {s t u : State} (h : Steady s t) (k : Claims f t u) : Claims f s u where
  toKept := h.toKept.trans k.toKept
  ownStation := k.ownStation.trans h.ownStation
  solo := k.solo.trans h.solo
  granted hs := by
    rw [← h.granted hs]
    exact k.granted (h.solo.trans hs)
  mode := by
    rcases h.mode with hm | ⟨hs, ht⟩ <;> rcases k.mode with km | ⟨kt, ku⟩
    · exact .inl (km.trans hm)
    · exact .inr ⟨hm.symm.trans kt, ku⟩
    · exact .inr ⟨hs, km.trans ht⟩
    · rw [ht] at kt; cases kt

theorem readback_of_claim {st : Byte} {f : ClaimFields} (hok : Payload.fieldsOk (.claim f) = true) (s : State) :
    readbackOwn ⟨st, .claim f⟩ s = ownClaimReadback f s := if_pos hok

theorem ownClaim_linkLost (f : ClaimFields) (s : State) :
    (conclude (ownClaimReadback f s)).link.linkLost = s.link.linkLost := by
  rw [(conclude_within _).linkLost, ownClaimReadback_link]

theorem execTransmissionSuccess_course {s t : State} (ht : exec .transmissionSuccess s = .next t) :
    Course .transmissionSuccess s t := by
  cases htx : s.link.txFrame with
  | none =>
    rw [transmissionSuccess_of_none htx] at ht
    exact Host.Outcome.next.inj ht ▸ .steady (.refl s)
  | some fr =>
    cases hon : s.link.onLine with
    | false =>
      rw [transmissionSuccess_of_offLine hon] at ht
      exact Host.Outcome.next.inj ht ▸ .steady (.refl s)
    | true =>
      rw [transmissionSuccess_of_onLine htx hon] at ht
      obtain rfl := Host.Outcome.next.inj ht
      have hsent := sent_resumes fr s
      obtain ⟨st, body⟩ := fr
      by_cases hclaim : ∃ f, body = .claim f ∧ body.fieldsOk = true
      · obtain ⟨f, rfl, hok⟩ := hclaim
        rw [readback_of_claim hok]
        have hback := ownClaim_claims f (sent ⟨st, .claim f⟩ s)
        rcases hsent with h | h
        · exact .claims rfl st f htx (h.claims hback)
        · have hm := hback.mode.resolve_right (by simp [h.mode])
          exact .rejoins {
            toKept := h.toKept.trans hback.toKept
            ownStation := hback.ownStation.trans h.ownStation
            was := h.was
            lost := h.lost
            mode := hm.trans h.mode
            found := (ownClaim_linkLost _ _).trans h.found
            solo := hback.solo.trans h.solo }
      · have hother : ∀ f, body = .claim f → body.fieldsOk = false := fun f hf =>
          Bool.eq_false_iff.2 fun hok => hclaim ⟨f, hf, hok⟩
        exact ((hsent.inside (readbackOwn_inside hother _)).inside (conclude_within _).toInside).course

/-! ### Arrivals (R12) -/

theorem stop_course {st : Byte} {f : StopFields} {s : State} :
    Course (.stop st f) s (receiveFrame ⟨st, .stop f⟩ (applyStop f) s) := by
  rcases receiveFrame_course ⟨st, .stop f⟩ (applyStop f) s with h | ⟨⟨hr, hok, -⟩, h⟩
  · exact h.course
  · rw [h]
    have hh := handed_resumes ⟨st, .stop f⟩ s
    have hend := conclude_within (applyStop f (handed ⟨st, .stop f⟩ s))
    rcases applyStop_cases f (handed ⟨st, .stop f⟩ s) with hs | ⟨⟨hf, hscope⟩, hs⟩
    · exact ((hh.inside hs.toInside).inside hend.toInside).course
    · exact .restarts st f rfl (receiving_of_receives hr) hok hf _ hh hscope (hs.within hend)

theorem DriveCourse.course {c : Instr} {s t : State} (hc : ∃ status pan tilt temp, c = .inFrame status pan tilt temp)
    (h : DriveCourse s t) : Course c s t := by
  cases h with
  | goesOn h => exact h.course
  | readies was h => exact .readies (.inr ⟨was, hc⟩) h
  | faults h => exact .faults (.inl hc) h
  | readiedFaults u was h k => exact .readiedFaults hc was u h k

theorem Course.next {c : Instr} {s t u : State} (ht : Host.Outcome.next (φ := Fault) (ρ := Refusal) u = .next t)
    (h : Course c s u) : Course c s t := Host.Outcome.next.inj ht ▸ h

theorem stuckLine_course {s t : State} (ht : exec .stuckLine s = .next t) : Course .stuckLine s t := by
  refine Course.next ht ?_
  split
  · exact .steady (.refl s)
  · have hrun : Within s { s with link.dominantRun := Config.stuckRun, link.recessiveRun := 0 } := { Within.refl s with }
    rcases loseLink_cases { s with link.dominantRun := Config.stuckRun, link.recessiveRun := 0 } with ⟨h, -⟩ | h
    · exact .steady ((hrun.toSteady.trans h).trans (conclude_within _).toSteady)
    · exact .isolates (.inl rfl) ((hrun.isolates h).within (conclude_within _))

theorem clash_course {p : Nat} {s t : State} (ht : exec (.clash p) s = .next t) : Course (.clash p) s t := by
  refine Course.next ht ?_
  split
  · exact .steady (.refl s)
  · refine Course.ite fun _ => ?_
    rcases clashAt_cases _ p s with ⟨h, -⟩ | h
    · exact .steady h
    · exact .isolates (.inr ⟨p, rfl⟩) h

theorem inFrame_course {status pan tilt temp : Slot} {s t : State} (ht : exec (.inFrame status pan tilt temp) s = .next t) :
    Course (.inFrame status pan tilt temp) s t := by
  refine Course.next ht ?_
  split
  · exact .steady (.refl s)
  · split
    · exact (presentFrame_course _ _ _ s).course ⟨_, _, _, _, rfl⟩
    · exact (absentFrame_course s).course ⟨_, _, _, _, rfl⟩

/-! ### Commands that write neither the mode nor the peer table -/

/-- The own events that move no mode and no entry of the peer table: the line, the tick, the timers and the calls. -/
def isInner : Instr → Bool
  | .tick | .lineIdle | .frameStartBit | .startOpportunity | .arbitrationLost _ | .frameDiscard _ _ | .beaconTimer
  | .planPoint | .go | .waitingLimit | .holdOpenLimit | .segmentEnd | .fadeComplete | .reclaimTimer | .trackTimeout _
  | .reliefDeadline _ | .holderLapse _ _ | .restateTimer | .takeHoldoffEnd => true
  | _ => false

theorem Within.next {s t u : State} (ht : Host.Outcome.next (φ := Fault) (ρ := Refusal) u = .next t) (h : Within s u) :
    Within s t := Host.Outcome.next.inj ht ▸ h

theorem Within.when {s t : State} {p : Prop} [Decidable p] (h : p → Within s t) : Within s (if p then t else s) :=
  Within.ite h (fun _ => .refl s)

theorem startOpportunity_within {s t : State} (ht : exec .startOpportunity s = .next t) : Within s t := by
  refine .next ht (.when fun _ => ?_)
  split
  · exact (startAttempt_within _ _).after { Within.refl s with }
  · exact { Within.refl s with }

theorem arbitrationLost_within {p : Nat} {s t : State} (ht : exec (.arbitrationLost p) s = .next t) : Within s t := by
  refine .next ht ?_
  split
  · exact .refl s
  · exact .when fun _ => loseArbitration_within _ p s

theorem frameDiscard_within {bytes : List Byte} {fault : Option SymbolFault} {s t : State}
    (ht : exec (.frameDiscard bytes fault) s = .next t) : Within s t := by
  refine .next ht (.when fun _ => ?_)
  split
  · exact discardFrame_within _ _ s
  · exact .refl s
  · exact .refl s

theorem waitingLimit_within {s t : State} (ht : exec .waitingLimit s = .next t) : Within s t := by
  refine .next ht ?_
  split
  · exact .refl s
  · exact expireCall_within .dropped _ s

theorem holdOpenLimit_within {s t : State} (ht : exec .holdOpenLimit s = .next t) : Within s t := by
  refine .next ht ?_
  split
  · exact .refl s
  · exact expireCall_within .short _ s

theorem segmentEnd_within {s t : State} (ht : exec .segmentEnd s = .next t) : Within s t := by
  refine .next ht ?_
  split
  · exact .refl s
  · exact .when fun _ => segmentOver_within _ s

theorem fadeComplete_within {s t : State} (ht : exec .fadeComplete s = .next t) : Within s t := by
  refine .next ht ?_
  split
  · exact .refl s
  · exact .when fun _ => fadeOver_within _ s

theorem reliefDeadline_within {target : Byte} {s t : State} (ht : exec (.reliefDeadline target) s = .next t) :
    Within s t := by
  refine .next ht ?_
  split
  · exact .refl s
  · exact expireRelief_within _ _ s

theorem holderLapse_within {target st : Byte} {s t : State} (ht : exec (.holderLapse target st) s = .next t) :
    Within s t := by
  refine .next ht ?_
  split
  · exact .refl s
  · exact .when fun _ => lapseHolder_within _ _ s

theorem tick_within {s t : State} (ht : exec .tick s = .next t) : Within s t :=
  .next ht (Within.ite (fun _ => .refl s) (fun _ => tickWork_within s))

theorem exec_within {c : Instr} {s t : State} (hc : isInner c = true) (ht : exec c s = .next t) : Within s t := by
  cases c with
  | tick => exact tick_within ht
  | lineIdle => exact .next ht (.when fun _ => { Within.refl s with })
  | frameStartBit => exact .next ht (.when fun _ => { Within.refl s with })
  | startOpportunity => exact startOpportunity_within ht
  | arbitrationLost p => exact arbitrationLost_within ht
  | frameDiscard bytes fault => exact frameDiscard_within ht
  | beaconTimer => exact .next ht (.when fun _ => (beaconNow_within _).after { Within.refl s with })
  | planPoint => exact .next ht (.when fun _ => closeEvent_within s)
  | go => exact .next ht (clockTests_within s)
  | waitingLimit => exact waitingLimit_within ht
  | holdOpenLimit => exact holdOpenLimit_within ht
  | segmentEnd => exact segmentEnd_within ht
  | fadeComplete => exact fadeComplete_within ht
  | reclaimTimer => exact .next ht (.when fun _ => ((endWait_within _).trans (conclude_within _)).after { Within.refl s with })
  | trackTimeout target => exact .next ht (.when fun _ => loseTrack_within _ s)
  | reliefDeadline target => exact reliefDeadline_within ht
  | holderLapse target st => exact holderLapse_within ht
  | restateTimer => exact .next ht (.when fun _ => restate_within s)
  | takeHoldoffEnd => exact .next ht (.when fun _ => takeTest_within s)
  | _ => cases hc

/-! ### All commands -/

theorem peerSilent_course {st : Byte} {s t : State} (ht : exec (.peerSilent st) s = .next t) : Course (.peerSilent st) s t := by
  refine .next ht ?_
  split
  · exact .steady (.refl s)
  · exact .ite fun _ => (silencePeer_inside st s).course

theorem peerRemoved_course {st : Byte} {s t : State} (ht : exec (.peerRemoved st) s = .next t) :
    Course (.peerRemoved st) s t := by
  refine .next ht ?_
  split
  · exact .steady (.refl s)
  · exact .ite fun _ => (removePeer_inside _ s).course

/-- What every command does at most. -/
theorem exec_course {c : Instr} {s t : State} (ht : exec c s = .next t) : Course c s t := by
  cases c with
  | transmissionSuccess => exact execTransmissionSuccess_course ht
  | stuckLine => exact stuckLine_course ht
  | clash p => exact clash_course ht
  | inFrame status pan tilt temp => exact inFrame_course ht
  | powerOnReset => exact .next ht (.powerOn rfl rfl)
  | resetAsserted => exact .next ht (.held rfl rfl)
  | configurationReadEnd bytes => exact .next ht (.ite fun hs => .reads bytes rfl (by simpa [State.memorySelect] using hs) rfl)
  | viewSettleEnd =>
    exact .next ht (.ite fun _ => (settleOver_cases s).elim Within.course fun h => .readies (.inl ⟨h.1, rfl⟩) h.2)
  | homingTimeout => exact .next ht (.ite fun _ => (homingTooLong_cases s).elim Within.course fun h => .faults (.inr rfl) h)
  | stop st f => exact .next ht stop_course
  | claim st f => exact .next ht (receiveFrame_resumes (fun _ u => applyClaim_inside st f u) s).course
  | track st f => exact .next ht (receiveFrame_resumes (fun _ u => (applyTrack_within f u).toInside) s).course
  | cover st f =>
    exact .next ht (receiveFrame_resumes
      (fun hok u => (applyCover_within false st (coverCount_of_fieldsOk hok) u).toInside) s).course
  | offer st f => exact .next ht (receiveFrame_resumes (fun _ u => (applyOffer_within f u).toInside) s).course
  | call st f => exact .next ht (receiveFrame_resumes (fun _ u => (applyCall_within f u).toInside) s).course
  | segment st f => exact .next ht (receiveFrame_resumes (fun _ u => (applySegment_within f u).toInside) s).course
  | beacon st f => exact .next ht (receiveFrame_resumes (fun _ u => applyBeacon_inside st f _ u) s).course
  | probe st f => exact .next ht (receiveFrame_resumes (fun _ u => (applyProbe_within f u).toInside) s).course
  | report st f => exact .next ht (receiveFrame_resumes (fun _ u => .refl u) s).course
  | peerSilent st => exact peerSilent_course ht
  | peerRemoved st => exact peerRemoved_course ht
  | _ => exact (exec_within rfl ht).course

theorem Course.kept {c : Instr} {s t : State} (h : Course c s t) : Kept s t := by
  cases h with
  | steady h => exact h.toKept
  | rejoins h => exact h.toKept
  | isolates _ h => exact h.toKept
  | claims _ _ _ _ h => exact h.toKept
  | readies _ h => exact h.toKept
  | faults _ h => exact h.toKept
  | readiedFaults _ _ u h k => exact h.toKept.trans k.toKept
  | restarts _ _ _ _ _ _ u h _ k => exact h.kept.trans k.toKept
  | reads bytes _ was h => exact h ▸ endRead_kept (by simp [was]) _
  | powerOn _ h => exact h ▸ Kept.of_reset s _
  | held _ h => exact h ▸ holdReset_kept s

theorem exec_kept {c : Instr} {s t : State} (ht : exec c s = .next t) : Kept s t := (exec_course ht).kept

end Sys2Proof.Machine
end


section
/-! SUPPORT. The whole-machine obligations that follow from the course of a command. -/

namespace Sys2Proof.Machine

/-! ### The invariants of the blocks -/

/-- Settles O52: the course of every command is made of operations that keep the queue's bounds (`QueueOk`). -/
theorem queueInvKept : Obligations.QueueInvKept := fun _ _ _ h ht => (exec_kept ht).queue h

/-- Settles O53: records join a table with room under a new id, and segments pass between the pool and the chains
(`TableOk`). -/
theorem storeInvKept : Obligations.StoreInvKept := fun _ _ _ h ht => (exec_kept ht).store h

/-- Settles O54: every counter is written by `satInc`, `satAdd` or 0 alone. -/
theorem countsKept : Obligations.CountsKept := fun _ _ _ h ht => (exec_kept ht).toCountsStay.countInv h

/-- Settles O56: a list changes by the operations of R145 to R148 alone (`HolderListOk`). -/
theorem coverInvKept : Obligations.CoverInvKept := fun _ _ _ h ht => (exec_kept ht).cover h

/-- Settles O60: a record is marked as having reached go together with the preemption of every other (`markGo_preempt_within`). -/
theorem oneCallPastGo : Obligations.OneCallPastGo := fun _ _ _ h hone ht => (exec_kept ht).oneGo h hone

/-! ### Solo mode (R120, R122) -/

theorem Steady.soloInv {s t : State} (h : Steady s t) (hs : SoloInv s) : SoloInv t := fun hsolo => by
  have hmode := hs (h.solo ▸ hsolo)
  rw [h.mode_of_ne (by rcases hmode with hm | hm <;> rw [hm] <;> decide)]
  exact hmode

theorem soloInv_of_none {s : State} (h : s.power.solo = none) : SoloInv s := fun hs => by rw [h] at hs; cases hs

theorem endRead_solo (rec : List Byte) (s : State) : (endRead rec s).power.solo = s.power.solo := by
  unfold endRead
  dsimp only
  split
  · simp [failRead]
  · rw [(passRead_within rec _).solo, setMode_power, takeRecord_solo]

theorem Readies.soloInv {s t : State} (h : Readies s t) (hs : SoloInv s) (hm : s.station.mode = .starting ∨ s.station.mode = .homing) :
    SoloInv t := by
  cases hl : s.link.linkLost with
  | true =>
    refine fun _ => .inl ?_
    rw [h.mode, if_pos hl]
  | false =>
    refine soloInv_of_none ?_
    have hsame := h.solo
    rw [if_neg (by simp [hl])] at hsame
    rw [hsame]
    cases hsolo : s.power.solo with
    | none => rfl
    | some n =>
      rcases hs (by rw [hsolo]; rfl) with hi | hi <;> rcases hm with h' | h' <;> rw [hi] at h' <;> cases h'

theorem exec_soloInv {c : Instr} {s t : State} (ht : exec c s = .next t) (hs : SoloInv s) : SoloInv t := by
  cases exec_course ht with
  | steady h => exact h.soloInv hs
  | rejoins h => exact soloInv_of_none h.solo
  | isolates _ h => exact fun _ => .inl h.mode
  | claims _ _ _ _ h =>
    intro hsolo
    have hmode := hs (h.solo ▸ hsolo)
    rw [h.mode.resolve_right (by rcases hmode with hm | hm <;> simp [hm])]
    exact hmode
  | readies hc h => exact h.soloInv hs (hc.imp And.left And.left)
  | faults _ h => exact soloInv_of_none h.solo
  | readiedFaults _ _ _ _ k => exact soloInv_of_none k.solo
  | restarts _ _ _ _ _ _ _ _ _ k => exact soloInv_of_none k.solo
  | reads bytes _ was h =>
    refine soloInv_of_none ?_
    rw [h, endRead_solo]
    cases hsolo : s.power.solo with
    | none => rfl
    | some n => rcases hs (by rw [hsolo]; rfl) with hi | hi <;> rw [was] at hi <;> cases hi
  | powerOn _ h => exact soloInv_of_none (h ▸ rfl)
  | held _ h => exact fun _ => .inr (by rw [h]; simp [holdReset])

/-- Settles O51: solo mode goes ON in ISOLATED alone and OFF with every other mode that is entered; an owner's segment stops
before the owner leaves. -/
theorem soloAndOwnerKept : Obligations.SoloAndOwnerKept :=
  ⟨fun _ _ _ h ht => exec_soloInv ht h, fun _ _ _ h ht => (exec_kept ht).owner h⟩

/-! ### The own granted claim (R106, R123) -/

/-- Settles O59: outside solo mode only `ownClaimReadback` and `takeRecord` write the own granted claim; leaving and entering
solo mode are excluded by the premises. -/
theorem grantWrittenOnlyByGrants : Obligations.GrantWrittenOnlyByGrants := by
  intro s t c ht hmode hlost hs htsolo hne
  cases exec_course ht with
  | steady h => exact absurd (h.granted hs) hne
  | rejoins h => exact absurd h.was hmode
  | isolates _ h => exact absurd h.solo (by simp [htsolo])
  | claims hc st f htx h => exact .inl ⟨hc, st, f, htx, (h.granted hs).resolve_left hne⟩
  | readies _ h => exact absurd (h.granted hlost hs) hne
  | faults _ h => exact absurd (h.granted hs) hne
  | readiedFaults _ was u h k =>
    have hu : u.power.solo = none := by
      have := h.solo
      rw [if_neg (by simp [hlost])] at this
      exact this.trans hs
    exact absurd ((k.granted hu).trans (h.granted hlost hs)) hne
  | restarts _ _ _ _ _ _ u h _ k =>
    rcases h with h | h
    · exact absurd ((k.granted (h.solo.trans hs)).trans (h.granted hs)) hne
    · exact absurd h.was hmode
  | reads bytes hc _ _ => exact .inr (.inl ⟨bytes, hc⟩)
  | powerOn hc _ => exact .inr (.inr hc)
  | held _ h => exact absurd (by rw [h]; simp [holdReset]) hne

/-! ### The station mode (R184) -/

theorem calm_of_quiet {s : State} (hq : Quiet s) (hs : SoloInv s) : Calm s := fun hm => by
  refine ⟨?_, by simp [hq.1]⟩
  cases hsolo : s.power.solo with
  | none => rfl
  | some n => rcases hs (by rw [hsolo]; rfl) with hi | hi <;> rw [hm] at hi <;> cases hi

/-- A configuration read leads to UNCONFIGURED or STARTING: nothing was left to tell that could move the mode on (R186, R188). -/
theorem endRead_mode {s : State} (hq : Quiet s) (hs : SoloInv s) (hm : s.station.mode = .config) (rec : List Byte) :
    (endRead rec s).station.mode = .starting ∨ (endRead rec s).station.mode = .unconfigured := by
  have hsolo : s.power.solo = none := by
    cases hsolo : s.power.solo with
    | none => rfl
    | some n => rcases hs (by rw [hsolo]; rfl) with hi | hi <;> rw [hm] at hi <;> cases hi
  unfold endRead
  dsimp only
  split
  · exact .inr (by simp [failRead])
  · have hcalm : Calm (setMode .starting (takeRecord rec { s with station.ownStation := ownNumberOf rec })) := fun _ =>
      ⟨by rw [setMode_power, takeRecord_solo]; exact hsolo, by simp [takeRecord_notices, hq.1]⟩
    exact .inl (((passRead_within rec _).calm hcalm).2.trans (by simp))

theorem restart_scope {f : StopFields} (hok : Payload.fieldsOk (.stop f) = true) (hf : f.restart = true) {s : State}
    (hs : s.inScope f.scope = true) : f.scopeType = 1 ∧ f.scopeValue = s.station.ownStation := by
  have hf' : f.flags.getLsbD 2 = true := hf
  have htype : f.scopeType = 1 := by
    simp only [Payload.fieldsOk, hf', Bool.and_eq_true] at hok
    simpa using hok.2
  refine ⟨htype, ?_⟩
  simpa [StopFields.scope, scopeOf, htype, State.inScope] using hs

theorem lineOff_of_reset {s : State} (h : ModeInv s) (hl : s.link.lineState = .receiving) :
    s.station.mode.linkOff = false := by
  refine Bool.eq_false_iff.2 fun hoff => ?_
  rw [h.2.1.2 hoff] at hl
  cases hl

theorem not_of_monitored {m : StationMode} (h : m.monitored = true) :
    m ≠ .reset ∧ m ≠ .config ∧ m ≠ .unconfigured ∧ m ≠ .faulted := by
  cases m <;> simp [StationMode.monitored] at h <;> decide

theorem not_mode {m k l : StationMode} {p : Prop} (h : m = k) (hk : k ≠ l) : m = l → p := fun e => absurd (h.symm.trans e) hk

theorem not_mode_or {m k l n : StationMode} {p : Prop} (h : m = k) (hl : k ≠ l) (hn : k ≠ n) : m = l ∨ m = n → p :=
  fun e => e.elim (not_mode h hl) (not_mode h hn)

/-- Settles O58: by the course of the command, between two events nothing is left to tell, so that what an event does inside
moves no mode. -/
theorem modeChangesByTable : Obligations.ModeChangesByTable := by
  intro s t c hq hm hs ht hne
  have hcalm := calm_of_quiet hq hs
  cases exec_course ht with
  | steady h => exact absurd (h.calm hcalm).2 hne
  | rejoins h =>
    exact ⟨not_mode h.mode (by decide), not_mode h.was (by decide), not_mode h.mode (by decide), not_mode h.was (by decide),
      not_mode_or h.mode (by decide) (by decide), not_mode h.mode (by decide), fun _ => ⟨h.found, .inr ⟨h.was, h.lost⟩⟩,
      not_mode h.mode (by decide), not_mode h.mode (by decide), not_mode_or h.was (by decide) (by decide)⟩
  | isolates hc h =>
    exact ⟨not_mode h.mode (by decide), not_mode h.was (by decide), not_mode h.mode (by decide), not_mode h.was (by decide),
      not_mode_or h.mode (by decide) (by decide), not_mode h.mode (by decide), not_mode h.mode (by decide),
      fun _ => ⟨h.found, .inr ⟨h.was, h.lost, hc⟩⟩, not_mode h.mode (by decide), not_mode_or h.was (by decide) (by decide)⟩
  | claims hc st f htx h =>
    obtain ⟨hstart, hhome⟩ := h.mode.resolve_left hne
    exact ⟨not_mode hhome (by decide), not_mode hstart (by decide), not_mode hhome (by decide), not_mode hstart (by decide),
      not_mode_or hhome (by decide) (by decide), fun _ => ⟨hstart, hc, st, f, htx⟩, not_mode hhome (by decide),
      not_mode hhome (by decide), not_mode hhome (by decide), not_mode_or hstart (by decide) (by decide)⟩
  | readies hc h =>
    obtain ⟨hreset, hconfig, hunconf, hfaulted⟩ : s.station.mode ≠ .reset ∧ s.station.mode ≠ .config ∧ s.station.mode ≠ .unconfigured
        ∧ s.station.mode ≠ .faulted := by
      rcases hc with ⟨hwas, -⟩ | ⟨hwas, -⟩ <;> rw [hwas] <;> decide
    have hmode := h.mode
    cases hl : s.link.linkLost with
    | true =>
      rw [if_pos hl] at hmode
      exact ⟨not_mode hmode (by decide), fun e => absurd e hreset, not_mode hmode (by decide), fun e => absurd e hconfig,
        not_mode_or hmode (by decide) (by decide), not_mode hmode (by decide), not_mode hmode (by decide),
        fun _ => ⟨h.linkLost.trans hl, .inl hc⟩, not_mode hmode (by decide), fun e => absurd e (not_or.2 ⟨hfaulted, hunconf⟩)⟩
    | false =>
      rw [if_neg (by simp [hl])] at hmode
      exact ⟨not_mode hmode (by decide), fun e => absurd e hreset, not_mode hmode (by decide), fun e => absurd e hconfig,
        not_mode_or hmode (by decide) (by decide), not_mode hmode (by decide), fun _ => ⟨h.linkLost.trans hl, .inl hc⟩,
        not_mode hmode (by decide), not_mode hmode (by decide), fun e => absurd e (not_or.2 ⟨hfaulted, hunconf⟩)⟩
  | faults hc h =>
    obtain ⟨hreset, hconfig, hunconf, hfaulted⟩ := not_of_monitored h.monitored
    exact ⟨not_mode h.mode (by decide), fun e => absurd e hreset, not_mode h.mode (by decide), fun e => absurd e hconfig,
      not_mode_or h.mode (by decide) (by decide), not_mode h.mode (by decide), not_mode h.mode (by decide),
      not_mode h.mode (by decide), fun _ => ⟨h.monitored, hc⟩, fun e => absurd e (not_or.2 ⟨hfaulted, hunconf⟩)⟩
  | readiedFaults hc was u h k =>
    exact ⟨not_mode k.mode (by decide), not_mode was (by decide), not_mode k.mode (by decide), not_mode was (by decide),
      not_mode_or k.mode (by decide) (by decide), not_mode k.mode (by decide), not_mode k.mode (by decide),
      not_mode k.mode (by decide), fun _ => ⟨by rw [was]; rfl, .inl hc⟩, not_mode_or was (by decide) (by decide)⟩
  | restarts st f hc hline hok hf u h hscope k =>
    have hoff := lineOff_of_reset hm hline
    have hown : u.station.ownStation = s.station.ownStation := h.elim (·.ownStation) (·.ownStation)
    obtain ⟨htype, hvalue⟩ := restart_scope hok hf hscope
    have hreset : s.station.mode ≠ .reset := fun hw => by rw [hw] at hoff; cases hoff
    have hconfig : s.station.mode ≠ .config := fun hw => by rw [hw] at hoff; cases hoff
    exact ⟨not_mode k.mode (by decide), fun e => absurd e hreset, fun _ => .inr ⟨st, f, hc, hf, htype, hvalue.trans hown⟩,
      fun e => absurd e hconfig, not_mode_or k.mode (by decide) (by decide), not_mode k.mode (by decide), not_mode k.mode (by decide),
      not_mode k.mode (by decide), not_mode k.mode (by decide), fun _ => .inr k.mode⟩
  | reads bytes hc was h =>
    have hmode := endRead_mode hq hs was (recordBytes bytes)
    rw [← h] at hmode
    have no {l : StationMode} {p : Prop} (hstart : StationMode.starting ≠ l) (hunconf : StationMode.unconfigured ≠ l) :
        t.station.mode = l → p := hmode.elim (fun e => not_mode e hstart) fun e => not_mode e hunconf
    exact ⟨no (by decide) (by decide), not_mode was (by decide), no (by decide) (by decide), fun _ => .inr ⟨⟨bytes, hc⟩, hmode⟩,
      fun _ => was, no (by decide) (by decide), no (by decide) (by decide), no (by decide) (by decide), no (by decide) (by decide),
      not_mode_or was (by decide) (by decide)⟩
  | powerOn hc h =>
    have hmode : t.station.mode = .config := by rw [h]; rfl
    have hconfig : s.station.mode ≠ .config := fun hw => hne (hmode.trans hw.symm)
    exact ⟨not_mode hmode (by decide), fun _ => ⟨hc, hmode⟩, fun _ => .inl hc, fun e => absurd e hconfig,
      not_mode_or hmode (by decide) (by decide), not_mode hmode (by decide), not_mode hmode (by decide), not_mode hmode (by decide),
      not_mode hmode (by decide), fun _ => .inr hmode⟩
  | held hc h =>
    have hmode : t.station.mode = .reset := by rw [h]; simp [holdReset]
    have hreset : s.station.mode ≠ .reset := fun hw => hne (hmode.trans hw.symm)
    exact ⟨fun _ => hc, fun e => absurd e hreset, not_mode hmode (by decide), fun _ => .inl hc,
      not_mode_or hmode (by decide) (by decide), not_mode hmode (by decide), not_mode hmode (by decide), not_mode hmode (by decide),
      not_mode hmode (by decide), fun _ => .inl hmode⟩

/-! ### Quiet states (R103, R115, R116) -/

theorem Quiet.of_eq {s t : State} (h : Quiet s) (hn : t.notices = s.notices)
    (ha : t.power.abandoned = s.power.abandoned) : Quiet t := ⟨hn.trans h.1, ha.trans h.2⟩

theorem Quiet.ite {s t : State} {p : Prop} [Decidable p] (h : Quiet s) (ht : p → Quiet t) : Quiet (if p then t else s) := by
  split
  · exact ht ‹p›
  · exact h

theorem closeEvent_quiet (s : State) : Quiet (closeEvent s) := conclude_quiet _

theorem enterIsolated_quiet (s : State) : Quiet (enterIsolated s) := closeEvent_quiet _

theorem enterReady_quiet (s : State) : Quiet (enterReady s) := by
  rw [enterReady_eq]
  split
  · exact enterIsolated_quiet _
  · exact closeEvent_quiet _

theorem enterFault_quiet {s : State} (h : Quiet s) (code : Nat) : Quiet (enterFault code s) := by
  cases hm : s.station.mode.monitored with
  | true =>
    rw [enterFault_of_monitored hm]
    exact conclude_quiet _
  | false =>
    rw [enterFault_of_not_monitored hm]
    exact h

theorem offer_quiet {s : State} (h : Quiet s) (b : TxBody) : Quiet (offer b s) := h.of_eq (by simp) (by simp)

theorem setMode_quiet {s : State} (h : Quiet s) (m : StationMode) : Quiet (setMode m s) := h.of_eq (by simp) (by simp)

theorem takeTemperature_quiet {s : State} (h : Quiet s) (tau : Int) : Quiet (takeTemperature tau s) := by
  unfold takeTemperature
  split <;> exact h

theorem onTargetTest_quiet {s : State} (h : Quiet s) (enc : Int × Int) : Quiet (onTargetTest enc s) := by
  unfold onTargetTest
  split
  · split
    · exact h.of_eq (by simp) (by simp)
    · exact h
  · exact h
  · exact h

theorem driveChecks_quiet {s : State} (h : Quiet s) (m : StationMode) (status : Slot) (enc : Int × Int) :
    Quiet (driveChecks m status enc s) := by
  cases hm : s.station.mode.monitored with
  | true =>
    have hcount : Quiet (driveCounted m status enc s) := h
    rw [driveChecks_of_monitored hm]
    split
    · exact enterFault_quiet hcount _
    · exact hcount
  | false =>
    rw [driveChecks_of_not_monitored hm]
    exact h

theorem presentFrame_quiet {s : State} (h : Quiet s) (status : Slot) (enc : Int × Int) (tau : Int) :
    Quiet (presentFrame status enc tau s) := by
  have hrec : Quiet (recordFrame status enc s) := h
  have htemp : Quiet (handTemperature tau (recordFrame status enc s)) := by
    unfold handTemperature
    split
    · exact enterFault_quiet (takeTemperature_quiet hrec tau) 7
    · exact takeTemperature_quiet hrec tau
  have hfollow : Quiet (followEncoders enc (handTemperature tau (recordFrame status enc s))) := by
    unfold followEncoders
    exact htemp.ite fun _ => htemp
  have htarget := onTargetTest_quiet hfollow enc
  unfold presentFrame
  dsimp only
  refine driveChecks_quiet ?_ _ _ _
  unfold homingCheck
  exact htarget.ite fun _ => enterReady_quiet _

theorem absentFrame_quiet {s : State} (h : Quiet s) : Quiet (absentFrame s) := by
  unfold absentFrame
  dsimp only
  split
  · split
    · exact enterFault_quiet (by exact h) 6
    · exact h
  · exact h

theorem endRead_quiet {s : State} (h : Quiet s) (rec : List Byte) : Quiet (endRead rec s) := by
  unfold endRead
  dsimp only
  split
  · exact setMode_quiet (by exact h) _
  · exact conclude_quiet _

theorem receiveFrame_quiet {s : State} (h : Quiet s) (fr : Frame) (act : State → State) : Quiet (receiveFrame fr act s) := by
  unfold receiveFrame
  split
  · split
    · exact h
    · exact conclude_quiet _
  · exact h

theorem clashAt_quiet {s : State} (h : Quiet s) (fr : Frame) (p : Nat) : Quiet (clashAt fr p s) := by
  unfold clashAt
  dsimp only
  split
  · exact h
  · exact conclude_quiet _

theorem settleOver_quiet {s : State} (h : Quiet s) : Quiet (settleOver s) := by
  have hoffer : Quiet (offerHeld { s with power.settle := none }) := by
    unfold offerHeld
    split
    · exact h
    · split
      · exact offer_quiet (by exact h) _
      · exact h
  exact hoffer.ite fun _ => enterReady_quiet _

theorem tickWork_quiet {s : State} (h : Quiet s) : Quiet (tickWork s) := by
  have hprofile : Quiet (profileTick (frameSync (advanceClocks s))) := by
    unfold profileTick
    split
    · exact h
    · split <;> exact h
  have hfade : Quiet (fadeTick (profileTick (frameSync (advanceClocks s)))) := by
    unfold fadeTick
    split
    · exact hprofile
    · split <;> exact hprofile
  exact hfade

theorem changeHolders_quiet {s : State} (h : Quiet s) (t : Nat) (l : List Holder) : Quiet (changeHolders t l s) :=
  h.of_eq (by simp) (by simp)

theorem removePeer_quiet {s : State} (h : Quiet s) (p : Peer) : Quiet (removePeer p s) := by
  unfold removePeer
  dsimp only
  split
  · exact conclude_quiet _
  · exact h

theorem segmentOver_quiet {s : State} (h : Quiet s) (m : Motion) : Quiet (segmentOver m s) := by
  unfold segmentOver
  split
  · exact h
  · exact closeEvent_quiet _

theorem fadeOver_quiet {s : State} (h : Quiet s) (f : Fade) : Quiet (fadeOver f s) := by
  unfold fadeOver
  dsimp only
  split
  · exact h
  · exact closeEvent_quiet _

theorem restate_quiet {s : State} (h : Quiet s) : Quiet (restate s) := by
  unfold restate
  split
  · exact h
  · split
    · exact h.of_eq (by simp) (by simp)
    · exact h

theorem Quiet.next {t u : State} (ht : Host.Outcome.next (φ := Fault) (ρ := Refusal) u = .next t) (h : Quiet u) : Quiet t :=
  Host.Outcome.next.inj ht ▸ h

theorem transmissionSuccess_quiet {s t : State} (h : Quiet s) (ht : exec .transmissionSuccess s = .next t) : Quiet t := by
  refine .next ht ?_
  split
  · exact h
  · exact h.ite fun _ => conclude_quiet _

theorem stuckLine_quiet {s t : State} (h : Quiet s) (ht : exec .stuckLine s = .next t) : Quiet t := by
  refine .next ht ?_
  split
  · exact h
  · exact conclude_quiet _

theorem line_quiet {c : Instr} {s t : State} (hc : c = .startOpportunity ∨ (∃ p, c = .arbitrationLost p)
    ∨ (∃ p, c = .clash p) ∨ ∃ bytes fault, c = .frameDiscard bytes fault) (h : Quiet s) (ht : exec c s = .next t) :
    Quiet t := by
  obtain rfl | ⟨p, rfl⟩ | ⟨p, rfl⟩ | ⟨bytes, fault, rfl⟩ := hc
  · refine .next ht (h.ite fun _ => ?_)
    split
    · exact h
    · exact h
  · refine .next ht ?_
    split
    · exact h
    · exact h.ite fun _ => h
  · refine .next ht ?_
    split
    · exact h
    · exact h.ite fun _ => clashAt_quiet h _ p
  · refine .next ht (h.ite fun _ => ?_)
    split
    · exact h
    · exact h
    · exact h

theorem calls_quiet {c : Instr} {s t : State} (hc : c = .waitingLimit ∨ c = .holdOpenLimit ∨ c = .segmentEnd
    ∨ c = .fadeComplete) (h : Quiet s) (ht : exec c s = .next t) : Quiet t := by
  obtain rfl | rfl | rfl | rfl := hc
  · refine .next ht ?_
    split
    · exact h
    · exact closeEvent_quiet _
  · refine .next ht ?_
    split
    · exact h
    · exact closeEvent_quiet _
  · refine .next ht ?_
    split
    · exact h
    · exact h.ite fun _ => segmentOver_quiet h _
  · refine .next ht ?_
    split
    · exact h
    · exact h.ite fun _ => fadeOver_quiet h _

theorem entries_quiet {c : Instr} {s t : State} (hc : (∃ st, c = .peerSilent st) ∨ (∃ st, c = .peerRemoved st)
    ∨ (∃ target, c = .reliefDeadline target) ∨ ∃ target st, c = .holderLapse target st) (h : Quiet s)
    (ht : exec c s = .next t) : Quiet t := by
  obtain ⟨st, rfl⟩ | ⟨st, rfl⟩ | ⟨target, rfl⟩ | ⟨target, st, rfl⟩ := hc
  · refine .next ht ?_
    split
    · exact h
    · exact h.ite fun _ => h.of_eq (by simp [silencePeer, updatePeer]) (by simp [silencePeer, updatePeer])
  · refine .next ht ?_
    split
    · exact h
    · exact h.ite fun _ => removePeer_quiet h _
  · refine .next ht ?_
    split
    · exact h
    · exact changeHolders_quiet (by exact h) _ _
  · refine .next ht ?_
    split
    · exact h
    · exact h.ite fun _ => changeHolders_quiet (by exact h) _ _

theorem inFrame_quiet {status pan tilt temp : Slot} {s t : State} (h : Quiet s)
    (ht : exec (.inFrame status pan tilt temp) s = .next t) : Quiet t := by
  refine .next ht ?_
  split
  · exact h
  · split
    · exact presentFrame_quiet h _ _ _
    · exact absentFrame_quiet h

/-- Settles O49: an event that tells or abandons closes with `conclude`, after which nothing is left; every other command leaves
both fields. -/
theorem quietKept : Obligations.QuietKept := by
  intro s t c h ht
  cases c with
  | powerOnReset => exact .next ht ⟨rfl, rfl⟩
  | resetAsserted => exact .next ht ⟨rfl, (setMode_quiet h .reset).2⟩
  | configurationReadEnd bytes => exact .next ht (h.ite fun _ => endRead_quiet h _)
  | tick => exact .next ht (by split; exact h; exact tickWork_quiet h)
  | lineIdle => exact .next ht (h.ite fun _ => h)
  | frameStartBit => exact .next ht (h.ite fun _ => h)
  | startOpportunity => exact line_quiet (.inl rfl) h ht
  | arbitrationLost p => exact line_quiet (.inr (.inl ⟨p, rfl⟩)) h ht
  | clash p => exact line_quiet (.inr (.inr (.inl ⟨p, rfl⟩))) h ht
  | frameDiscard bytes fault => exact line_quiet (.inr (.inr (.inr ⟨bytes, fault, rfl⟩))) h ht
  | transmissionSuccess => exact transmissionSuccess_quiet h ht
  | stuckLine => exact stuckLine_quiet h ht
  | stop st f => exact .next ht (receiveFrame_quiet h _ _)
  | claim st f => exact .next ht (receiveFrame_quiet h _ _)
  | track st f => exact .next ht (receiveFrame_quiet h _ _)
  | cover st f => exact .next ht (receiveFrame_quiet h _ _)
  | offer st f => exact .next ht (receiveFrame_quiet h _ _)
  | call st f => exact .next ht (receiveFrame_quiet h _ _)
  | segment st f => exact .next ht (receiveFrame_quiet h _ _)
  | beacon st f => exact .next ht (receiveFrame_quiet h _ _)
  | probe st f => exact .next ht (receiveFrame_quiet h _ _)
  | report st f => exact .next ht (receiveFrame_quiet h _ _)
  | peerSilent st => exact entries_quiet (.inl ⟨st, rfl⟩) h ht
  | peerRemoved st => exact entries_quiet (.inr (.inl ⟨st, rfl⟩)) h ht
  | reliefDeadline target => exact entries_quiet (.inr (.inr (.inl ⟨target, rfl⟩))) h ht
  | holderLapse target st => exact entries_quiet (.inr (.inr (.inr ⟨target, st, rfl⟩))) h ht
  | beaconTimer => exact .next ht (h.ite fun _ => offer_quiet (by exact h) _)
  | planPoint => exact .next ht (h.ite fun _ => closeEvent_quiet _)
  | go => exact .next ht (h.ite fun _ => closeEvent_quiet _)
  | waitingLimit => exact calls_quiet (.inl rfl) h ht
  | holdOpenLimit => exact calls_quiet (.inr (.inl rfl)) h ht
  | segmentEnd => exact calls_quiet (.inr (.inr (.inl rfl))) h ht
  | fadeComplete => exact calls_quiet (.inr (.inr (.inr rfl))) h ht
  | reclaimTimer => exact .next ht (h.ite fun _ => conclude_quiet _)
  | viewSettleEnd => exact .next ht (h.ite fun _ => settleOver_quiet h)
  | trackTimeout target => exact .next ht (h.ite fun _ => h)
  | restateTimer => exact .next ht (h.ite fun _ => restate_quiet h)
  | takeHoldoffEnd => exact .next ht (h.ite fun _ => h.of_eq (by simp) (by simp))
  | homingTimeout => exact .next ht (h.ite fun _ => enterFault_quiet (by exact h) 8)
  | inFrame status pan tilt temp => exact inFrame_quiet h ht

/-! ### The peer table (R30 to R36) -/

/-- A peer table within its bounds for an own station: the condition of PeerInv on the list. -/
def PeersOk (own : Byte) (l : List Peer) : Prop :=
  l.length ≤ Config.peerCapacity ∧ l.Pairwise (fun a b => a.station.toNat < b.station.toNat)
    ∧ ∀ p ∈ l, p.station ≠ own

theorem PeersOk.nil (own : Byte) : PeersOk own [] := ⟨Nat.zero_le _, .nil, by simp⟩

/-- A change of entries that keeps their stations. -/
theorem PeersOk.map {own : Byte} {l : List Peer} (h : PeersOk own l) {f : Peer → Peer} (hf : ∀ p, (f p).station = p.station) :
    PeersOk own (l.map f) := by
  obtain ⟨hlen, hord, hown⟩ := h
  exact ⟨by simpa using hlen, by simpa [List.pairwise_map, hf] using hord, by simpa [hf] using hown⟩

theorem PeersOk.sublist {own : Byte} {l l' : List Peer} (h : PeersOk own l) (hs : l'.Sublist l) : PeersOk own l' :=
  ⟨hs.length_le.trans h.1, h.2.1.sublist hs, fun p hp => h.2.2 p (hs.subset hp)⟩

theorem insertPeer_perm (p : Peer) (l : List Peer) : (insertPeer p l).Perm (p :: l) := by
  induction l with
  | nil => exact .refl _
  | cons q rest ih =>
    unfold insertPeer
    split
    · exact .refl _
    · exact (ih.cons q).trans (.swap p q rest)

theorem insertPeer_sorted {p : Peer} {l : List Peer} (h : l.Pairwise (fun a b => a.station.toNat < b.station.toNat))
    (hp : ∀ q ∈ l, q.station ≠ p.station) : (insertPeer p l).Pairwise (fun a b => a.station.toNat < b.station.toNat) := by
  induction l with
  | nil => exact List.pairwise_singleton _ _
  | cons q rest ih =>
    obtain ⟨hq, hrest⟩ := List.pairwise_cons.1 h
    obtain ⟨hne, hnerest⟩ := List.forall_mem_cons.1 hp
    unfold insertPeer
    split
    · rename_i hlt
      refine List.pairwise_cons.2 ⟨?_, h⟩
      exact List.forall_mem_cons.2 ⟨hlt, fun x hx => hlt.trans (hq x hx)⟩
    · rename_i hge
      refine List.pairwise_cons.2 ⟨fun x hx => ?_, ih hrest hnerest⟩
      rcases List.mem_cons.1 ((insertPeer_perm p rest).mem_iff.1 hx) with rfl | hmem
      · exact lt_of_le_of_ne (not_lt.1 hge) fun he => hne (BitVec.eq_of_toNat_eq he)
      · exact hq x hmem

/-- An entry of a new station, not the own one, is placed in a table with room (R32). -/
theorem PeersOk.insert {own : Byte} {l : List Peer} (h : PeersOk own l) {p : Peer} (hroom : l.length < Config.peerCapacity)
    (hnew : ∀ q ∈ l, q.station ≠ p.station) (hp : p.station ≠ own) : PeersOk own (insertPeer p l) := by
  have hperm := insertPeer_perm p l
  refine ⟨by simpa [hperm.length_eq] using hroom, insertPeer_sorted h.2.1 hnew, fun q hq => ?_⟩
  rcases List.mem_cons.1 (hperm.mem_iff.1 hq) with rfl | hmem
  · exact hp
  · exact h.2.2 q hmem

theorem oldestPeer_mem {now : Word32} {l : List Peer} {p : Peer} (h : oldestPeer now l = some p) : p ∈ l := by
  induction l generalizing p with
  | nil => cases h
  | cons q rest ih =>
    unfold oldestPeer at h
    split at h
    · obtain rfl := Option.some.inj h
      exact List.mem_cons_self
    · split at h
      · obtain rfl := Option.some.inj h
        exact List.mem_cons_self
      · obtain rfl := Option.some.inj h
        exact List.mem_cons_of_mem _ (ih ‹_›)

theorem evictee_mem {s : State} {p : Peer} (h : s.evictee = some p) : p ∈ s.clock.peers :=
  (List.mem_filter.1 (oldestPeer_mem h)).1

theorem dropPeer_length_lt {l : List Peer} {p : Peer} (h : p ∈ l) : (dropPeer p.station l).length < l.length :=
  List.length_filter_lt_length_iff_exists.2 ⟨p, h, by simp⟩

theorem createPeer_peersOk {own : Byte} {s : State} (h : PeersOk own s.clock.peers) {p : Peer} (hp : p.station ≠ own)
    (hnew : ∀ q ∈ s.clock.peers, q.station ≠ p.station) : PeersOk own (createPeer p s).clock.peers := by
  unfold createPeer
  split
  · exact h.insert ‹_› hnew hp
  · split
    · split
      · rename_i old hold
        have hdrop : PeersOk own (insertPeer p (dropPeer old.station s.clock.peers)) :=
          (h.sublist List.filter_sublist).insert ((dropPeer_length_lt (evictee_mem hold)).trans_le h.1)
            (fun q hq => hnew q (List.mem_filter.1 hq).1) hp
        unfold evictFor
        dsimp only
        split
        · rw [(stationGone_within _ _).peers]
          exact hdrop
        · exact hdrop
      · exact h
    · exact h

theorem findPeer_none {s : State} {st : Byte} (h : s.findPeer st = none) : ∀ q ∈ s.clock.peers, q.station ≠ st := by
  simpa [State.findPeer] using h

theorem updatePeer_peersOk {own : Byte} {s : State} (h : PeersOk own s.clock.peers) (st : Byte) {f : Peer → Peer}
    (hf : ∀ p, (f p).station = p.station) : PeersOk own (updatePeer st f s).clock.peers :=
  h.map fun p => by split <;> simp [hf]

theorem peerStage_peersOk {own : Byte} {s : State} (h : PeersOk own s.clock.peers) {fr : Frame} (hfr : fr.station ≠ own) :
    PeersOk own (peerStage fr s).clock.peers := by
  have hheard := updatePeer_peersOk h fr.station (f := Peer.heard s.clock.tickCount) fun _ => rfl
  unfold peerStage
  split
  · unfold beaconPeer
    split
    · exact createPeer_peersOk h hfr (findPeer_none ‹_›)
    · have hup := updatePeer_peersOk h fr.station
        (f := fun p => (p.heard s.clock.tickCount).withBeacon ‹BeaconFields›) fun _ => rfl
      dsimp only
      split
      · rw [(headroomRise_within _).peers]
        exact hup
      · exact hup
  · unfold claimPeer
    split
    · exact createPeer_peersOk h hfr (findPeer_none ‹_›)
    · have hup := updatePeer_peersOk h fr.station
        (f := fun p => (p.heard s.clock.tickCount).onCircuit (ClaimFields.circuit ‹ClaimFields›).toNat) fun _ => rfl
      dsimp only
      split
      · rw [(headroomRise_within _).peers]
        exact hup
      · exact hup
  all_goals exact hheard

end Sys2Proof.Machine
end


section
/-! SUPPORT. What every command does to the peer table at most. -/

namespace Sys2Proof.Machine

/-- What a command does to the peer table at most: nothing, the arrival of a frame on a line that is on, the ageing of entries,
or its emptying (R31 to R36, R191). -/
inductive PeerCourse (s t : State) : Prop where
  | same (h : t.clock.peers = s.clock.peers)
  | heard (hline : s.link.lineState = .receiving)
      (h : PeersOk s.station.ownStation s.clock.peers → PeersOk s.station.ownStation t.clock.peers)
  | aged (h : ∀ own, PeersOk own s.clock.peers → PeersOk own t.clock.peers) (hnil : s.clock.peers = [] → t.clock.peers = [])
  | emptied (h : t.clock.peers = [])

theorem PeerCourse.next {s t u : State} (ht : Host.Outcome.next (φ := Fault) (ρ := Refusal) u = .next t)
    (h : PeerCourse s u) : PeerCourse s t := Host.Outcome.next.inj ht ▸ h

theorem PeerCourse.ite {s t : State} {p : Prop} [Decidable p] (h : p → PeerCourse s t) :
    PeerCourse s (if p then t else s) := by
  split
  · exact h ‹p›
  · exact .same rfl

theorem checkMarks_peers (s : State) : (checkMarks s).clock.peers = s.clock.peers := by
  unfold checkMarks
  split
  · dsimp only
    split
    · rename_i hm
      exact (leaveIsolated_enters (by rw [hm]; decide)).peers
    · rfl
  · rfl

theorem handed_peersOk {fr : Frame} {s : State} (hfr : fr.station ≠ s.station.ownStation)
    (h : PeersOk s.station.ownStation s.clock.peers) : PeersOk s.station.ownStation (handed fr s).clock.peers := by
  refine peerStage_peersOk ?_ hfr
  unfold markReceive
  rw [checkMarks_peers]
  exact h

theorem setPeerGranted_peersOk {own : Byte} {s : State} (h : PeersOk own s.clock.peers) (st : Byte) (w : Nat) :
    PeersOk own (setPeerGranted st w s).clock.peers := h.map fun p => by split <;> rfl

theorem applyClaim_peersOk {own : Byte} {s : State} (h : PeersOk own s.clock.peers) (st : Byte) (f : ClaimFields) :
    PeersOk own (applyClaim st f s).clock.peers := by
  have htest : PeersOk own (testPeerClaim st f s).1.clock.peers := by
    unfold testPeerClaim
    split
    · exact h
    · split
      · exact setPeerGranted_peersOk h st _
      · exact h
  unfold applyClaim
  dsimp only
  split
  · rw [(headroomRise_within _).peers]
    exact htest
  · exact htest

theorem applyBeacon_peersOk {own : Byte} {s : State} (h : PeersOk own s.clock.peers) (st : Byte) (f : BeaconFields)
    (existed : Bool) : PeersOk own (applyBeacon st f existed s).clock.peers := by
  have hstep : PeersOk own (clockStep f s).clock.peers := by
    rw [(clockStep_within f s).peers]
    exact h
  unfold applyBeacon statedClaim
  split
  · exact hstep
  · have hset := setPeerGranted_peersOk hstep st f.granted.toNat
    dsimp only
    split
    · rw [(headroomRise_within _).peers]
      exact hset
    · exact hset

theorem applyStop_peers (f : StopFields) (s : State) :
    (applyStop f s).clock.peers = s.clock.peers ∨ (applyStop f s).clock.peers = [] :=
  (applyStop_cases f s).imp (fun h => h.peers) (fun h => h.2.peers)

/-- The arrival of a frame whose blocks keep the bounds of the table. -/
theorem receiveFrame_peers {fr : Frame} {act : State → State} {s : State}
    (hact : fr.body.fieldsOk = true → ∀ u, PeersOk s.station.ownStation u.clock.peers →
      PeersOk s.station.ownStation (act u).clock.peers) : PeerCourse s (receiveFrame fr act s) := by
  rcases receiveFrame_course fr act s with h | ⟨⟨hr, hok, hfr⟩, h⟩
  · exact .same h.peers
  · refine .heard (receiving_of_receives hr) fun hs => ?_
    rw [h, (conclude_within _).peers]
    exact hact hok _ (handed_peersOk hfr hs)

/-- The arrival of a frame whose blocks leave the table. -/
theorem receiveFrame_peers_of_within {fr : Frame} {act : State → State} (hact : fr.body.fieldsOk = true → ∀ u, Within u (act u))
    (s : State) : PeerCourse s (receiveFrame fr act s) :=
  receiveFrame_peers fun hok u hu => by
    rw [(hact hok u).peers]
    exact hu

theorem stop_peers (st : Byte) (f : StopFields) (s : State) : PeerCourse s (receiveFrame ⟨st, .stop f⟩ (applyStop f) s) :=
  receiveFrame_peers fun _ u hu => by
    rcases applyStop_peers f u with h | h <;> rw [h]
    · exact hu
    · exact .nil _

theorem settleRound_peers (f : ClaimFields) (g : Bool) (s : State) : (settleRound f g s).clock.peers = s.clock.peers := by
  unfold settleRound
  split
  · rfl
  · split
    · split <;> rfl
    · split <;> rfl

theorem readbackOwn_peers (fr : Frame) (s : State) : (readbackOwn fr s).clock.peers = s.clock.peers := by
  unfold readbackOwn
  split
  · rename_i hok
    unfold dispatchOwn
    cases hbody : fr.body with
    | claim f =>
      show (ownClaimReadback f s).clock.peers = _
      unfold ownClaimReadback
      split
      · rfl
      · split <;> rw [settleRound_peers]
    | cover f => exact (applyCover_within true _ (coverCount_of_fieldsOk (hbody ▸ hok)) s).peers
    | offer f => exact (applyOffer_within f s).peers
    | beacon f => exact (clockStep_within f s).peers
    | _ => rfl
  · rfl

theorem transmissionSuccess_peers {s t : State} (ht : exec .transmissionSuccess s = .next t) : PeerCourse s t := by
  refine .next ht ?_
  split
  · exact .same rfl
  · refine .ite fun _ => .same ?_
    rw [(conclude_within _).peers, readbackOwn_peers]
    exact checkMarks_peers _

theorem stuckLine_peers {s t : State} (ht : exec .stuckLine s = .next t) : PeerCourse s t := by
  refine .next ht ?_
  split
  · exact .same rfl
  · refine .same ((conclude_within _).peers.trans ?_)
    rcases loseLink_cases { s with link.dominantRun := Config.stuckRun, link.recessiveRun := 0 } with ⟨-, h⟩ | h
    · exact h
    · exact h.peers

theorem clash_peers {p : Nat} {s t : State} (ht : exec (.clash p) s = .next t) : PeerCourse s t := by
  refine .next ht ?_
  split
  · exact .same rfl
  · refine .ite fun _ => .same ?_
    rcases clashAt_cases _ p s with ⟨-, h⟩ | h
    · exact h
    · exact h.peers

theorem DriveCourse.peers {s t : State} (h : DriveCourse s t) : t.clock.peers = s.clock.peers := by
  cases h with
  | goesOn h => exact h.peers
  | readies _ h => exact h.peers
  | faults h => exact h.peers
  | readiedFaults u _ h k => exact k.peers.trans h.peers

theorem inFrame_peers {status pan tilt temp : Slot} {s t : State} (ht : exec (.inFrame status pan tilt temp) s = .next t) :
    PeerCourse s t := by
  refine .next ht ?_
  split
  · exact .same rfl
  · split
    · exact .same (presentFrame_course _ _ _ s).peers
    · exact .same (absentFrame_course s).peers

theorem peerSilent_peers {st : Byte} {s t : State} (ht : exec (.peerSilent st) s = .next t) : PeerCourse s t := by
  refine .next ht ?_
  split
  · exact .same rfl
  · refine .ite fun _ => ?_
    have hpeers : (silencePeer st s).clock.peers
        = (updatePeer st (fun p => { p with state := .silent }) s).clock.peers := (stationGone_within st _).peers
    exact .aged (fun own h => by rw [hpeers]; exact updatePeer_peersOk h st fun _ => rfl)
      (fun h => by rw [hpeers]; simp [updatePeer, h])

theorem peerRemoved_peers {st : Byte} {s t : State} (ht : exec (.peerRemoved st) s = .next t) : PeerCourse s t := by
  refine .next ht ?_
  split
  · exact .same rfl
  · rename_i p _
    refine .ite fun _ => ?_
    have hpeers : (removePeer p s).clock.peers = dropPeer p.station s.clock.peers := by
      unfold removePeer
      dsimp only
      split
      · rw [(conclude_within _).peers, (headroomRise_within _).peers]
      · rfl
    exact .aged (fun own h => by rw [hpeers]; exact h.sublist List.filter_sublist)
      (fun h => by rw [hpeers, h]; rfl)

theorem endRead_peers (rec : List Byte) (s : State) : (endRead rec s).clock.peers = s.clock.peers := by
  unfold endRead
  dsimp only
  split
  · exact setMode_clock_peers _ _
  · rw [(passRead_within rec _).peers, setMode_clock_peers, takeRecord_peers]

theorem exec_peers {c : Instr} {s t : State} (ht : exec c s = .next t) : PeerCourse s t := by
  cases c with
  | powerOnReset => exact .next ht (.emptied rfl)
  | resetAsserted => exact .next ht (.same (setMode_clock_peers _ _))
  | configurationReadEnd bytes => exact .next ht (.ite fun _ => .same (endRead_peers _ s))
  | clash p => exact clash_peers ht
  | transmissionSuccess => exact transmissionSuccess_peers ht
  | stuckLine => exact stuckLine_peers ht
  | viewSettleEnd =>
    exact .next ht (.ite fun _ => .same ((settleOver_cases s).elim (fun h => h.peers) (fun h => h.2.peers)))
  | homingTimeout =>
    exact .next ht (.ite fun _ => .same ((homingTooLong_cases s).elim (fun h => h.peers) (fun h => h.peers)))
  | inFrame status pan tilt temp => exact inFrame_peers ht
  | peerSilent st => exact peerSilent_peers ht
  | peerRemoved st => exact peerRemoved_peers ht
  | stop st f => exact .next ht (stop_peers st f s)
  | claim st f => exact .next ht (receiveFrame_peers fun _ u hu => applyClaim_peersOk hu st f)
  | beacon st f => exact .next ht (receiveFrame_peers fun _ u hu => applyBeacon_peersOk hu st f _)
  | track st f => exact .next ht (receiveFrame_peers_of_within (fun _ u => applyTrack_within f u) s)
  | cover st f =>
    exact .next ht (receiveFrame_peers_of_within (fun hok u => applyCover_within false st (coverCount_of_fieldsOk hok) u) s)
  | offer st f => exact .next ht (receiveFrame_peers_of_within (fun _ u => applyOffer_within f u) s)
  | call st f => exact .next ht (receiveFrame_peers_of_within (fun _ u => applyCall_within f u) s)
  | segment st f => exact .next ht (receiveFrame_peers_of_within (fun _ u => applySegment_within f u) s)
  | probe st f => exact .next ht (receiveFrame_peers_of_within (fun _ u => applyProbe_within f u) s)
  | report st f => exact .next ht (receiveFrame_peers_of_within (fun _ u => .refl u) s)
  | _ => exact .same (exec_within rfl ht).peers

/-! ### The own number and CONFIG (R186, R191) -/

/-- The own station number is written by a configuration read and a power-on reset alone, and CONFIG is entered, or stays, with an
empty table (R191). -/
theorem exec_ownStation {c : Instr} {s t : State} (ht : exec c s = .next t) :
    t.station.ownStation = s.station.ownStation ∨ s.station.mode = .config ∧ t.clock.peers = s.clock.peers
      ∨ t.clock.peers = [] := by
  cases exec_course ht with
  | steady h => exact .inl h.ownStation
  | rejoins h => exact .inl h.ownStation
  | isolates _ h => exact .inl h.ownStation
  | claims _ _ _ _ h => exact .inl h.ownStation
  | readies _ h => exact .inl h.ownStation
  | faults _ h => exact .inl h.ownStation
  | readiedFaults _ _ u h k => exact .inl (k.ownStation.trans h.ownStation)
  | restarts _ _ _ _ _ _ u h _ k => exact .inl (k.ownStation.trans (h.elim (fun h => h.ownStation) fun h => h.ownStation))
  | reads bytes _ was h => exact .inr (.inl ⟨was, h ▸ endRead_peers _ s⟩)
  | powerOn _ h => exact .inr (.inr (h ▸ rfl))
  | held _ h => exact .inl (by rw [h]; simp [holdReset])

theorem exec_enters_config {c : Instr} {s t : State} (ht : exec c s = .next t) (hm : t.station.mode = .config) :
    s.station.mode = .config ∨ t.clock.peers = [] := by
  cases exec_course ht with
  | steady h => exact .inl ((h.was_of_mode (by simp [hm])).trans hm)
  | rejoins h => rw [h.mode] at hm; cases hm
  | isolates _ h => rw [h.mode] at hm; cases hm
  | claims _ _ _ _ h =>
    rcases h.mode with h | h
    · exact .inl (h.symm.trans hm)
    · rw [h.2] at hm; cases hm
  | readies _ h => rw [h.mode] at hm; split at hm <;> cases hm
  | faults _ h => rw [h.mode] at hm; cases hm
  | readiedFaults _ _ u h k => rw [k.mode] at hm; cases hm
  | restarts _ _ _ _ _ _ u h _ k => exact .inr k.peers
  | reads bytes _ was h => exact .inl was
  | powerOn _ h => exact .inr (h ▸ rfl)
  | held _ h => rw [h] at hm; simp [holdReset] at hm

theorem peerInv_iff (s : State) :
    PeerInv s ↔ PeersOk s.station.ownStation s.clock.peers ∧ (s.station.mode = .config → s.clock.peers = []) := by
  unfold PeerInv PeersOk
  simp only [and_assoc]

theorem peerInv_of_nil {s : State} (h : s.clock.peers = []) : PeerInv s := by
  rw [peerInv_iff, h]
  exact ⟨.nil _, fun _ => rfl⟩

/-- Settles O55: entries are created only for stations other than the own, in their place and with room, while the line is on;
where the own number may change the table is empty. -/
theorem peerInvKept : Obligations.PeerInvKept := by
  intro s t c hm hs ht
  rw [peerInv_iff] at hs
  obtain ⟨hok, hempty⟩ := hs
  by_cases hnil : t.clock.peers = []
  · exact peerInv_of_nil hnil
  · have hconfig : s.station.mode = .config → t.clock.peers = [] := fun hw => by
      cases exec_peers ht with
      | same h => exact h.trans (hempty hw)
      | heard hline _ =>
        have := lineOff_of_reset hm hline
        rw [hw] at this
        cases this
      | aged _ h => exact h (hempty hw)
      | emptied h => exact h
    have hwas : s.station.mode ≠ .config := fun hw => hnil (hconfig hw)
    have hown : t.station.ownStation = s.station.ownStation := by
      rcases exec_ownStation ht with h | ⟨h, -⟩ | h
      · exact h
      · exact absurd h hwas
      · exact absurd h hnil
    rw [peerInv_iff, hown]
    refine ⟨?_, fun hc => (exec_enters_config ht hc).resolve_left hwas⟩
    cases exec_peers ht with
    | same h => rw [h]; exact hok
    | heard _ h => exact h hok
    | aged h _ => exact h _ hok
    | emptied h => exact absurd h hnil

end Sys2Proof.Machine
end


section
/-! SUPPORT. The settled obligations about the step, the resets and the reset state. -/

namespace Sys2Proof.Machine

/-- Settles O1: `step` is a match on the queue; idling passes byte 1 of an own attempt (`passByteOne_eq`). -/
theorem stepRunsFrontCommand : Obligations.StepRunsFrontCommand := by
  refine ⟨fun s c rest h => ?_, fun s h => ?_⟩
  · simp only [step, h]
  · simp only [step, h, lineIdles, passByteOne_eq]

theorem enterLine_off {m : StationMode} (h : m.linkOff = true) (k : LinkState) :
    enterLine m k = { k with lineState := .off, recessiveRun := 0, dominantRun := 0 } := by
  simp [enterLine, lineFor, h]

/-- A change to a mode in which the line is OFF offers nothing (R3, R38). -/
theorem setMode_of_linkOff {m : StationMode} (h : m.linkOff = true) (s : State) :
    setMode m s =
      { s with
        station := { s.station with mode := m, statusAsserted := m.asserts }
        link := { s.link with lineState := .off, recessiveRun := 0, dominantRun := 0 }
        clock := { s.clock with beaconTimer := none, beaconDue := false } } := by
  unfold setMode
  dsimp only
  rw [if_pos h, enterLine_off h]

/-- Settles O2: the power-on state is `State.reset` with the queue of commands that wait; a reset pin held changes the mode and
clears what is named, and nothing else. -/
theorem resetsSetTheBlock : Obligations.ResetsSetTheBlock := by
  refine ⟨fun s => ⟨_, rfl, rfl, rfl, rfl, rfl, rfl, rfl, rfl, rfl, rfl, rfl, rfl, rfl, rfl, rfl, rfl, rfl, rfl, rfl, rfl,
    rfl, rfl, rfl, rfl, rfl, rfl, rfl, rfl, rfl, rfl, rfl, rfl, rfl, rfl, rfl, rfl, rfl, rfl, rfl, rfl, rfl, rfl,
    fun l hl => List.eq_of_mem_replicate hl, fun r hr => ?_, rfl, rfl, rfl, rfl, rfl, rfl, rfl, rfl, rfl, rfl, rfl, rfl,
    rfl, rfl, rfl, rfl, rfl, rfl, rfl, rfl, rfl, rfl, rfl⟩,
    fun s => ⟨_, rfl, rfl, rfl, rfl, rfl, rfl, rfl, rfl, rfl, rfl, rfl, rfl, rfl, rfl, rfl, rfl, rfl, rfl, rfl, rfl, rfl⟩⟩
  rw [List.eq_of_mem_replicate hr]
  rfl

/-- Settles O48: nothing is held after a power-on reset, and its counters are 0. -/
theorem resetIsSafe : Obligations.ResetIsSafe := by
  refine ⟨⟨rfl, rfl⟩, ?_, (queueInv_iff _).2 QueueOk.nil, (storeInv_iff _).2 TableOk.nil, peerInv_of_nil rfl,
    coverInv_cleared rfl rfl, soloInv_of_none rfl, OwnerInv.of_none rfl rfl, ?_⟩
  · simp [ModeInv, State.reset, StationMode.asserts, StationMode.linkOff]
  · have hzero : ∀ n ∈ State.reset.counts, n = 0 := by decide
    exact fun n hn => (hzero n hn).trans_le (Nat.zero_le _)

end Sys2Proof.Machine
end


section
/-! SUPPORT. The settled obligations about the configuration read, the tick and the profile of a segment. -/

namespace Sys2Proof.Machine

/-! ### Requests with solo mode OFF (R103, R119) -/

/-- With solo mode OFF a request opens a round; what it defers and abandons is as `request` says. -/
theorem request_of_solo_none (w : Nat) (r : Reason) (p : Purpose) {s : State} (h : s.power.solo = none) :
    request w r p s = openRound w r p
      { s with power := { s.power with deferred := deferFor s.power.round p s.power.deferred, abandoned := false } } := by
  simp [request, State.soloOn, h]

/-- The view settle timer holds back the CLAIM of any purpose but a lowering. -/
theorem openRound_held (w : Nat) (r : Reason) {p : Purpose} {s : State} (h : s.settling = true) (hp : p ≠ .lowering) :
    openRound w r p s = { s with power := { s.power with round := some ⟨false, w, r, p, true⟩, reclaim := none } } := by
  simp [openRound, h, hp]

/-- A CLAIM that is not held back is offered with the round. -/
theorem openRound_offered (w : Nat) (r : Reason) {p : Purpose} {s : State} (h : s.settling = false ∨ p = .lowering) :
    openRound w r p s = offer (.claim (claimFrame s.fig w r))
      { s with power := { s.power with round := some ⟨false, w, r, p, false⟩, reclaim := none } } := by
  rcases h with h | rfl <;> simp [openRound, *]

/-! ### The configuration read -/

/-- The read ends in CONFIG, where the memory is selected. -/
theorem configurationReadEnd_of_config {s : State} (h : s.station.mode = .config) (bytes : List Byte) :
    exec (.configurationReadEnd bytes) s = .next (endRead (recordBytes bytes) s) :=
  congrArg Host.Outcome.next (if_pos (by simp [State.memorySelect, h]))

theorem recordFault_of_failed {rec : List Byte} (h : checksumOk rec = false ∨ recordRangeOk rec = false) :
    recordFault rec = some (if checksumOk rec then 2 else 1) := by
  unfold recordFault
  cases hc : checksumOk rec <;> simp_all

theorem recordFault_of_passed {rec : List Byte} (hc : checksumOk rec = true) (hr : recordRangeOk rec = true) :
    recordFault rec = none := by
  simp [recordFault, hc, hr]

theorem ownNumberOf_eq (rec : List Byte) :
    ownNumberOf rec = if 1 ≤ (rec.getD 0 0).toNat ∧ (rec.getD 0 0).toNat ≤ 254 then rec.getD 0 0 else 254 := by
  simp [ownNumberOf, stationOk, byteAt, Config.fallbackStation]

/-- A change to a mode that is on the line writes the mode, the line and the beacon timer (R3, R38, R185). -/
theorem setMode_onLine {m : StationMode} (h : m.linkOff = false) (s : State) : ∃ k : LinkState,
    setMode m s = { s with
      station := { s.station with mode := m, statusAsserted := m.asserts }
      link := k
      clock := { s.clock with beaconTimer := some 200 } } ∧ k.lineState = lineFor m s.link.lineState := by
  have hset : setMode m s = beaconNow { s with
      station := { s.station with mode := m, statusAsserted := m.asserts }, link := enterLine m s.link } :=
    if_neg (by rw [h]; exact Bool.false_ne_true)
  have hline := setMode_lineState m s
  rw [hset, beaconNow] at hline ⊢
  rcases offer_cases .beacon { s with
      station := { s.station with mode := m, statusAsserted := m.asserts }
      link := enterLine m s.link
      clock := { s.clock with beaconTimer := some Config.beaconInterval } } with ⟨q, -, hq⟩ | ⟨-, hq⟩
  · exact ⟨_, hq, (congrArg (fun t : State => t.link.lineState) hq).symm.trans hline⟩
  · exact ⟨_, hq, (congrArg (fun t : State => t.link.lineState) hq).symm.trans hline⟩

theorem lineFor_ne_off {m : StationMode} (h : m.linkOff = false) (l : LineState) : lineFor m l ≠ .off := by
  rw [lineFor, h, if_neg Bool.false_ne_true]
  split
  · decide
  · assumption

/-- A failed read leaves no record, no figures and no grant, the axes out of service (R186). -/
theorem failRead_eq (code : Nat) (s : State) : ∃ k : LinkState,
    failRead code s = { s with
      station := { s.station with
        mode := .unconfigured
        statusAsserted := true
        faultCode := code
        record := none
        figures := none
        restarted := false
        homingNeeded := true }
      aim := { s.aim with pose := none }
      drive := { s.drive with axesOn := false }
      power := { s.power with granted := 0, settle := none }
      link := k
      clock := { s.clock with beaconTimer := some 200 } } ∧ k.lineState ≠ .off := by
  obtain ⟨k, hset, hline⟩ := setMode_onLine (m := .unconfigured) rfl { s with
    station := { s.station with faultCode := code, record := none, figures := none, restarted := false, homingNeeded := true }
    aim := { s.aim with pose := none }
    drive := { s.drive with axesOn := false }
    power := { s.power with granted := 0, settle := none } }
  exact ⟨k, hset, hline ▸ lineFor_ne_off rfl _⟩

/-- Settles O3: `failRead` after the own number is taken; the change to UNCONFIGURED puts the line on. -/
theorem failedReadUnconfigures : Obligations.FailedReadUnconfigures := by
  intro s bytes hm hfail
  obtain ⟨code, hcode⟩ : ∃ n : Nat, n = if checksumOk (recordBytes bytes) then 2 else 1 := ⟨_, rfl⟩
  obtain ⟨own, hown⟩ : ∃ b : Byte, b = ownNumberOf (recordBytes bytes) := ⟨_, rfl⟩
  obtain ⟨k, hread, hon⟩ := failRead_eq code { s with station := { s.station with ownStation := own } }
  have hend : endRead (recordBytes bytes) s = failRead code { s with station := { s.station with ownStation := own } } := by
    unfold endRead
    rw [recordFault_of_failed hfail, hcode, hown]
  exact ⟨_, (configurationReadEnd_of_config hm bytes).trans (congrArg Host.Outcome.next (hend.trans hread)), rfl, hcode, rfl, rfl, rfl,
    hown.trans (ownNumberOf_eq _), rfl, rfl, rfl, rfl, rfl, hon, rfl, rfl, rfl, rfl, rfl, rfl, rfl⟩

/-- A record of good range gives the own station number it holds, and soft limits in order (R186). -/
theorem ranges_of_recordRangeOk {rec : List Byte} (h : recordRangeOk rec = true) :
    stationOk (rec.getD 0 0) = true ∧ (parseFigures rec).panMin ≤ (parseFigures rec).panMax
      ∧ (parseFigures rec).tiltMin ≤ (parseFigures rec).tiltMax := by
  unfold recordRangeOk at h
  iterate 16 replace h := Bool.and_elim_left h
  have htilt := of_decide_eq_true (Bool.and_elim_right h)
  iterate 2 replace h := Bool.and_elim_left h
  have hpan := of_decide_eq_true (Bool.and_elim_right h)
  iterate 9 replace h := Bool.and_elim_left h
  exact ⟨h, hpan, htilt⟩

theorem ownNumberOf_of_recordRangeOk {rec : List Byte} (h : recordRangeOk rec = true) : ownNumberOf rec = rec.getD 0 0 :=
  if_pos (ranges_of_recordRangeOk h).1

theorem endRead_of_passed {rec : List Byte} (hc : checksumOk rec = true) (hr : recordRangeOk rec = true) (s : State) :
    endRead rec s = passRead rec { s with station := { s.station with ownStation := rec.getD 0 0 } } := by
  simp only [endRead, recordFault_of_passed hc hr, ownNumberOf_of_recordRangeOk hr]

/-- A request whose CLAIM the view settle timer holds back touches the power share unit alone (R119). -/
theorem askHoming_held {s : State} (hsolo : s.power.solo = none) (hset : s.settling = true) :
    askHoming s = { s with
      power := { s.power with
        deferred := deferFor s.power.round .homing s.power.deferred
        abandoned := false
        round := some ⟨false, s.homingClaim, .homing, .homing, true⟩
        reclaim := none } } := by
  rw [askHoming, request_of_solo_none _ _ _ hsolo, openRound_held _ _ (by exact hset) (by decide)]

theorem passRead_of_needed {rec : List Byte} {s : State} (h : (takeRecord rec s).station.homingNeeded = true) :
    passRead rec s = conclude (askHoming (setMode .starting (takeRecord rec s))) := by
  simp [passRead, h]

theorem passRead_of_not_needed {rec : List Byte} {s : State} (h : (takeRecord rec s).station.homingNeeded = false) :
    passRead rec s = conclude (setMode .starting (takeRecord rec s)) := by
  simp [passRead, h]

/-- Settles O4: without a RESTART before it the read changes no limit and no claim, and homing is needed. -/
theorem passedReadStarts : Obligations.PassedReadStarts := by
  intro s bytes hm hrestart haxes hround hdeferred hsolo hquiet hcheck hrange
  have hend := configurationReadEnd_of_config hm bytes
  rw [endRead_of_passed hcheck hrange] at hend
  generalize recordBytes bytes = rec at *
  have htake : takeRecord rec { s with station := { s.station with ownStation := rec.getD 0 0 } } =
      { s with
        station := { s.station with
          ownStation := rec.getD 0 0
          record := some rec
          figures := some (parseFigures rec)
          homingNeeded := s.needsHoming }
        aim := { s.aim with pose := some (parseFigures rec).pose }
        power := { s.power with settle := some 250 } } := if_neg (by simp [hrestart])
  obtain ⟨k, hset, -⟩ := setMode_onLine (m := .starting) rfl (takeRecord rec
    { s with station := { s.station with ownStation := rec.getD 0 0 } })
  rw [htake] at hset
  rw [passRead_of_needed (by rw [htake]; simp [State.needsHoming, haxes]), htake, hset, askHoming_held (by exact hsolo) (by rfl),
    conclude_of_quiet (by exact ⟨hquiet.1, rfl⟩)] at hend
  exact ⟨_, hend, rfl, rfl, rfl, rfl, rfl, rfl, rfl, rfl, rfl, rfl, rfl, rfl, rfl, rfl, rfl, rfl, rfl, rfl, rfl⟩

/-- The nearer soft limit from outside, the position itself within (R81). -/
theorem clampInt_nearest {lo hi : Int} (h : lo ≤ hi) (x : Int) :
    lo ≤ clampInt lo hi x ∧ clampInt lo hi x ≤ hi ∧ (lo ≤ x → x ≤ hi → clampInt lo hi x = x)
      ∧ (x < lo → clampInt lo hi x = lo) ∧ (hi < x → clampInt lo hi x = hi) := by
  rcases lt_or_ge x lo with hl | hl
  · rw [clampInt, if_pos hl]
    exact ⟨le_rfl, h, fun hx => absurd hl hx.not_gt, fun _ => rfl, fun hx => absurd hl (h.trans hx.le).not_gt⟩
  · rcases lt_or_ge hi x with hh | hh
    · rw [clampInt, if_neg hl.not_gt, if_pos hh]
      exact ⟨h, le_rfl, fun _ hx => absurd hh hx.not_gt, fun hx => absurd hx hl.not_gt, fun _ => rfl⟩
    · rw [clampInt, if_neg hl.not_gt, if_neg hh.not_gt]
      exact ⟨hl, hh, fun _ _ => rfl, fun hx => absurd hx hl.not_gt, fun hx => absurd hx hh.not_gt⟩

/-- Settles O5: after a RESTART the read takes the claim and brings the position within the limits; with both axes homed and in
service no homing claim is asked for. -/
theorem restartedReadKeepsAxes : Obligations.RestartedReadKeepsAxes := by
  intro s bytes hm hrestart haxes hpan htilt hround hquiet hcheck hrange
  obtain ⟨-, hpanLimits, htiltLimits⟩ := ranges_of_recordRangeOk hrange
  have hend := configurationReadEnd_of_config hm bytes
  rw [endRead_of_passed hcheck hrange] at hend
  generalize recordBytes bytes = rec at *
  have hneed : s.needsHoming = false := by simp [State.needsHoming, haxes, hpan, htilt]
  have htake : takeRecord rec { s with station := { s.station with ownStation := rec.getD 0 0 } } =
      { s with
        station := { s.station with
          ownStation := rec.getD 0 0
          record := some rec
          figures := some (parseFigures rec)
          homingNeeded := s.needsHoming
          restarted := false }
        aim := { s.aim with pose := some (parseFigures rec).pose }
        power := { s.power with settle := some 250, granted := (parseFigures rec).still }
        planner := { s.planner with
          pan := clampInt (parseFigures rec).panMin (parseFigures rec).panMax s.planner.pan
          tilt := clampInt (parseFigures rec).tiltMin (parseFigures rec).tiltMax s.planner.tilt } } := if_pos hrestart
  obtain ⟨k, hset, -⟩ := setMode_onLine (m := .starting) rfl (takeRecord rec
    { s with station := { s.station with ownStation := rec.getD 0 0 } })
  rw [htake] at hset
  rw [passRead_of_not_needed (by rw [htake]; exact hneed), htake, hset, conclude_of_quiet (by exact hquiet)] at hend
  exact ⟨_, hend, rfl, hneed, rfl, rfl, hround, rfl, clampInt_nearest (Int.ofNat_le.2 hpanLimits) s.planner.pan,
    clampInt_nearest (Int.ofNat_le.2 htiltLimits) s.planner.tilt, rfl, rfl, rfl⟩

/-! ### The tick (R25, R82, R161, R171) -/

theorem profileTick_eq (s : State) : profileTick s = { s with planner := (profileTick s).planner } := by
  unfold profileTick
  split
  · rfl
  · split <;> rfl

theorem fadeTick_eq (s : State) : fadeTick s = { s with colour := (fadeTick s).colour } := by
  unfold fadeTick
  split
  · rfl
  · split <;> rfl

/-- The profile's step reads and writes the planner alone. -/
theorem profileTick_planner_congr {s t : State} (h : t.planner = s.planner) :
    (profileTick t).planner = (profileTick s).planner := by
  unfold profileTick
  rw [h]
  cases s.planner.motion with
  | none => exact h
  | some m =>
    dsimp only
    split <;> simp [h]

theorem fadeTick_colour_congr {s t : State} (h : t.colour = s.colour) : (fadeTick t).colour = (fadeTick s).colour := by
  unfold fadeTick
  rw [h]
  cases s.colour.fade with
  | none => exact h
  | some f =>
    dsimp only
    split <;> simp

theorem countDown_eq (o : Option Nat) : countDown o = o.map (fun n => n - 1) := by cases o <;> rfl

theorem homingTick_eq (o : Option Nat) : homingTick o = o.map (fun n => min 20000 (n + 1)) := by cases o <;> rfl

/-- What a tick writes, block by block. -/
theorem tickWork_eq (s : State) :
    tickWork s =
      { s with
        clock := { s.clock with
          linkClock := s.clock.linkClock + 1
          tickCount := s.clock.tickCount + 1
          beaconTimer := s.clock.beaconTimer.map (fun n => n - 1)
          beaconDue := s.clock.beaconDue || s.clock.beaconTimer.map (fun n => n - 1) == some 0 }
        planner := (profileTick s).planner
        colour := (fadeTick s).colour
        power := { s.power with
          reclaim := s.power.reclaim.map (fun n => n - 1)
          settle := s.power.settle.map (fun n => n - 1) }
        cover := { s.cover with restate := s.cover.restate.map (fun n => n - 1) }
        drive := { s.drive with outFrame := s.composeOut, homing := s.drive.homing.map (fun n => min 20000 (n + 1)) } } := by
  have hp : (profileTick (frameSync (advanceClocks s))).planner = (profileTick s).planner := profileTick_planner_congr rfl
  have hf : (fadeTick (profileTick (frameSync (advanceClocks s)))).colour = (fadeTick s).colour :=
    fadeTick_colour_congr (by rw [profileTick_eq]; rfl)
  rw [tickWork, fadeTick_eq, hf, profileTick_eq, hp, ← countDown_eq, ← countDown_eq, ← countDown_eq, ← countDown_eq, ← homingTick_eq]
  rfl

/-- Outside RESET a tick does its work. -/
theorem tick_of_not_reset {s : State} (h : s.station.mode ≠ .reset) : exec .tick s = .next (tickWork s) :=
  congrArg Host.Outcome.next (if_neg h)

/-- Settles O6: what a tick writes is `tickWork_eq`; the out-frame is composed of the values that stood. -/
theorem tickAdvances : Obligations.TickAdvances := by
  refine ⟨fun s h => congrArg Host.Outcome.next (if_pos h), fun s h =>
    ⟨_, (tick_of_not_reset h).trans (congrArg Host.Outcome.next (tickWork_eq s)), ?_⟩⟩
  have hplanner : s.planner.motion = none → (profileTick s).planner = s.planner := fun hm => by simp [profileTick, hm]
  have hcolour : s.colour.fade = none → (fadeTick s).colour = s.colour := fun hf => by simp [fadeTick, hf]
  have hlit : s.station.mode.lights = true ↔ s.station.mode = .ready ∨ s.station.mode = .isolated := by
    cases s.station.mode <;> simp [StationMode.lights]
  have hscale : 0 < s.colour.thermal.scale ↔ s.colour.thermal ≠ .shutdown := by
    cases s.colour.thermal <;> simp [ThermalState.scale]
  refine ⟨rfl, rfl, rfl, ?_, rfl, rfl, fun hl => ⟨?_, ?_⟩, fun hr hi => ?_, rfl, ?_, rfl, rfl, rfl, rfl, hplanner,
    hcolour, rfl, rfl, rfl, rfl, rfl, rfl, rfl, rfl, rfl, rfl, rfl, rfl⟩
  · simp [State.composeOut, State.homeRequest, ← Bool.not_eq_true, imp_iff_not_or]
  · simp [State.composeOut, State.emitterEnable, hlit.2 hl, hscale]
  · refine List.map_congr_left fun l _ => ?_
    rw [outputOf, if_pos (hlit.2 hl)]
    cases s.colour.thermal <;> rfl
  · have hdark : s.station.mode.lights = false := by simpa [hr, hi] using mt hlit.1
    simp [State.composeOut, State.emitterEnable, State.outputs, outputOf, hdark]
  · simp

theorem tickWork_planner (s : State) : (tickWork s).planner = (profileTick s).planner := by rw [tickWork_eq]

theorem tickWork_colour (s : State) : (tickWork s).colour = (fadeTick s).colour := by rw [tickWork_eq]

/-- A fade's step truncated toward 0 never passes its target, so a level is no less than 0 (R161). -/
theorem fadeLevel_cast {old target t length : Nat} (h : t ≤ length) :
    (fadeLevel old target t length : Int) = (old : Int) + (((target : Int) - old) * t).tdiv length := by
  refine Int.toNat_of_nonneg ?_
  rcases le_total (old : Int) target with hle | hle
  · have hrise := mul_nonneg (sub_nonneg.2 hle) (Int.natCast_nonneg t)
    exact add_nonneg (Int.natCast_nonneg _) (Int.tdiv_nonneg hrise (Int.natCast_nonneg _))
  · have hneg : (((target : Int) - old) * t) = -(((old : Int) - target) * t) := by rw [← neg_mul, neg_sub]
    have hbound : (((old : Int) - target) * t).tdiv length ≤ (old : Int) - target := by
      rcases Nat.eq_zero_or_pos length with rfl | hpos
      · simp [hle]
      · have hlength := Int.natCast_pos.2 hpos
        refine (Int.tdiv_le_tdiv hlength (mul_le_mul_of_nonneg_left (Int.ofNat_le.2 h) (sub_nonneg.2 hle))).trans_eq ?_
        exact Int.mul_tdiv_cancel _ hlength.ne'
    rw [hneg, Int.neg_tdiv, ← sub_eq_add_neg]
    exact sub_nonneg.2 (hbound.trans (sub_le_self _ (Int.natCast_nonneg _)))

theorem levelsAt_getElem? {f : Fade} {t i o g : Nat} (ho : f.old[i]? = some o) (hg : f.target[i]? = some g) :
    (f.levelsAt t)[i]? = some (fadeLevel o g t f.length) := by
  simp [Fade.levelsAt, List.getElem?_zipWith, ho, hg]

/-- Settles O7: the planner's step is `profileTick`, the colour engine's `fadeTick`. -/
theorem tickMovesMotionAndFade : Obligations.TickMovesMotionAndFade := by
  refine ⟨fun s m h hm ht => ⟨_, tick_of_not_reset h, ?_⟩, fun s m h hm ht => ⟨_, tick_of_not_reset h, ?_⟩,
    fun s f h hf ht hlen => ⟨_, tick_of_not_reset h, ?_⟩, fun s f h hf ht => ⟨_, tick_of_not_reset h, ?_⟩⟩
  · simp [tickWork_planner, profileTick, hm, ht]
  · simp [tickWork_planner, profileTick, hm, Nat.not_lt.2 ht]
  · have hcolour : (tickWork s).colour =
        { s.colour with levels := f.levelsAt (f.t + 1), fade := some { f with t := f.t + 1 } } := by
      simp [tickWork_colour, fadeTick, hf, ht]
    rw [hcolour]
    refine ⟨rfl, by simp [Fade.levelsAt, hlen], fun i o g ho hg => ?_⟩
    simp [levelsAt_getElem? ho hg, fadeLevel_cast ht.le]
  · simp [tickWork_colour, fadeTick, hf, Nat.not_lt.2 ht]

/-! ### The profile (R84) -/

theorem profileDistance_zero (l d r : Nat) : profileDistance l d r 0 = 0 := by
  simp [profileDistance]

theorem profileDistance_end {d r : Nat} (hr : 1 ≤ r) (hd : 2 * r ≤ d) (l : Nat) : profileDistance l d r d = l := by
  have hlong : r < d := (lt_two_mul_self hr).trans_le hd
  simp [profileDistance, hlong.not_ge, (Nat.sub_lt (hlong.trans_le' (Nat.zero_le r)) hr).not_ge]

/-- Ramp, cruise and ramp down each cover no more than the whole distance. -/
theorem profileDistance_le {d r : Nat} (hd : 2 * r ≤ d) (l t : Nat) : profileDistance l d r t ≤ l := by
  unfold profileDistance
  dsimp only
  have hm : r ≤ d - r := Nat.le_sub_of_add_le (two_mul r ▸ hd)
  generalize d - r = m at hm
  split
  next ht =>
    refine Nat.div_le_of_le_mul ?_
    have hsquare : t ^ 2 ≤ 2 * r * m :=
      calc t ^ 2 = t * t := sq t
        _ ≤ r * m := Nat.mul_le_mul ht (ht.trans hm)
        _ ≤ 2 * r * m := Nat.mul_le_mul_right m (Nat.le_mul_of_pos_left r two_pos)
    rw [Nat.mul_comm]
    exact Nat.mul_le_mul_right l hsquare
  next =>
    split
    next ht =>
      refine Nat.div_le_of_le_mul ?_
      rw [Nat.mul_comm]
      exact Nat.mul_le_mul_right _ ((Nat.sub_le _ _).trans (Nat.mul_le_mul_left 2 ht))
    next => exact Nat.sub_le _ _

/-- Settles O8: the position is the start moved by the distance covered, which runs from 0 to the whole. -/
theorem profileStaysBetweenEnds : Obligations.ProfileStaysBetweenEnds := by
  intro a b d r t hr hd _
  have hle := profileDistance_le hd (b - a).natAbs t
  unfold profilePosition
  rw [profileDistance_zero, profileDistance_end hr hd]
  rcases le_or_gt a b with hab | hab
  · have hlen : ((b - a).natAbs : Int) = b - a := Int.natAbs_of_nonneg (sub_nonneg.2 hab)
    have hbound := hlen ▸ Int.ofNat_le.2 hle
    rw [if_pos hab, if_pos hab, if_pos hab, hlen, min_eq_left hab, max_eq_right hab]
    exact ⟨add_zero a, add_sub_cancel a b, le_add_of_nonneg_right (Int.natCast_nonneg _), add_le_of_le_sub_left hbound⟩
  · have hlen : ((b - a).natAbs : Int) = a - b := (Int.ofNat_natAbs_of_nonpos (sub_nonpos.2 hab.le)).trans (neg_sub b a)
    have hbound := hlen ▸ Int.ofNat_le.2 hle
    rw [if_neg hab.not_ge, if_neg hab.not_ge, if_neg hab.not_ge, hlen, min_eq_right hab.le, max_eq_left hab.le]
    exact ⟨sub_zero a, sub_sub_cancel a b, le_sub_comm.1 hbound, sub_le_self a (Int.natCast_nonneg _)⟩

end Sys2Proof.Machine
end


section
/-! SUPPORT. The settled obligations about the line: start opportunities, the ends of an own attempt, discards, and frames as
bytes. -/

namespace Sys2Proof.Machine

/-! ### The queue at the events of an attempt (R17, R18) -/

theorem TxBody.same_comm (a b : TxBody) : a.same b = b.same a := by
  rw [Bool.eq_iff_iff, TxBody.same_iff, TxBody.same_iff]
  exact eq_comm

/-- The entry selected is one of the WAITING entries. -/
theorem selectEntry_mem {q : List TxEntry} : ∀ {e : TxEntry}, selectEntry q = some e → e ∈ q ∧ e.inFlight = false := by
  induction q with
  | nil => exact fun h => nomatch h
  | cons x rest ih =>
    intro e h
    unfold selectEntry at h
    split at h
    · split at h
      · exact nomatch h
      · cases h
        simp_all
    next f hf =>
      split at h
      · cases h
        simp_all
      · cases h
        exact ⟨List.mem_cons_of_mem _ (ih hf).1, (ih hf).2⟩

/-- With every entry IN_FLIGHT none is selected. -/
theorem selectEntry_of_inFlight {q : List TxEntry} (h : ∀ e ∈ q, e.inFlight = true) : selectEntry q = none := by
  induction q with
  | nil => rfl
  | cons x rest ih =>
    have hrest := ih fun e he => h e (List.mem_cons_of_mem _ he)
    simp [selectEntry, hrest, h x List.mem_cons_self]

/-- The WAITING entry of lowest kind, the first of its kind, is selected (R17). -/
theorem selectEntry_eq {e : TxEntry} {after : List TxEntry} (hw : e.inFlight = false)
    (hafter : ∀ x ∈ after, x.inFlight = false → e.body.kind ≤ x.body.kind)
    {before : List TxEntry} (hbefore : ∀ x ∈ before, x.inFlight = false → e.body.kind < x.body.kind) :
      selectEntry (before ++ e :: after) = some e := by
  induction before with
  | nil =>
    rw [List.nil_append, selectEntry]
    split
    · simp [hw]
    next f hf =>
      obtain ⟨hmem, hwait⟩ := selectEntry_mem hf
      simp [hw, hafter f hmem hwait]
  | cons x before ih =>
    have hx := hbefore x List.mem_cons_self
    rw [List.cons_append, selectEntry, ih fun y hy => hbefore y (List.mem_cons_of_mem _ hy)]
    refine if_neg ?_
    simp only [Bool.and_eq_true, Bool.not_eq_true', decide_eq_true_eq]
    rintro ⟨hflight, hkind⟩
    exact absurd (hx hflight) (Nat.not_lt.2 hkind)

/-- In a queue of distinct kinds and subjects the selected entry alone becomes IN_FLIGHT. -/
theorem markInFlight_eq {before after : List TxEntry} {e : TxEntry}
    (h : (before ++ e :: after).Pairwise (fun a b => a.body.same b.body = false)) :
    markInFlight (before ++ e :: after) e.body = before ++ { e with inFlight := true } :: after := by
  obtain ⟨-, hafter, hcross⟩ := List.pairwise_append.1 h
  have hb : ∀ x ∈ before, x.body.same e.body = false := fun x hx => hcross x hx e List.mem_cons_self
  have ha : ∀ x ∈ after, x.body.same e.body = false := fun x hx =>
    (TxBody.same_comm _ _).trans ((List.pairwise_cons.1 hafter).1 x hx)
  have hmap : ∀ {l : List TxEntry}, (∀ x ∈ l, x.body.same e.body = false) →
      l.map (fun x => if x.body.same e.body then { x with inFlight := true } else x) = l := fun hl =>
    (List.map_congr_left (g := id) fun x hx => by simp [hl x hx]).trans (List.map_id _)
  simp [markInFlight, hmap hb, hmap ha, TxBody.same_self]

theorem queueArbLost_eq {before after : List TxEntry} {e : TxEntry} (h : ∀ x ∈ before ++ after, x.inFlight = false)
    (he : e.inFlight = true) :
    queueArbLost (before ++ e :: after) = before ++ (match e.next with
      | none => { e with inFlight := false }
      | some b => ⟨b, 0, false, none⟩) :: after := by
  have hkept : ∀ {l : List TxEntry}, (∀ x ∈ l, x.inFlight = false) → queueArbLost l = l := fun hl =>
    (List.map_congr_left (g := id) fun x hx => by simp [hl x hx]).trans (List.map_id _)
  have hb := hkept fun x hx => h x (List.mem_append_left _ hx)
  have ha := hkept fun x hx => h x (List.mem_append_right _ hx)
  unfold queueArbLost at *
  rw [List.map_append, List.map_cons, hb, ha, if_pos he]
  cases e.next <;> rfl

theorem queueClash_retried {after : List TxEntry} {e : TxEntry} (he : e.inFlight = true)
    (hr : e.next = none → e.attempts < 3)
    {before : List TxEntry} (h : ∀ x ∈ before, x.inFlight = false) :
      queueClash (before ++ e :: after) = (before ++ (match e.next with
        | none => { e with attempts := e.attempts + 1, inFlight := false }
        | some b => ⟨b, 0, false, none⟩) :: after, none) := by
  induction before with
  | nil =>
    cases hn : e.next with
    | none => simp [queueClash, he, hn, Config.maxAttempts, hr hn]
    | some b => simp [queueClash, he, hn, TxEntry.takeNext]
  | cons x before ih =>
    rw [List.cons_append, queueClash, ih fun y hy => h y (List.mem_cons_of_mem _ hy)]
    simp [h x List.mem_cons_self]

theorem queueSuccess_eq {after : List TxEntry} {e : TxEntry} (he : e.inFlight = true)
    {before : List TxEntry} (h : ∀ x ∈ before, x.inFlight = false) :
      queueSuccess (before ++ e :: after) = before ++ (match e.next with
        | none => after
        | some b => ⟨b, 0, false, none⟩ :: after) := by
  induction before with
  | nil =>
    cases hn : e.next <;> simp [queueSuccess, he, hn, TxEntry.takeNext]
  | cons x before ih =>
    rw [List.cons_append, queueSuccess, ih fun y hy => h y (List.mem_cons_of_mem _ hy)]
    simp [h x List.mem_cons_self]

/-! ### An idle line (R2, R3, R17) -/

/-- Settles O9: the run reaches the multiple of 12 at or after it, and the selected entry is driven. -/
theorem idleLineStartsFrames : Obligations.IdleLineStartsFrames := by
  refine ⟨fun s => rfl, fun s => rfl, fun s h => ?_, fun s n hidle hrun hle hlt => ⟨?_, fun hall => ?_⟩⟩
  · exact congrArg Host.Outcome.next (if_neg (by simp [LinkState.atOpportunity, h]))
  all_goals
    have hop : s.link.atOpportunity = true := by simp [LinkState.atOpportunity, hidle, Config.idleRun, hrun]
    have hreach : reachOpportunity s = { s with link := { s.link with recessiveRun := 12 * n } } := by
      rw [reachOpportunity, opportunityRun_eq hle hlt]
    refine ?_
  · intro before after e hq hqueue hwait hbefore hafter
    have hsel : selectEntry s.link.queue = some e := by rw [hqueue, selectEntry_eq hwait hafter hbefore]
    have hmark : markInFlight s.link.queue e.body = before ++ { e with inFlight := true } :: after := by
      rw [hqueue, markInFlight_eq (by rw [← hqueue]; exact hq.2.1)]
    refine congrArg Host.Outcome.next ?_
    simp only [hop, hsel, hreach, startAttempt, hmark, if_true]
    rfl
  · refine congrArg Host.Outcome.next ?_
    simp only [hop, selectEntry_of_inFlight hall, hreach, passOpportunity, if_true, Config.idleRun]

/-! ### The ends of an own attempt (R8, R9, R18) -/

theorem getD_of_getElem? {α : Type} {l : List α} {i : Nat} {a : α} (h : l[i]? = some a) (d : α) : l.getD i d = a := by
  rw [List.getD_eq_getElem?_getD, h, Option.getD_some]

/-- Settles O10: a recessive bit of byte 0 or 1 read back dominant. -/
theorem arbitrationLossReturnsEntry : Obligations.ArbitrationLossReturnsEntry := by
  intro s fr p before after e hline htx hbit hlevel hqueue hothers he
  have hlost : losesAt fr p = true := by simp [losesAt, hbit, List.getD_eq_getElem?_getD, hlevel]
  have hexec : exec (.arbitrationLost p) s = .next (loseArbitration fr p s) := by
    refine congrArg Host.Outcome.next ?_
    simp only [htx, hline, hlost, and_self, if_true]
  refine ⟨_, hexec, rfl, rfl, rfl, rfl, ?_, ?_, rfl, rfl, rfl, rfl, rfl⟩
  · simp [loseArbitration, fallToReceiving, sampledLevels, List.getD_eq_getElem?_getD, hlevel]
  · have hq := queueArbLost_eq hothers he
    rw [← hqueue] at hq
    exact hq

/-- The bits before a bit time after the first hold the dominant start bit (R1). -/
theorem false_mem_take_lineLevels {b : Byte} {l : List Byte} {p : Nat} (hp : p ≠ 0) :
    false ∈ (lineLevels (b :: l)).take p := by
  obtain ⟨n, rfl⟩ := Nat.exists_eq_succ_of_ne_zero hp
  simp [lineLevels, symbolLevels]

/-- The recessive run after the bits sampled: a start bit read recessive lengthens it (R2, R9). -/
theorem recessiveAfter_sampled (fr : Frame) (p run : Nat) :
    recessiveAfter run (sampledLevels (lineLevels fr.bytes) p)
      = if p = 0 then run + 1
        else trailingRun true ((lineLevels fr.bytes).take p ++ [!(lineLevels fr.bytes).getD p true]) := by
  split
  next hp =>
    subst hp
    have hsampled : sampledLevels (lineLevels fr.bytes) 0 = [true] := by
      simp [sampledLevels, Frame.bytes, Frame.checked, lineLevels, symbolLevels]
    rw [hsampled, recessiveAfter_of_recessive rfl]
    rfl
  next hp => exact recessiveAfter_of_dominant (List.mem_append_left _ (false_mem_take_lineLevels hp)) run

theorem attemptAt_recessiveRun (p : Nat) (k : LinkState) : (attemptAt p k).recessiveRun = k.recessiveRun := by
  unfold attemptAt
  split
  · rw [passByteOne_eq]
  · rfl

theorem attemptAt_eq (p : Nat) (k : LinkState) : attemptAt p k = { k with lineState := (attemptAt p k).lineState } := by
  unfold attemptAt
  split
  · rw [passByteOne_eq]
  · rfl

/-- The link controller at a clash, but for the queue that the caller gives. -/
theorem clashLink_eq (fr : Frame) (p : Nat) (queue : List TxEntry) (k : LinkState) :
    clashLink fr p queue k =
      { fallToReceiving fr p k with
        queue := queue
        counters := { k.counters with clash := satInc k.counters.clash } } := by
  rw [clashLink, attemptAt_eq]
  rfl

theorem onLine_of_attempt {k : LinkState} (h : k.lineState = .arbitrating ∨ k.lineState = .sending) : k.onLine = true := by
  rcases h with h | h <;> simp [LinkState.onLine, h]

/-- A difference that loses no arbitration is a clash (R9). -/
theorem clash_of_onLine {s : State} {fr : Frame} {p : Nat} (hon : s.link.onLine = true) (htx : s.link.txFrame = some fr)
    (hp : p < (lineLevels fr.bytes).length) (hb : ¬(arbitrationBit p = true ∧ (lineLevels fr.bytes)[p]? = some true)) :
    exec (.clash p) s = .next (clashAt fr p s) := by
  have hclash : clashesAt fr p = true := by
    simp only [clashesAt, losesAt, hp, decide_true, Bool.true_and, Bool.not_eq_true', Bool.and_eq_false_imp,
      List.getD_eq_getElem?_getD, List.getElem?_eq_getElem hp, Option.getD_some] at hb ⊢
    simpa using hb
  refine congrArg Host.Outcome.next ?_
  simp only [htx, hon, hclash, and_self, if_true]

/-- Settles O11: the queue says that nothing is dropped, so the clash touches the link controller alone. -/
theorem clashRetries : Obligations.ClashRetries := by
  intro s fr p before after e hline htx hp hb hqueue hbefore he hretry
  have hq := queueClash_retried (after := after) he hretry hbefore
  rw [← hqueue] at hq
  have hclash : clashAt fr p s = { s with link := clashLink fr p (queueClash s.link.queue).1 s.link } := by
    simp only [clashAt, hq]
  refine ⟨_, clash_of_onLine (onLine_of_attempt hline) htx hp hb, ?_⟩
  rw [hclash, clashLink_eq, hq]
  refine ⟨rfl, rfl, rfl, rfl, rfl, ?_, ?_, rfl, rfl, rfl⟩
  · cases e.next <;> rfl
  · exact recessiveAfter_sampled fr p _

/-! ### Discards (R4, R5) -/

/-- Settles O19: the checks find the reason, and `discardFrame` touches the link controller alone. -/
theorem discardCountsOneReason : Obligations.DiscardCountsOneReason := by
  intro s bytes fault r n hline hbegins hjudge
  have hexec : exec (.frameDiscard bytes fault) s = .next (discardFrame r (discardLevels r n bytes fault) s) := by
    refine congrArg Host.Outcome.next ?_
    simp only [State.receives, hline, hbegins, hjudge, beq_self_eq_true, Bool.and_self, if_true]
  exact ⟨_, hexec, rfl, rfl, rfl, rfl, rfl, rfl, rfl, rfl, rfl, by cases r <;> rfl⟩

/-! ### Frames as bytes (R11, R24) -/

theorem halves_append (w : Word16) :
    HAppend.hAppend (α := Byte) (β := Byte) (γ := Word16) (w.extractLsb' 8 8) (w.extractLsb' 0 8) = w :=
  (BitVec.extractLsb'_append_extractLsb'_eq_extractLsb' rfl).trans BitVec.extractLsb'_eq_self

theorem quarters_append (w : Word32) :
    HAppend.hAppend (α := Word16) (β := Word16) (γ := Word32)
      (HAppend.hAppend (α := Byte) (β := Byte) (γ := Word16) (w.extractLsb' 24 8) (w.extractLsb' 16 8))
      (HAppend.hAppend (α := Byte) (β := Byte) (γ := Word16) (w.extractLsb' 8 8) (w.extractLsb' 0 8)) = w := by
  have hhigh : HAppend.hAppend (α := Byte) (β := Byte) (γ := Word16) (w.extractLsb' 24 8) (w.extractLsb' 16 8)
      = w.extractLsb' 16 16 := BitVec.extractLsb'_append_extractLsb'_eq_extractLsb' rfl
  have hlow : HAppend.hAppend (α := Byte) (β := Byte) (γ := Word16) (w.extractLsb' 8 8) (w.extractLsb' 0 8)
      = w.extractLsb' 0 16 := BitVec.extractLsb'_append_extractLsb'_eq_extractLsb' rfl
  rw [hhigh, hlow]
  exact (BitVec.extractLsb'_append_extractLsb'_eq_extractLsb' rfl).trans BitVec.extractLsb'_eq_self

/-- A two-byte field as its bytes are read back. -/
def joined16 (w : Word16) : Word16 :=
  HAppend.hAppend (α := Byte) (β := Byte) (γ := Word16) (w.extractLsb' 8 8) (w.extractLsb' 0 8)

/-- A four-byte field as its bytes are read back. -/
def joined32 (w : Word32) : Word32 :=
  HAppend.hAppend (α := Word16) (β := Word16) (γ := Word32)
    (HAppend.hAppend (α := Byte) (β := Byte) (γ := Word16) (w.extractLsb' 24 8) (w.extractLsb' 16 8))
    (HAppend.hAppend (α := Byte) (β := Byte) (γ := Word16) (w.extractLsb' 8 8) (w.extractLsb' 0 8))

theorem joined16_eq : joined16 = fun w => w := funext halves_append

theorem joined32_eq : joined32 = fun w => w := funext quarters_append

/-- The payload bytes of a kind are read back as its fields (R24). -/
theorem parsePayload_bytes (b : Payload) : parsePayload b.kind b.bytes = some b := by
  rcases b with f | f | f | f | f | f | f | f | f | f <;>
    dsimp only [Payload.bytes, be16, be32, List.cons_append, List.nil_append]
  case stop => rfl
  case probe => rfl
  case report => rfl
  case claim => exact (congrArg (fun j => some (Payload.claim ⟨f.circuit, j f.requested, f.reason⟩)) joined16_eq :)
  case track => exact (congrArg (fun j => some (Payload.track ⟨f.target, j f.x, j f.y, j f.z, j f.stamp⟩)) joined32_eq :)
  case cover => exact (congrArg (fun j => some (Payload.cover ⟨f.target, f.action, j f.q, f.count, f.flags⟩)) joined16_eq :)
  case offer => exact (congrArg₂ (fun j k => some (Payload.offer ⟨j f.callId, f.group, k f.landing⟩)) joined16_eq joined32_eq :)
  case call =>
    exact (congrArg₂ (fun j k => some (Payload.call ⟨j f.callId, f.scopeType, f.scopeValue, f.mode, k f.goTime, f.flags, f.segmentCount,
      j f.red, j f.green, j f.blue, j f.intensity, j f.fade, f.target, f.count⟩)) joined16_eq joined32_eq :)
  case segment =>
    exact (congrArg₂ (fun j k => some (Payload.segment ⟨j f.callId, f.index, f.flags, j f.duration, j f.ramp, k f.end1, k f.end2,
      k f.end3⟩)) joined16_eq joined32_eq :)
  case beacon =>
    exact (congrArg₂ (fun j k => some (Payload.beacon ⟨f.stationKind, f.mode, f.circuit, k f.groupMask, j f.granted, k f.linkClock,
      f.poolFree, f.callFree, f.faultCode, f.heldTarget⟩)) joined16_eq joined32_eq :)

theorem kind_le (b : Payload) : b.kind ≤ 9 := by cases b <;> simp [Payload.kind]

theorem payloadLength_le (b : Payload) : payloadLength b.kind ≤ 48 := by cases b <;> simp [Payload.kind, payloadLength]

/-- The checks of a frame of known kind whose bytes have come whole (R5). -/
theorem judge_whole {fr : Frame} (h : fr.wf = true) (own : Byte) {crc : List Byte} (hcrc : crc.length = 2) :
    judge own (fr.checked ++ crc) none = judgeWhole own fr.body.kind fr.station fr.body.bytes fr.checked crc := by
  unfold Frame.wf at h
  simp only [Bool.and_eq_true, beq_iff_eq] at h
  obtain ⟨⟨hst, -⟩, hlen⟩ := h
  have hkind : (BitVec.ofNat 8 fr.body.kind).toNat = fr.body.kind := by
    have := kind_le fr.body
    rw [BitVec.toNat_ofNat, Nat.mod_eq_of_lt (by lia)]
  have hn : (BitVec.ofNat 8 (payloadLength fr.body.kind)).toNat = payloadLength fr.body.kind := by
    have := payloadLength_le fr.body
    rw [BitVec.toNat_ofNat, Nat.mod_eq_of_lt (by lia)]
  have hk := kind_le fr.body
  have hl := payloadLength_le fr.body
  simp only [Frame.checked, List.cons_append, judge, hkind, hn, hst]
  rw [if_neg (by lia), if_neg (by simp), if_neg (by simpa using hl), if_neg (by simp [hlen, hcrc])]
  rw [List.take_left' hlen, List.drop_left' hlen, List.take_of_length_le (by lia)]

theorem fieldsOk_of_wf {fr : Frame} (h : fr.wf = true) : fr.body.fieldsOk = true := by
  unfold Frame.wf at h
  simp only [Bool.and_eq_true] at h
  exact h.1.2

/-- With the right check value the field check and the own number are left (R6, R7). -/
theorem judgeWhole_of_checked {fr : Frame} (h : fr.wf = true) (own : Byte) :
    judgeWhole own fr.body.kind fr.station fr.body.bytes fr.checked (be16 (checkValue fr.checked))
      = if fr.station = own then .discard .ownNumber fr.bytes.length else .good fr := by
  simp only [judgeWhole, bne_self_eq_false, parsePayload_bytes, fieldsOk_of_wf h]
  simp [Frame.bytes, be16]

/-- Settles O20: `judge_whole`, and the check value read back or changed in its first byte. -/
theorem framesReadBack : Obligations.FramesReadBack := by
  intro fr own h
  refine ⟨fun hne => ?_, fun heq => ?_, fun x hx => ?_⟩
  · rw [Frame.bytes, judge_whole h own rfl, judgeWhole_of_checked h, if_neg hne]
  · rw [Frame.bytes, judge_whole h own rfl, judgeWhole_of_checked h, if_pos heq, Frame.bytes]
  · have hcrc : be16 (checkValue fr.checked)
        ≠ [(be16 (checkValue fr.checked)).getD 0 0 ^^^ x, (be16 (checkValue fr.checked)).getD 1 0] := by
      intro heq
      have hfirst := (List.cons.inj heq).1
      exact hx ((BitVec.xor_right_inj _).1 (hfirst.symm.trans (BitVec.xor_zero).symm))
    rw [judge_whole h own rfl, judgeWhole, if_pos (by simpa using hcrc)]
    simp [Frame.bytes, be16]

end Sys2Proof.Machine
end

section
/-! SUPPORT. The transmission success: what the line keeps through its event, and the readbacks of a REPORT and of a TAKE. -/

namespace Sys2Proof.Machine

/-! ### The line after the event of a success -/

/-- What a success leaves on the line, whatever the blocks do in its event. -/
structure LineEnd where
  lineState : LineState
  txFrame : Option Frame
  rxBuffer : List Byte
  failures : Nat
  framesSent : Nat

def State.lineEnd (s : State) : LineEnd :=
  ⟨s.link.lineState, s.link.txFrame, s.link.rxBuffer, s.link.failures, s.link.counters.framesSent⟩

theorem lineEnd_of_lineBase {s t : State} (h : t.lineBase = s.lineBase) : t.lineEnd = s.lineEnd :=
  congrArg (fun b : LineBase =>
    (⟨b.link.lineState, b.link.txFrame, b.link.rxBuffer, b.link.failures, b.link.counters.framesSent⟩ : LineEnd)) h

theorem lineOn_of_lineEnd {s t : State} (h : t.lineEnd = s.lineEnd) (hs : s.link.lineState ≠ .off) :
    t.link.lineState ≠ .off := by
  rwa [show t.link.lineState = s.link.lineState from congrArg LineEnd.lineState h]

theorem tellSoFar_lineBase (n : Nat) {s : State} (hs : s.link.lineState ≠ .off) : (tellSoFar n s).lineBase = s.lineBase := by
  induction n generalizing s with
  | zero => rfl
  | succ n ih =>
    unfold tellSoFar
    split
    · rfl
    next x rest _ =>
      have ht : (tell x { s with notices := rest }).lineBase = s.lineBase := tell_lineBase x (s := { s with notices := rest }) hs
      exact (ih (lineOn_of_lineBase ht hs)).trans ht

theorem passGo_lineBase (lowers : Bool) (r : CallRecord) {s : State} (hs : s.link.lineState ≠ .off) :
    (passGo lowers r s).lineBase = s.lineBase := by
  have hgo := (goEffect_lineBase r _).trans ((landingGo_lineBase r.callId (r.state == .planned) _).trans
    (preempt_lineBase lowers r.callId (markGo r s)))
  exact (tellSoFar_lineBase _ (lineOn_of_lineBase hgo hs)).trans hgo

theorem goOne_lineBase (rest : List Word16) (id : Word16) {s : State} (hs : s.link.lineState ≠ .off) :
    (goOne rest id s).lineBase = s.lineBase := by
  unfold goOne
  split
  · rfl
  · dsimp only
    split
    · exact (lowerAfterEnd_lineBase _).trans (passGo_lineBase _ _ hs)
    · exact passGo_lineBase _ _ hs

theorem goTests_lineBase {s : State} (hs : s.link.lineState ≠ .off) : (goTests s).lineBase = s.lineBase :=
  goAll_induction (P := fun t => t.lineBase = s.lineBase)
    (fun rest id _ ht => (goOne_lineBase rest id (lineOn_of_lineBase ht hs)).trans ht) _ s rfl

theorem clockTests_lineBase {s : State} (hs : s.link.lineState ≠ .off) : (clockTests s).lineBase = s.lineBase := by
  unfold clockTests
  split
  · have hgo := goTests_lineBase hs
    exact (closeEvent_lineBase (lineOn_of_lineBase hgo hs)).trans hgo
  · rfl

theorem clockStep_lineEnd (f : BeaconFields) {s : State} (hs : s.link.lineState ≠ .off) : (clockStep f s).lineEnd = s.lineEnd := by
  unfold clockStep
  split
  · exact (lineEnd_of_lineBase (clockTests_lineBase (s := stepClock f s) hs)).trans rfl
  · rfl

theorem leaveIsolated_lineBase {s : State} (hs : s.link.lineState ≠ .off) : (leaveIsolated s).lineBase = s.lineBase := by
  have hmode : (setMode .ready { s with power := { s.power with granted := s.soloLeaveClaim, solo := none } }).lineBase
      = s.lineBase := setMode_lineBase (s := { s with power := _ }) rfl hs
  have hwait := (endWaitNow_lineBase _).trans hmode
  exact (closeEvent_lineBase (lineOn_of_lineBase hwait hs)).trans hwait

theorem checkMarks_lineEnd {s : State} (hs : s.link.lineState ≠ .off) : (checkMarks s).lineEnd = s.lineEnd := by
  unfold checkMarks
  split
  · dsimp only
    split
    · exact (lineEnd_of_lineBase (leaveIsolated_lineBase (by exact hs))).trans rfl
    · rfl
  · rfl

theorem sent_lineEnd (fr : Frame) (s : State) :
    (sent fr s).lineEnd = ⟨.waitIdle, none, [], 0, satInc s.link.counters.framesSent⟩ := by
  have hmark : (sent fr s).lineEnd = ({ s with link := sentLink (lineLevels fr.bytes) s.link } : State).lineEnd :=
    checkMarks_lineEnd (by simp [sentLink, toWaitIdle])
  rw [hmark]
  simp [State.lineEnd, sentLink, toWaitIdle, passByteOne_eq]

theorem setPhase_lineBase (p : RolePhase) (s : State) : (setPhase p s).lineBase = s.lineBase :=
  lineBase_congr (setPhase_link ..) (setPhase_clock ..) (setPhase_pending ..)

theorem becomeCandidate_lineBase (s : State) : (becomeCandidate s).lineBase = s.lineBase :=
  lineBase_congr (becomeCandidate_link s) (becomeCandidate_clock s) (becomeCandidate_pending s)

theorem ownReact_lineBase (b : OwnEntry) (s : State) : (ownReact b s).lineBase = s.lineBase := by
  unfold ownReact
  split
  · rfl
  next r _ =>
    split
    · rfl
    · split
      · exact setPhase_lineBase .relieved s
      · exact (offer_lineBase _ _).trans (setPhase_lineBase .holder s)
      · exact (offer_lineBase _ _).trans (becomeCandidate_lineBase s)
      · exact becomeCandidate_lineBase s
      all_goals rfl

theorem coverTests_lineBase (s : State) : (coverTests s).lineBase = s.lineBase := by
  have hyield : (selfYield s).lineBase = s.lineBase := by
    unfold selfYield
    split
    · rfl
    · split
      · exact (offer_lineBase _ _).trans (becomeCandidate_lineBase _)
      · rfl
  have htake (t : State) : (takeTest t).lineBase = t.lineBase := by
    unfold takeTest
    split
    · rfl
    · split
      · exact offer_lineBase _ _
      · rfl
  exact (htake _).trans hyield

theorem changeHolders_lineBase (t : Nat) (l : List Holder) (s : State) : (changeHolders t l s).lineBase = s.lineBase := by
  unfold changeHolders
  split
  · have hreact : (ownReact s.ownEntry (setHolders t l s)).lineBase = s.lineBase := ownReact_lineBase _ _
    dsimp only
    split
    · exact hreact
    · exact (coverTests_lineBase _).trans hreact
  · rfl

theorem ownAdded_lineBase (f : CoverFields) (s : State) : (ownAdded f s).lineBase = s.lineBase := by
  unfold ownAdded
  split
  · exact offer_lineBase _ _
  next r _ =>
    dsimp only
    split
    · have hfade : (startColour r.colour Config.fullScale .role (setPhase .holder s)).lineBase = (setPhase .holder s).lineBase :=
        lineBase_congr (startFade_link ..) (startFade_clock ..) (startFade_pending ..)
      exact hfade.trans (setPhase_lineBase .holder s)
    · exact offer_lineBase _ _

theorem applyCover_lineBase (own : Bool) (st : Byte) (f : CoverFields) (s : State) :
    (applyCover own st f s).lineBase = s.lineBase := by
  unfold applyCover
  split
  · rfl
  · dsimp only
    split
    · split
      · exact (coverTests_lineBase _).trans (ownAdded_lineBase _ _)
      · exact ownAdded_lineBase _ _
    · exact changeHolders_lineBase _ _ _

theorem readbackOwn_lineEnd (fr : Frame) {s : State} (hs : s.link.lineState ≠ .off) : (readbackOwn fr s).lineEnd = s.lineEnd := by
  unfold readbackOwn
  split
  · unfold dispatchOwn
    split
    · exact lineEnd_of_lineBase (ownClaimReadback_lineBase _ _)
    · exact lineEnd_of_lineBase (applyCover_lineBase _ _ _ _)
    · exact lineEnd_of_lineBase (applyOffer_lineBase _ _)
    · exact clockStep_lineEnd _ hs
    all_goals rfl
  · rfl

/-- The line, the consecutive-failure count and the count of frames sent after the whole event of a success. -/
theorem transmissionSuccess_lineEnd (fr : Frame) (s : State) :
    (conclude (readbackOwn fr (sent fr s))).lineEnd = ⟨.waitIdle, none, [], 0, satInc s.link.counters.framesSent⟩ := by
  have hsent := sent_lineEnd fr s
  have hon : (sent fr s).link.lineState ≠ .off := by
    rw [show (sent fr s).link.lineState = .waitIdle from congrArg LineEnd.lineState hsent]
    decide
  have hread := readbackOwn_lineEnd fr hon
  exact (lineEnd_of_lineBase (conclude_lineBase (lineOn_of_lineEnd hread hon))).trans (hread.trans hsent)

/-- The tick count and the commands that wait, which the readback of an own BEACON leaves too (R27). -/
theorem transmissionSuccess_tickCount (fr : Frame) (s : State) :
    (conclude (readbackOwn fr (sent fr s))).clock.tickCount = s.clock.tickCount
      ∧ (conclude (readbackOwn fr (sent fr s))).pending = s.pending := by
  suffices h : (conclude (readbackOwn fr (sent fr s))).clockBase.tickCount = s.clockBase.tickCount
      ∧ (conclude (readbackOwn fr (sent fr s))).clockBase.pending = s.clockBase.pending from h
  rw [conclude_clockBase, ← sent_clockBase fr s]
  rcases readbackOwn_clockBase fr (sent fr s) with h | ⟨f, -, h⟩
  · rw [h]
    exact ⟨rfl, rfl⟩
  · rw [h]
    exact ⟨stepped_tickCount f _, stepped_pending f _⟩

/-! ### The readbacks of a REPORT and of a TAKE -/

/-- With the link not lost a success leaves the send mark as it stood (R22). -/
theorem sent_of_connected (fr : Frame) {s : State} (h : s.link.linkLost = false) :
    sent fr s = { s with link := sentLink (lineLevels fr.bytes) s.link } := by
  simp [sent, markSend, checkMarks, sentLink, toWaitIdle, passByteOne_eq, h]

/-- The link controller at a success, the entry sent in flight (R3, R18, R20). -/
theorem sentLink_eq (fr : Frame) {k : LinkState} {before after : List TxEntry} {e : TxEntry}
    (hqueue : k.queue = before ++ e :: after) (hbefore : ∀ x ∈ before, x.inFlight = false) (he : e.inFlight = true) :
    sentLink (lineLevels fr.bytes) k =
      { k with
        lineState := .waitIdle
        recessiveRun := trailingRun true (lineLevels fr.bytes)
        dominantRun := trailingRun false (lineLevels fr.bytes)
        rxBuffer := []
        rxBits := []
        txFrame := none
        failures := 0
        queue := before ++ (match e.next with
          | none => after
          | some b => ⟨b, 0, false, none⟩ :: after)
        counters := { k.counters with framesSent := satInc k.counters.framesSent } } := by
  have hq := queueSuccess_eq (after := after) he hbefore
  rw [← hqueue] at hq
  simp [sentLink, toWaitIdle, passByteOne_eq, hq]

theorem holders_eq {s : State} {t : Nat} {l : List Holder} (h : s.cover.lists[t]? = some l) : s.holders t = l := by
  simp [State.holders, List.getD_eq_getElem?_getD, h]

theorem find?_station_eq_none {own : Byte} {l : List Holder} (h : ∀ x ∈ l, x.station ≠ own) :
    l.find? (fun x => x.station == own) = none := by
  simpa using h

theorem takeResult_added {l : List Holder} {st : Byte} {q count margin : Nat} (h : ∀ x ∈ l, x.station ≠ st)
    (hroom : (l.filter Holder.isHolder).length < count) : takeResult l st q count margin = .added := by
  simp only [takeResult, find?_station_eq_none h, holderEntries, hroom, if_true]

theorem ownEntryIn_absent {own : Byte} {l : List Holder} (h : ∀ x ∈ l, x.station ≠ own) : ownEntryIn own l = .absent := by
  simp only [ownEntryIn, find?_station_eq_none h]

theorem ownEntryIn_appended {own : Byte} {l : List Holder} (h : ∀ x ∈ l, x.station ≠ own) (q : Nat) (now : Word32) :
    ownEntryIn own (l ++ [⟨own, q, .holder, now⟩]) = .holder := by
  simp [ownEntryIn, find?_station_eq_none h, Holder.isHolder]

/-- What a COVER counts where its action is 0 and its TAKE is not refused: nothing. -/
theorem countCover_take {f : CoverFields} (h : f.action = 0) {r : TakeResult} (hr : r ≠ .refused) (own full relief : Bool)
    (k : CoverCounters) : countCover own f r full relief k = k := by
  simp [countCover, h, hr, satIf]

/-- The take test and the self-yield test find nothing to do for a HOLDER of some quality among no more than C. -/
theorem coverTests_of_holder {s : State} {r : Role} (hr : s.cover.role = some r) (hp : r.phase = .holder)
    (hq : 0 < s.cover.ownQ) (hrank : ranksBelow s.station.ownStation r.count (s.holders r.target) = false) :
    coverTests s = s := by
  have hyield : selfYield s = s := by
    simp [selfYield, hr, hp, hrank, Nat.pos_iff_ne_zero.1 hq]
  rw [coverTests, hyield]
  simp [takeTest, hr, hp]

theorem ranksBelow_of_le {own : Byte} {count : Nat} {l : List Holder} (h : (l.filter Holder.isHolder).length ≤ count) :
    ranksBelow own count l = false := by
  unfold ranksBelow
  split
  · rfl
  · rw [Bool.and_eq_false_imp]
    exact fun hlt => absurd (of_decide_eq_true hlt) (Nat.not_lt.2 h)

/-- The colour engine after the fade of a colour part begins at full scale for the role (R160). -/
def ColourState.litFor (g : Figures) (c : ColourPart) (k : ColourState) : ColourState :=
  if c.fade = 0 then { k with levels := colourTarget g c 65536, fade := none }
  else { k with fade := some ⟨k.levels, colourTarget g c 65536, c.fade, 0, false, 65536, .role⟩ }

theorem startColour_role {s : State} {g : Figures} (hg : s.station.figures = some g) (c : ColourPart) :
    startColour c 65536 .role s = { s with colour := s.colour.litFor g c } := by
  simp only [startColour, startFade, ColourState.litFor, State.fig, hg, Option.getD_some]
  split <;> rfl

/-- The readback of a candidate's own TAKE: its entry joins the list, the role is HOLDER and LIT (R145, R150). -/
theorem applyCover_ownTake {s : State} {g : Figures} {f : CoverFields} {r : Role} {l : List Holder}
    (hmode : s.station.mode.appliesCover = true) (hg : s.station.figures = some g) (haction : f.action = 0)
    (hrole : s.cover.role = some r) (hphase : r.phase = .candidate) (htarget : r.target = f.target.toNat)
    (hcount : r.count = f.count.toNat) (hown : 0 < s.cover.ownQ) (hl : s.cover.lists[r.target]? = some l)
    (hnew : ∀ x ∈ l, x.station ≠ s.station.ownStation) (hroom : (l.filter Holder.isHolder).length < r.count) :
    applyCover true s.station.ownStation f s =
      { s with
        cover := { s.cover with
          role := some { r with phase := .holder }
          lists := s.cover.lists.set r.target (l ++ [⟨s.station.ownStation, f.q.toNat, .holder, s.clock.tickCount⟩])
          restate := some 200 }
        colour := s.colour.litFor g r.colour } := by
  obtain ⟨new, hnewEntry⟩ : ∃ h : Holder, h = ⟨s.station.ownStation, f.q.toNat, .holder, s.clock.tickCount⟩ := ⟨_, rfl⟩
  obtain ⟨u, hu⟩ : ∃ u : State, u = { s with
      cover := { s.cover with
        role := some { r with phase := .holder }
        lists := s.cover.lists.set r.target (l ++ [new])
        restate := some 200 }
      colour := s.colour.litFor g r.colour } := ⟨_, rfl⟩
  rw [← hnewEntry, ← hu]
  have hadded : ownAdded f (setHolders r.target (l ++ [new]) s) = u := by
    rw [hu]
    simp only [ownAdded, setHolders, hrole, hphase, htarget, haction, beq_self_eq_true, Bool.and_self, if_true]
    rw [show Config.fullScale = 65536 from rfl, startColour_role (g := g) (by simpa using hg)]
    simp [setPhase, Config.restateTicks, htarget]
  have hlist : u.cover.lists[r.target]? = some (l ++ [new]) := by
    have hlt := (List.getElem?_eq_some_iff.1 hl).1
    rw [hu]
    simp [hlt]
  have hown' : ownEntryIn s.station.ownStation (l ++ [new]) = .holder := by rw [hnewEntry, ownEntryIn_appended hnew]
  have hheld : s.holders f.target.toNat = l := htarget ▸ holders_eq hl
  rw [hcount] at hroom
  have htake : takeResult l s.station.ownStation f.q.toNat f.count.toNat s.fig.handoffMargin = .added := takeResult_added hnew hroom
  have happly : applyAction s.clock.tickCount s.station.ownStation f .added l = l ++ [new] := by
    rw [hnewEntry, applyAction, haction]
    exact rfl
  have hstays : coverTests u = u := by
    refine coverTests_of_holder (by rw [hu]) rfl (by rw [hu]; exact hown) (ranksBelow_of_le ?_)
    rw [holders_eq hlist, hnewEntry, List.filter_append, List.length_append, hcount]
    exact hroom
  unfold applyCover
  rw [if_neg (by simp [hmode])]
  dsimp only
  rw [hheld, htake, happly, countCover_take haction (by decide), ownEntryIn_absent hnew, hown', ← htarget]
  refine (if_pos rfl).trans ?_
  rw [show ownAdded f (setHolders r.target (l ++ [new]) _) = u from hadded]
  exact (if_pos (by rw [hu]; simp [State.roleOn, RolePhase.granted])).trans hstays

/-- Settles O12: the line after a success whatever follows; the readback of a REPORT does nothing, that of a candidate's TAKE is
`applyCover_ownTake`. -/
theorem successRemovesEntry : Obligations.SuccessRemovesEntry := by
  intro s fr hline htx
  have hexec := transmissionSuccess_of_onLine htx (onLine_of_attempt hline)
  refine ⟨⟨_, hexec, ?_⟩, fun before after e hquiet hlost hqueue hbefore he => ?_⟩
  · have hend := transmissionSuccess_lineEnd fr s
    have hclock := transmissionSuccess_tickCount fr s
    exact ⟨congrArg LineEnd.lineState hend, congrArg LineEnd.txFrame hend, congrArg LineEnd.rxBuffer hend,
      congrArg LineEnd.failures hend, congrArg LineEnd.framesSent hend, hclock.1, hclock.2⟩
  have hlink := sentLink_eq fr hqueue hbefore he
  rw [hexec, sent_of_connected fr hlost]
  refine ⟨fun f hf => congrArg Host.Outcome.next ?_, ?_⟩
  · rw [readbackOwn, if_pos (by rw [hf]; rfl), dispatchOwn, hf]
    exact (conclude_of_quiet (by exact hquiet)).trans (congrArg (fun k => ({ s with link := k } : State)) hlink)
  · intro g f r l hfr hwf haction hmode hg hrole hphase htarget hcount hown hl hnew hroom
    refine congrArg Host.Outcome.next ?_
    have htake := applyCover_ownTake (s := { s with link := sentLink (lineLevels fr.bytes) s.link }) hmode hg haction hrole
      hphase htarget hcount hown hl hnew hroom
    rw [readbackOwn, if_pos (fieldsOk_of_wf hwf), dispatchOwn, show fr.body = .cover f by rw [hfr],
      show fr.station = s.station.ownStation by rw [hfr]]
    rw [hlink] at htake ⊢
    exact (congrArg conclude htake).trans (conclude_of_quiet (by exact hquiet))

end Sys2Proof.Machine
end


section
/-! SUPPORT. The settled obligations about arrivals that reach one block: REPORT, TRACK, COVER, OFFER, CALL and SEGMENT. -/

namespace Sys2Proof.Machine

/-! ### The state as the blocks find it (R5, R12) -/

theorem report_of_arrives {s : State} {st : Byte} {f : ReportFields} (h : Arrives ⟨st, .report f⟩ s) :
    exec (.report st f) s = .next (arrived ⟨st, .report f⟩ s) :=
  congrArg Host.Outcome.next ((receiveFrame_of_arrives h).trans (conclude_of_quiet h.1))

theorem track_of_arrives {s : State} {st : Byte} {f : TrackFields} (h : Arrives ⟨st, .track f⟩ s) :
    exec (.track st f) s = .next (conclude (applyTrack f (arrived ⟨st, .track f⟩ s))) :=
  congrArg Host.Outcome.next (receiveFrame_of_arrives h)

theorem cover_of_arrives {s : State} {st : Byte} {f : CoverFields} (h : Arrives ⟨st, .cover f⟩ s) :
    exec (.cover st f) s = .next (conclude (applyCover false st f (arrived ⟨st, .cover f⟩ s))) :=
  congrArg Host.Outcome.next (receiveFrame_of_arrives h)

theorem offer_of_arrives {s : State} {st : Byte} {f : OfferFields} (h : Arrives ⟨st, .offer f⟩ s) :
    exec (.offer st f) s = .next (conclude (applyOffer f (arrived ⟨st, .offer f⟩ s))) :=
  congrArg Host.Outcome.next (receiveFrame_of_arrives h)

theorem call_of_arrives {s : State} {st : Byte} {f : CallFields} (h : Arrives ⟨st, .call f⟩ s) :
    exec (.call st f) s = .next (conclude (applyCall f (arrived ⟨st, .call f⟩ s))) :=
  congrArg Host.Outcome.next (receiveFrame_of_arrives h)

theorem segment_of_arrives {s : State} {st : Byte} {f : SegmentFields} (h : Arrives ⟨st, .segment f⟩ s) :
    exec (.segment st f) s = .next (conclude (applySegment f (arrived ⟨st, .segment f⟩ s))) :=
  congrArg Host.Outcome.next (receiveFrame_of_arrives h)

/-! ### TRACK (R138, R142, R143) -/

/-- A TRACK for a target that is not the own role's is recorded, and no more. -/
theorem applyTrack_of_other {f : TrackFields} {s : State} (hm : s.station.mode.appliesCover = true)
    (hr : ∀ r, s.cover.role = some r → r.target ≠ f.target.toNat) : applyTrack f s = recordTrack f s := by
  unfold applyTrack
  rw [if_neg (by simp [hm])]
  dsimp only
  split
  · rfl
  next r hrole => exact if_neg (by simpa using hr r hrole)

/-- Settles O21: the peer-entry stage alone, and `recordTrack` in a mode of the cover unit. -/
theorem reportAndTrackRecorded : Obligations.ReportAndTrackRecorded := by
  refine ⟨fun s st f h => report_of_arrives h, fun s st f h hr => ?_⟩
  rw [track_of_arrives h]
  have happlies : s.station.mode.appliesCover = false
      ↔ s.station.mode = .reset ∨ s.station.mode = .config ∨ s.station.mode = .unconfigured := by
    cases s.station.mode <;> simp [StationMode.appliesCover]
  refine congrArg Host.Outcome.next ?_
  split
  next hm =>
    have hn : applyTrack f (arrived ⟨st, .track f⟩ s) = arrived ⟨st, .track f⟩ s :=
      if_pos (by rw [Bool.not_eq_true']; exact happlies.2 hm)
    rw [hn, conclude_of_quiet (quiet_arrived h.1)]
  next hm =>
    have happlies : s.station.mode.appliesCover = true := by simpa using mt happlies.1 hm
    have hn : applyTrack f (arrived ⟨st, .track f⟩ s) = recordTrack f (arrived ⟨st, .track f⟩ s) :=
      applyTrack_of_other happlies hr
    rw [hn]
    exact conclude_of_quiet h.1

/-- The least value that passes is found where the search reaches it. -/
theorem leastFrom_eq {p : Nat → Bool} {d : Nat} (hp : p d = true) :
    ∀ (n start : Nat), start ≤ d → d < start + n → (∀ x, start ≤ x → x < d → p x = false) → leastFrom p n start = some d := by
  intro n
  induction n with
  | zero => exact fun _ hle hlt _ => absurd hle (Nat.not_le.2 hlt)
  | succ n ih =>
    intro start hle hlt hleast
    rw [leastFrom]
    rcases Nat.lt_or_ge start d with h | h
    · rw [hleast start (Nat.le_refl _) h]
      exact ih (start + 1) h (by lia) fun x hx => hleast x (by lia)
    · obtain rfl : start = d := by lia
      rw [if_pos hp]

theorem followDuration_eq {g : Figures} {v : Travel} {d : Nat} (hle : g.followLag ≤ d) (hd : d ≤ 8 * g.followLag)
    (hp : checksOk g v d (d / 2) = true ∧ segmentClaim g v d (d / 2) ≤ g.followAllowance)
    (hleast : ∀ x, g.followLag ≤ x → x < d →
      ¬(checksOk g v x (x / 2) = true ∧ segmentClaim g v x (x / 2) ≤ g.followAllowance)) :
    followDuration g v = some d :=
  leastFrom_eq (by simpa using hp) _ _ hle (by lia) fun x hx hxd => by
    simpa [← Bool.not_eq_true] using hleast x hx hxd

@[simp] theorem toldDrop_cover_ownQ (b : TxBody) (s : State) : (toldDrop b s).cover.ownQ = s.cover.ownQ := by
  cases b <;> simp [toldDrop]

@[simp] theorem toldDrop_cover_followLimited (b : TxBody) (s : State) :
    (toldDrop b s).cover.counters.followLimited = s.cover.counters.followLimited := by
  cases b <;> simp [toldDrop]

@[simp] theorem offer_cover_ownQ (b : TxBody) (s : State) : (offer b s).cover.ownQ = s.cover.ownQ := by
  rcases offer_cases b s with ⟨q, -, h⟩ | ⟨-, h⟩ <;> rw [h]
  simp

@[simp] theorem offer_cover_followLimited (b : TxBody) (s : State) :
    (offer b s).cover.counters.followLimited = s.cover.counters.followLimited := by
  rcases offer_cases b s with ⟨q, -, h⟩ | ⟨-, h⟩ <;> rw [h]
  simp

@[simp] theorem becomeCandidate_ownQ (s : State) : (becomeCandidate s).cover.ownQ = s.cover.ownQ := by
  cases hr : s.cover.role <;> simp [becomeCandidate, setPhase, dark, hr]

@[simp] theorem becomeCandidate_coverCounters (s : State) : (becomeCandidate s).cover.counters = s.cover.counters := by
  cases hr : s.cover.role <;> simp [becomeCandidate, setPhase, dark, hr]

/-- The tests change neither the own quality nor the count of limited follow segments. -/
theorem coverTests_ownQ (s : State) :
    (coverTests s).cover.ownQ = s.cover.ownQ
      ∧ (coverTests s).cover.counters.followLimited = s.cover.counters.followLimited := by
  have hyield : (selfYield s).cover.ownQ = s.cover.ownQ
      ∧ (selfYield s).cover.counters.followLimited = s.cover.counters.followLimited := by
    unfold selfYield
    split
    · exact ⟨rfl, rfl⟩
    · split
      · simp [offerYield, setHolders]
      · exact ⟨rfl, rfl⟩
  have htake (t : State) : (takeTest t).cover.ownQ = t.cover.ownQ
      ∧ (takeTest t).cover.counters.followLimited = t.cover.counters.followLimited := by
    unfold takeTest
    split
    · exact ⟨rfl, rfl⟩
    · split
      · simp
      · exact ⟨rfl, rfl⟩
  exact ⟨(htake _).1.trans hyield.1, (htake _).2.trans hyield.2⟩

theorem applyTrack_of_role {f : TrackFields} {s : State} {r : Role} (hm : s.station.mode.appliesCover = true)
    (hrole : s.cover.role = some r) (ht : r.target = f.target.toNat) :
    applyTrack f s = followTrack r f (recordTrack f s) := by
  unfold applyTrack
  rw [if_neg (by simp [hm])]
  simp only [show (recordTrack f s).cover.role = some r from hrole, ht, beq_self_eq_true, if_true]

theorem granted_of_ne_claiming {p : RolePhase} (h : p ≠ .claiming) : p.granted = true := by
  cases p <;> simp_all [RolePhase.granted]

/-- A follow segment of the duration found starts at once (R143). -/
theorem handFollow_found {s : State} {g : Figures} {pan tilt : Int} {d : Nat} (hg : s.station.figures = some g)
    (hd : followDuration g (travel s.planner.pan s.planner.tilt pan tilt) = some d) :
    handFollow pan tilt s =
      { s with
        planner := { s.planner with
          motion := some ⟨s.planner.pan, s.planner.tilt, pan, tilt, d, d / 2, 0,
            segmentClaim g (travel s.planner.pan s.planner.tilt pan tilt) d (d / 2), .follow⟩ }
        cover := { s.cover with followEnd := some (pan, tilt) } } := by
  have hfig : s.fig = g := by simp [State.fig, hg]
  simp [handFollow, hfig, hd, satIf]

theorem followTrack_of_granted {s : State} {g : Figures} {pose : MountPose} {r : Role} (f : TrackFields)
    (hg : s.station.figures = some g) (hpose : s.aim.pose = some pose) (hp : r.phase.granted = true) :
    let a := solve g pose s.planner.pan s.planner.tilt f.x.toInt f.y.toInt f.z.toInt
    followTrack r f s = coverTests (handFollow a.pan a.tilt { s with cover := { s.cover with ownQ := a.q } }) := by
  have hfig : s.fig = g := by simp [State.fig, hg]
  simp only [followTrack, hpose, hfig, hp, if_true]

/-- Settles O25: the solve, and the follow segment of the least duration that passes; the tests that follow leave both. -/
theorem trackStartsFollowSegment : Obligations.TrackStartsFollowSegment := by
  intro s g pose st f r d h hm hg hpose hrole ht hphase a v passes hle hd hp hleast
  have hfollow : followDuration g v = some d := followDuration_eq hle hd hp hleast
  have hrole' := applyTrack_of_role (s := arrived ⟨st, .track f⟩ s) (f := f) hm hrole ht
  have htrack := followTrack_of_granted (s := recordTrack f (arrived ⟨st, .track f⟩ s)) f hg hpose
    (granted_of_ne_claiming hphase)
  have hhand := handFollow_found
    (s := { recordTrack f (arrived ⟨st, .track f⟩ s) with
      cover := { (recordTrack f (arrived ⟨st, .track f⟩ s)).cover with ownQ := a.q } })
    (pan := a.pan) (tilt := a.tilt) hg hfollow
  refine ⟨_, (track_of_arrives h).trans (congrArg Host.Outcome.next
    ((congrArg conclude (hrole'.trans (htrack.trans (congrArg coverTests hhand)))).trans
      (conclude_of_quiet (h.1.of_eq ?_ ?_)))), ?_⟩
  · exact coverTests_notices _
  · exact coverTests_power_abandoned _
  · rw [coverTests_planner, (coverTests_ownQ _).1, (coverTests_ownQ _).2, coverTests_store, coverTests_power_granted,
      coverTests_station, coverTests_drive, coverTests_pending]
    exact ⟨rfl, rfl, rfl, rfl, rfl, rfl, rfl, rfl, rfl, rfl⟩

/-! ### COVER with no role on its target (R145, R146, R147) -/

theorem roleOn_of_other {s : State} {t : Nat} (h : ∀ r, s.cover.role = some r → r.target ≠ t) : s.roleOn t = false := by
  unfold State.roleOn
  split
  · rfl
  next r hr => simp [h r hr]

/-- Another station's COVER with no role on its target changes the list and counts. -/
theorem applyCover_of_other {s : State} {st : Byte} {f : CoverFields} {l : List Holder}
    (hm : s.station.mode.appliesCover = true) (hr : ∀ r, s.cover.role = some r → r.target ≠ f.target.toNat)
    (hl : s.cover.lists[f.target.toNat]? = some l) :
    applyCover false st f s =
      { s with
        cover := { s.cover with
          lists := s.cover.lists.set f.target.toNat
            (applyAction s.clock.tickCount st f (takeResult l st f.q.toNat f.count.toNat s.fig.handoffMargin) l)
          counters := countCover false f (takeResult l st f.q.toNat f.count.toNat s.fig.handoffMargin) (holdFull l st)
            (completesRelief st f.onTarget (statedHold s.clock.tickCount st f.q.toNat l)) s.cover.counters } } := by
  unfold applyCover
  rw [if_neg (by simp [hm]), if_neg (by simp), holders_eq hl]
  exact if_neg (by rw [roleOn_of_other (s := { s with cover := _ }) (by exact hr)]; decide)

theorem cover_of_other {s : State} {st : Byte} {f : CoverFields} {l : List Holder} (h : Arrives ⟨st, .cover f⟩ s)
    (hm : s.station.mode.appliesCover = true) (hr : ∀ r, s.cover.role = some r → r.target ≠ f.target.toNat)
    (hl : s.cover.lists[f.target.toNat]? = some l) :
    exec (.cover st f) s = .next
      { arrived ⟨st, .cover f⟩ s with
        cover := { s.cover with
          lists := s.cover.lists.set f.target.toNat
            (applyAction s.clock.tickCount st f (takeResult l st f.q.toNat f.count.toNat s.fig.handoffMargin) l)
          counters := countCover false f (takeResult l st f.q.toNat f.count.toNat s.fig.handoffMargin) (holdFull l st)
            (completesRelief st f.onTarget (statedHold s.clock.tickCount st f.q.toNat l)) s.cover.counters } } :=
  (cover_of_arrives h).trans (congrArg Host.Outcome.next
    ((congrArg conclude (applyCover_of_other (s := arrived ⟨st, .cover f⟩ s) hm hr hl)).trans
      (conclude_of_quiet (by exact h.1))))

theorem Holder.above_eq_false_iff (a b : Holder) :
    a.above b = false ↔ a.q ≤ b.q ∧ (a.q = b.q → b.station.toNat ≤ a.station.toNat) := by
  simp [Holder.above]

theorem Holder.above_asymm {a b : Holder} (h : a.above b = true) : b.above a = false := by
  have hab : b.q < a.q ∨ a.q = b.q ∧ a.station.toNat < b.station.toNat := by simpa [Holder.above] using h
  rw [Holder.above_eq_false_iff]
  rcases hab with hlt | ⟨heq, hlt⟩
  · exact ⟨hlt.le, fun he => absurd he.symm (ne_of_gt hlt)⟩
  · exact ⟨heq.ge, fun _ => hlt.le⟩

theorem Holder.not_above_trans {a b c : Holder} (hab : a.above b = false) (hbc : b.above c = false) : a.above c = false := by
  rw [Holder.above_eq_false_iff] at hab hbc ⊢
  obtain ⟨hq, hst⟩ := hab
  obtain ⟨hq', hst'⟩ := hbc
  refine ⟨hq.trans hq', fun he => ?_⟩
  have heq : a.q = b.q := le_antisymm hq (hq'.trans he.ge)
  exact (hst' (heq.symm.trans he)).trans (hst heq)

/-- The entry of lowest rank is above no other (R144). -/
theorem lowestRank_spec {l : List Holder} : ∀ {w : Holder}, lowestRank l = some w → w ∈ l ∧ ∀ h ∈ l, w.above h = false := by
  induction l with
  | nil => exact fun hw => nomatch hw
  | cons x rest ih =>
    intro w hw
    have hirr : x.above x = false := by simp [Holder.above]
    unfold lowestRank at hw
    split at hw
    next hnone =>
      obtain rfl := Option.some.inj hw
      have hrest : rest = [] := by
        cases rest with
        | nil => rfl
        | cons y ys =>
          unfold lowestRank at hnone
          split at hnone
          · exact nomatch hnone
          · split at hnone <;> exact nomatch hnone
      subst hrest
      exact ⟨List.mem_cons_self, by simpa using hirr⟩
    next v hv =>
      obtain ⟨hmem, hleast⟩ := ih hv
      split at hw
      next hxv =>
        obtain rfl := Option.some.inj hw
        refine ⟨List.mem_cons_of_mem _ hmem, fun h hh => ?_⟩
        rcases List.mem_cons.1 hh with rfl | hh
        · exact Holder.above_asymm hxv
        · exact hleast h hh
      next hxv =>
        obtain rfl := Option.some.inj hw
        refine ⟨List.mem_cons_self, fun h hh => ?_⟩
        rcases List.mem_cons.1 hh with rfl | hh
        · exact hirr
        · exact Holder.not_above_trans (Bool.eq_false_iff.2 hxv) (hleast h hh)

theorem lowestRank_isSome {l : List Holder} (h : l ≠ []) : ∃ w, lowestRank l = some w := by
  cases l with
  | nil => exact absurd rfl h
  | cons x rest =>
    unfold lowestRank
    split
    · exact ⟨_, rfl⟩
    · split <;> exact ⟨_, rfl⟩

/-- The holder that every other ranks above is the weakest (R144). -/
theorem weakest_eq {l : List Holder} {w : Holder} (hmem : w ∈ l) (hw : w.isHolder = true)
    (habove : ∀ h ∈ l, h.isHolder = true → h ≠ w → h.above w = true) : weakest l = some w := by
  have hin : w ∈ holderEntries l := List.mem_filter.2 ⟨hmem, hw⟩
  obtain ⟨v, hv⟩ := lowestRank_isSome (List.ne_nil_of_mem hin)
  obtain ⟨hvin, hleast⟩ := lowestRank_spec hv
  obtain ⟨hvl, hvh⟩ := List.mem_filter.1 hvin
  suffices h : v = w by rw [weakest, hv, h]
  by_contra hne
  exact absurd (habove v hvl hvh hne) (by rw [hleast w hin]; decide)

/-- How a TAKE from a station not listed is decided, its weakest holder known where one is asked for (R145). -/
theorem takeResult_of_absent {l : List Holder} {st : Byte} {q count margin : Nat} {w : Holder} (h : ∀ x ∈ l, x.station ≠ st)
    (hw : count ≤ (l.filter Holder.isHolder).length → weakest l = some w) :
    takeResult l st q count margin =
      if (l.filter Holder.isHolder).length < count then .added
      else if l.any (fun h => !h.isHolder) then .refused
      else if l.length < 5 ∧ w.q + margin ≤ q then .relieving w.station else .refused := by
  simp only [takeResult, find?_station_eq_none h, holderEntries]
  by_cases hroom : (l.filter Holder.isHolder).length < count
  · exact (if_pos hroom).trans (if_pos hroom).symm
  · refine (if_neg hroom).trans ((if_neg hroom).trans ?_).symm
    rw [hw (Nat.not_lt.1 hroom)]
    simp only [Bool.and_eq_true, decide_eq_true_eq]
    rfl

/-- Settles O26: the counters and the list after each result of the decision. -/
theorem takeDecided : Obligations.TakeDecided := by
  intro s g st f l w h hm hg _ hr haction hl hnew hweak holders new refused
  have hdecide := takeResult_of_absent (q := f.q.toNat) (margin := s.fig.handoffMargin) hnew fun hle => by
    obtain ⟨hmem, hwh, habove⟩ := hweak hle
    exact weakest_eq hmem hwh habove
  have hfig : s.fig = g := by simp [State.fig, hg]
  have hset : s.cover.lists.set f.target.toNat l = s.cover.lists := by
    obtain ⟨hlt, rfl⟩ := List.getElem?_eq_some_iff.1 hl
    exact List.set_getElem_self hlt
  have hrefused : takeResult l st f.q.toNat f.count.toNat s.fig.handoffMargin = .refused →
      exec (.cover st f) s = .next refused := fun he => by
    rw [cover_of_other h hm hr hl, he]
    simp [applyAction, applyTake, haction, countCover, satIf, hset, refused]
  split
  next hroom =>
    rw [if_pos hroom] at hdecide
    rw [cover_of_other h hm hr hl, hdecide, countCover_take haction (by decide)]
    simp [applyAction, applyTake, haction, new]
  next hroom =>
    rw [if_neg hroom] at hdecide
    split
    next hany =>
      rw [if_pos hany] at hdecide
      exact hrefused hdecide
    next hany =>
      rw [if_neg hany, hfig] at hdecide
      split
      next hmargin =>
        rw [if_pos hmargin] at hdecide
        rw [cover_of_other h hm hr hl, hfig, hdecide, countCover_take haction (by exact fun hc => nomatch hc)]
        simp [applyAction, applyTake, haction, new, Config.reliefTicks]
      next hmargin =>
        rw [if_neg hmargin] at hdecide
        exact hrefused (by rw [hfig]; exact hdecide)

theorem any_station_eq_false {st : Byte} {l : List Holder} (h : ∀ x ∈ l, x.station ≠ st) :
    l.any (fun x => x.station == st) = false := by
  simpa using h

theorem any_relievedBy_eq_false {st : Byte} {l : List Holder} (h : ∀ x ∈ l, x.relievedBy st = false) :
    l.any (Holder.relievedBy st) = false := by
  simpa using h

/-- With nothing relieved by the sender a HOLD completes no relief. -/
theorem applyHold_of_none {now : Word32} {st : Byte} {q : Nat} {onTarget : Bool} {l : List Holder}
    (h : (statedHold now st q l).any (Holder.relievedBy st) = false) :
    completesRelief st onTarget (statedHold now st q l) = false
      ∧ applyHold now st q onTarget l = statedHold now st q l := by
  have hc : completesRelief st onTarget (statedHold now st q l) = false := by simp only [completesRelief, h, Bool.and_false]
  exact ⟨hc, by rw [applyHold, hc]; rfl⟩

/-- The statement of q by a station that is listed once (R146). -/
theorem statedHold_listed {now : Word32} {st : Byte} {q : Nat} {before after : List Holder} {x : Holder}
    (hx : x.station = st) (hothers : ∀ y ∈ before ++ after, y.station ≠ st) :
    statedHold now st q (before ++ x :: after)
      = before ++ { x with q := q, lastStated := if x.isHolder then now else x.lastStated } :: after := by
  have hmap : ∀ {l : List Holder}, (∀ y ∈ l, y.station ≠ st) →
      l.map (fun y => if y.station == st then
        { y with q := q, lastStated := if y.isHolder then now else y.lastStated } else y) = l := fun hl =>
    (List.map_congr_left (g := id) fun y hy => by simp [hl y hy]).trans (List.map_id _)
  have hb := hmap fun y hy => hothers y (List.mem_append_left _ hy)
  have ha := hmap fun y hy => hothers y (List.mem_append_right _ hy)
  rw [statedHold, if_pos (by simp [hx]), List.map_append, List.map_cons, hb, ha, if_pos (by simp [hx])]

/-- What another station's HOLD counts (R146). -/
theorem countCover_hold {f : CoverFields} (h : f.action = 1) (r : TakeResult) (full relief : Bool) (k : CoverCounters) :
    countCover false f r full relief k =
      { k with
        listFull := if full then satInc k.listFull else k.listFull
        reliefsCompleted := if relief then satInc k.reliefsCompleted else k.reliefsCompleted } := by
  simp [countCover, h, satIf]

/-- Settles O27: the statement of q and the completed relief of a HOLD, the removal of a YIELD. -/
theorem holdAndYieldApplied : Obligations.HoldAndYieldApplied := by
  intro s st f l h hm hr hl k put
  have hexec := cover_of_other h hm hr hl
  have hset : s.cover.lists.set f.target.toNat l = s.cover.lists := by
    obtain ⟨hlt, rfl⟩ := List.getElem?_eq_some_iff.1 hl
    exact List.set_getElem_self hlt
  refine ⟨fun haction hnew => ?_, ?_, fun haction => ?_⟩
  · have habsent := any_station_eq_false fun y hy => (hnew y hy).1
    have hstated : statedHold s.clock.tickCount st f.q.toNat l
        = if l.length < 5 then l ++ [⟨st, f.q.toNat, .holder, s.clock.tickCount⟩] else l := by
      rw [statedHold, if_neg (by simp [habsent])]
      rfl
    have hnone : (statedHold s.clock.tickCount st f.q.toNat l).any (Holder.relievedBy st) = false := by
      have hlist := any_relievedBy_eq_false fun y hy => (hnew y hy).2
      rw [hstated]
      split
      · rw [List.any_append, hlist]
        rfl
      · exact hlist
    obtain ⟨hcompletes, hhold⟩ := applyHold_of_none (onTarget := f.onTarget) hnone
    have hfull : holdFull l st = decide (5 ≤ l.length) := by rw [holdFull, habsent]; rfl
    rw [hexec, hcompletes, countCover_hold haction, hfull]
    simp only [applyAction, haction, hhold, hstated]
    by_cases hroom : l.length < 5
    · simp [hroom, Nat.not_le.2 hroom, put, k]
    · simp [hroom, Nat.not_lt.1 hroom, put, k]
  · intro before after x haction hlist hx hothers hrel x'
    have hstated : statedHold s.clock.tickCount st f.q.toNat l = before ++ x' :: after := by
      rw [hlist, statedHold_listed hx hothers]
    have hrelieved : (before ++ x' :: after).any (Holder.relievedBy st) = (before ++ after).any (Holder.relievedBy st) := by
      have hx' : x'.relievedBy st = false := hrel
      simp [hx']
    have hcompletes : completesRelief st f.onTarget (statedHold s.clock.tickCount st f.q.toNat l) = true
        ↔ f.flags.getLsbD 0 = true ∧ x.isHolder = true ∧ (before ++ after).any (Holder.relievedBy st) = true := by
      have hholder : (before ++ x' :: after).any (fun y => y.station == st && y.isHolder) = x.isHolder := by
        have hb : before.any (fun y => y.station == st && y.isHolder) = false := by
          simpa using fun y hy hst => absurd hst (hothers y (List.mem_append_left _ hy))
        have ha : after.any (fun y => y.station == st && y.isHolder) = false := by
          simpa using fun y hy hst => absurd hst (hothers y (List.mem_append_right _ hy))
        rw [List.any_append, List.any_cons, hb, ha]
        simp [x', hx, Holder.isHolder]
      rw [completesRelief, hstated, hrelieved, hholder, Bool.and_eq_true, Bool.and_eq_true, and_assoc]
      rfl
    have hfull : holdFull l st = false := by simp [holdFull, hlist, hx]
    rw [hstated] at hcompletes
    rw [hexec, hstated, countCover_hold haction, hfull]
    by_cases hdone : f.flags.getLsbD 0 = true ∧ x.isHolder = true ∧ (before ++ after).any (Holder.relievedBy st) = true
    · rw [if_pos hdone, hcompletes.2 hdone]
      simp [applyAction, haction, applyHold, hcompletes.2 hdone, hstated, put, k]
    · have hno : completesRelief st f.onTarget (before ++ x' :: after) = false := by
        simpa using mt hcompletes.1 hdone
      rw [if_neg hdone, hno]
      simp [applyAction, haction, applyHold, hno, hstated, put, k]
  · rw [hexec]
    simp [applyAction, haction, countCover, satIf, removeHolder, put, k]

/-! ### OFFER (R126, R130) -/

theorem findLanding_single {s : State} {r : LandingRecord} (h : s.landing.records = [r]) (id : Word16) :
    s.findLanding id = if r.callId = id then some r else none := by
  by_cases hid : r.callId = id <;> simp [State.findLanding, h, List.find?, hid]

/-- A taken OFFER, with one landing record held. -/
theorem takeOffer_single {s : State} {r : LandingRecord} {f : OfferFields} (h : s.landing.records = [r]) :
    takeOffer f s =
      if r.callId ≠ f.callId ∨ r.phase ≠ .opened then
        { s with landing := ⟨[r], { s.landing.counters with lateOffers := satInc s.landing.counters.lateOffers }⟩ }
      else if r.scope ≠ .group f.group.toNat then
        { s with landing := ⟨[r], { s.landing.counters with foreignOffers := satInc s.landing.counters.foreignOffers }⟩ }
      else
        { s with landing := ⟨[raiseLead r (leadOf r.goTime f.landing)],
          { s.landing.counters with
            offerClamped := satIf (aboveCap r (leadOf r.goTime f.landing)) s.landing.counters.offerClamped }⟩ } := by
  unfold takeOffer
  rw [findLanding_single h]
  by_cases hid : r.callId = f.callId
  · by_cases hphase : r.phase = .opened
    · by_cases hscope : r.scope = .group f.group.toNat
      · simp [hid, hphase, hscope, updateLanding, h]
      · simp [hid, hphase, hscope, ← h]
    · simp [hid, hphase, ← h]
  · simp [hid, ← h]

/-- Settles O28: `takeOffer_single`; the cap is known once the requested D is. -/
theorem offerTaken : Obligations.OfferTaken := by
  intro s st f r h hm hrecords lead k
  have happly : applyOffer f (arrived ⟨st, .offer f⟩ s) = takeOffer f (arrived ⟨st, .offer f⟩ s) := if_pos hm
  have htake := takeOffer_single (s := arrived ⟨st, .offer f⟩ s) (f := f) hrecords
  have hquiet : Quiet (takeOffer f (arrived ⟨st, .offer f⟩ s)) := by
    rw [htake]
    split_ifs <;> exact h.1
  rw [offer_of_arrives h, happly, conclude_of_quiet hquiet, htake]
  refine congrArg Host.Outcome.next ?_
  split
  · rfl
  · split
    · rfl
    · cases hd : r.requestedD with
      | none =>
        simp only [raiseLead, aboveCap, hd, satIf, Bool.false_eq_true, if_false]
        rfl
      | some d =>
        simp only [raiseLead, aboveCap, hd, satIf]
        by_cases hlt : capOf d < leadOf r.goTime f.landing
        · rw [if_pos (decide_eq_true hlt), if_pos (show 5 * d < lead from hlt)]
          rfl
        · rw [if_neg (mt of_decide_eq_true hlt), if_neg (show ¬5 * d < lead from hlt)]
          rfl

/-! ### CALL (R44) -/

/-- The checks of R44 in a mode that takes intake, for a scope that includes this station. -/
theorem judgeCall_addressed {f : CallFields} {s : State} (hm : s.station.mode.takesIntake = true)
    (hs : s.inScope f.scope = true) :
    judgeCall f s =
      if s.store.intake = .held then .intakeHeld
      else if !f.countOk then .badCall
      else if f.sync && f.segmentCount != 1 then .badSyncCall
      else
        match s.findCall f.callId with
        | some old => .supersedes old
        | none => if Config.callCapacity ≤ s.store.calls.length then .tableFull else .fresh :=
  if_neg (by simp [hm, hs])

theorem findCall_eq_none {s : State} {id : Word16} (h : ∀ r ∈ s.store.calls, r.callId ≠ id) : s.findCall id = none := by
  simpa [State.findCall] using h

/-- A CALL that counts and does nothing else. -/
theorem call_counted {s : State} {st : Byte} {f : CallFields} {k : StoreCounters} (h : Arrives ⟨st, .call f⟩ s)
    (hk : applyCall f (arrived ⟨st, .call f⟩ s)
      = { arrived ⟨st, .call f⟩ s with store := { s.store with counters := k } }) :
    exec (.call st f) s = .next { arrived ⟨st, .call f⟩ s with store := { s.store with counters := k } } := by
  rw [call_of_arrives h, hk]
  exact congrArg Host.Outcome.next (conclude_of_quiet h.1)

/-- Settles O29: the verdict of each check, in order. -/
theorem callRefused : Obligations.CallRefused := by
  intro s st f h hm hnew k counted
  have hjudge := judgeCall_addressed (f := f) (s := arrived ⟨st, .call f⟩ s) hm
  have hfind : (arrived ⟨st, .call f⟩ s).findCall f.callId = none := findCall_eq_none hnew
  have hopened (hi : s.store.intake = .opened) : (arrived ⟨st, .call f⟩ s).store.intake ≠ .held := fun hh =>
    nomatch hi.symm.trans hh
  refine ⟨fun hs => ?_, fun hs hi => call_counted h ?_, fun hs hi hc => call_counted h ?_,
    fun hs hi hc hsync hn => call_counted h ?_, fun hs hi hc hsync hfull => call_counted h ?_⟩
  · have hj : judgeCall f (arrived ⟨st, .call f⟩ s) = .ignored :=
      if_pos (by rw [Bool.or_eq_true, Bool.not_eq_true', Bool.not_eq_true']; exact .inr hs)
    rw [call_of_arrives h, applyCall, hj]
    exact congrArg Host.Outcome.next (conclude_of_quiet h.1)
  · rw [applyCall, hjudge hs, if_pos (by exact hi)]
    rfl
  · rw [applyCall, hjudge hs, if_neg (hopened hi), if_pos (by simp [hc])]
    rfl
  · rw [applyCall, hjudge hs, if_neg (hopened hi), if_neg (by simp [hc]),
      if_pos (by rw [hsync, Bool.true_and]; exact bne_iff_ne.2 hn)]
    rfl
  · rw [applyCall, hjudge hs, if_neg (hopened hi), if_neg (by simp [hc]), if_neg (by simpa using hsync), hfind]
    dsimp only
    rw [if_pos (by exact hfull.ge)]
    rfl

/-! ### A CALL accepted (R41, R47, R125) -/

/-- The new record stands before the first record that it precedes (R41, log 52). -/
theorem placeCall_eq (r : CallRecord) (calls : List CallRecord) : ∃ before after : List CallRecord,
    calls = before ++ after ∧ placeCall r calls = before ++ r :: after ∧ (∀ x ∈ before, r.precedes x = false)
      ∧ ∀ x, after.head? = some x → r.precedes x = true := by
  induction calls with
  | nil => exact ⟨[], [], rfl, rfl, by simp, by simp⟩
  | cons c rest ih =>
    by_cases hc : r.precedes c = true
    · exact ⟨[], c :: rest, rfl, if_pos hc, by simp, by simpa using hc⟩
    · obtain ⟨before, after, hcalls, hplaced, hbefore, hafter⟩ := ih
      refine ⟨c :: before, after, by rw [hcalls]; rfl, (if_neg hc).trans (by rw [hplaced]; rfl), ?_, hafter⟩
      simpa [hc] using hbefore

theorem mem_placeCall {r x : CallRecord} {calls : List CallRecord} (h : x ∈ placeCall r calls) : x = r ∨ x ∈ calls := by
  obtain ⟨before, after, hcalls, hplaced, -, -⟩ := placeCall_eq r calls
  rw [hplaced] at h
  rw [hcalls]
  simp only [List.mem_append, List.mem_cons] at h ⊢
  tauto

/-- A record whose plan point is ahead leaves no next call where there was none (R50). -/
theorem nextCall_placeCall {s : State} {r : CallRecord} (hn : s.nextCall = none)
    (hr : r.canBeNext s.clock.linkClock = false) :
    (placeCall r s.store.calls).find? (CallRecord.canBeNext s.clock.linkClock) = none := by
  rw [List.find?_eq_none]
  intro x hx
  rcases mem_placeCall hx with rfl | hx
  · simp [hr]
  · exact List.find?_eq_none.1 hn x hx

/-- A CALL whose go time is ahead joins the table, with its landing record where it is a sync call (R47, R125). -/
theorem addCall_early {f : CallFields} {s : State} (hlate : s.isLate f = false) (arrival : Nat) :
    addCall f arrival s =
      { s with
        store := { s.store with calls := placeCall (newCall f arrival) s.store.calls }
        landing := { s.landing with
          records := s.landing.records ++ if f.sync then [newLanding (newCall f arrival)] else [] } } := by
  have hsync : (newCall f arrival).sync = f.sync := rfl
  simp only [addCall, createLanding, hsync, hlate, satIf, Bool.false_eq_true, if_false]
  cases f.sync <;> simp

/-- An early CALL's event is the record's and no more (R47, R50). -/
theorem acceptCall_early {f : CallFields} {s : State} (hq : Quiet s) (hn : s.nextCall = none) (hlate : s.isLate f = false)
    (hplan : atOrAfter s.clock.linkClock (f.goTime - 50) = false) :
    acceptCall f s =
      { s with
        store := { s.store with
          calls := placeCall (newCall f s.store.nextArrival) s.store.calls
          nextArrival := s.store.nextArrival + 1 }
        landing := { s.landing with
          records := s.landing.records ++ if f.sync then [newLanding (newCall f s.store.nextArrival)] else [] } } := by
  rw [acceptCall, addCall_early (by exact hlate), lateTests, if_neg (by simp [State.isLate] at hlate ⊢; simp [hlate])]
  refine closeEvent_of_none hq (nextCall_placeCall hn ?_)
  have hahead : atOrAfter s.clock.linkClock ((newCall f s.store.nextArrival).goTime - BitVec.ofNat 32 Config.planLead) = false :=
    hplan
  rw [CallRecord.canBeNext, hahead, Bool.and_false, Bool.false_and]

/-- Settles O30: the verdict is a fresh call; its record is `newCall`, its place `placeCall_eq`. -/
theorem callAccepted : Obligations.CallAccepted := by
  intro s st f h hm hs hopen hcount hsync hroom hnew hnext hplan hgo
  have hj : judgeCall f (arrived ⟨st, .call f⟩ s) = .fresh := by
    rw [judgeCall_addressed (by exact hm) (by exact hs), if_neg
      (by rw [show (arrived ⟨st, .call f⟩ s).store.intake = .opened from hopen]; decide),
      if_neg (by simp [hcount]), if_neg (by simpa using hsync), findCall_eq_none (by exact hnew)]
    exact if_neg (Nat.not_le.2 hroom)
  have happly := acceptCall_early (s := arrived ⟨st, .call f⟩ s) (f := f) h.1 hnext hgo hplan
  have hexec : exec (.call st f) s = .next (acceptCall f (arrived ⟨st, .call f⟩ s)) := by
    rw [call_of_arrives h, applyCall, hj]
    refine congrArg Host.Outcome.next (conclude_of_quiet ?_)
    rw [happly]
    exact h.1
  obtain ⟨before, after, hcalls, hplaced, hbefore, hafter⟩ := placeCall_eq (newCall f s.store.nextArrival) s.store.calls
  have hprecedes (x : CallRecord) : (newCall f s.store.nextArrival).precedes x
      = (isBefore f.goTime x.goTime || (f.goTime == x.goTime && decide (s.store.nextArrival < x.arrival))) := rfl
  refine ⟨_, newCall f s.store.nextArrival, hexec, rfl, rfl, rfl, rfl, rfl, rfl, rfl, rfl, rfl, rfl, ?_, ?_, rfl, rfl, rfl,
    ⟨before, after, ?_, hcalls, fun x hx => ?_, fun x hx => ?_⟩, ?_⟩
  · simp [newCall, CallFields.scope, scopeOf]
  · simp [newCall, CallFields.stretch, BitVec.extractLsb'_toNat, Nat.shiftRight_eq_div_pow]
  · rw [happly]
    exact hplaced
  · have hx := hbefore x hx
    rw [hprecedes, Bool.or_eq_false_iff] at hx
    exact hx.1
  · have hx := hafter x hx
    rw [hprecedes] at hx
    simpa using hx
  · rw [happly]
    exact ⟨rfl, rfl, rfl, rfl, rfl, rfl, rfl, rfl, rfl, rfl, rfl⟩

/-! ### SEGMENT (R48, R49) -/

theorem findCall_single {s : State} {r : CallRecord} (h : s.store.calls = [r]) (id : Word16) :
    s.findCall id = if r.callId = id then some r else none := by
  by_cases hid : r.callId = id <;> simp [State.findCall, h, List.find?, hid]

/-- The checks of a SEGMENT, in order, with one call held (R48). -/
theorem judgeSegment_single {s : State} {r : CallRecord} {f : SegmentFields} (hm : s.station.mode.takesIntake = true)
    (h : s.store.calls = [r]) :
    judgeSegment f s =
      if r.callId ≠ f.callId then .orphan
      else if f.index.toNat < r.received then .duplicate
      else if r.closed = true ∨ r.expected ≤ f.index.toNat then .excess
      else if r.received < f.index.toNat then .gap
      else if s.store.poolFree = 0 then .poolEmpty
      else .taken r := by
  by_cases hid : r.callId = f.callId <;> simp [judgeSegment, hm, findCall_single h, hid]

/-- The first call and its plan point do not depend on the chain (R50). -/
theorem canBeNext_withSegment (now : Word32) (f : SegmentFields) (r : CallRecord) :
    (r.withSegment f).canBeNext now = r.canBeNext now := rfl

/-- A taken SEGMENT is chained, with no landing record held (R48). -/
theorem chainSegment_single {s : State} {r : CallRecord} {f : SegmentFields} (h : s.store.calls = [r])
    (hid : r.callId = f.callId) (hrecords : s.landing.records = []) :
    chainSegment f s =
      { s with store := { s.store with poolFree := s.store.poolFree - 1, calls := [r.withSegment f] } } := by
  simp [chainSegment, noteRequested, State.findLanding, updateCall, h, hid, hrecords]

/-- A SEGMENT of a call that neither waits nor holds open is chained and no more (R49). -/
theorem segmentEffect_of_other {r : CallRecord} (hw : r.state ≠ .waiting) (ho : r.state ≠ .holdOpen) (s : State) :
    segmentEffect r s = s := by
  unfold segmentEffect
  split
  · exact absurd ‹_› hw
  · exact absurd ‹_› ho
  all_goals rfl

/-- Settles O31: the verdict of each check, and the record with the segment chained. -/
theorem segmentDecided : Obligations.SegmentDecided := by
  intro s st f r h hm hcalls hrecords hnext hw ho k counted
  have hj := judgeSegment_single (s := arrived ⟨st, .segment f⟩ s) (f := f) hm hcalls
  rw [show (arrived ⟨st, .segment f⟩ s).store.poolFree = s.store.poolFree from rfl] at hj
  have hcan : r.canBeNext s.clock.linkClock = false := by
    have := List.find?_eq_none.1 hnext r (by rw [hcalls]; exact List.mem_singleton_self r)
    simpa using this
  have hcounted {k' : StoreCounters} (hk : applySegment f (arrived ⟨st, .segment f⟩ s) = counted k') :
      exec (.segment st f) s = .next (counted k') := by
    rw [segment_of_arrives h, hk]
    exact congrArg Host.Outcome.next (conclude_of_quiet h.1)
  split_ifs at hj ⊢ with hid hdup hexcess hgap hfree
  · exact hcounted (by rw [applySegment, hj]; rfl)
  · exact hcounted (by rw [applySegment, hj]; rfl)
  · exact hcounted (by rw [applySegment, hj]; rfl)
  · exact hcounted (by rw [applySegment, hj]; rfl)
  · exact hcounted (by rw [applySegment, hj]; rfl)
  · have hid : r.callId = f.callId := not_not.1 hid
    have hopen : r.closed = false := by simpa using fun hc => hexcess (.inl hc)
    have hchain := chainSegment_single (s := arrived ⟨st, .segment f⟩ s) hcalls hid hrecords
    have happly : applySegment f (arrived ⟨st, .segment f⟩ s)
        = { arrived ⟨st, .segment f⟩ s with
            store := { s.store with poolFree := s.store.poolFree - 1, calls := [r.withSegment f] } } := by
      rw [applySegment, hj]
      dsimp only
      rw [hchain, segmentEffect_of_other hw ho]
      refine closeEvent_of_none h.1 ?_
      simp [State.nextCall, canBeNext_withSegment, arrived, hcan]
    rw [segment_of_arrives h, happly, conclude_of_quiet (by exact h.1)]
    simp [CallRecord.withSegment, SegmentFields.poolSegment, SegmentFields.last, hopen, Bool.beq_eq_decide_eq, arrived]

end Sys2Proof.Machine
end


section
/-! SUPPORT. The settled obligations about the ages of peers and cover entries, and about PROBE. -/

namespace Sys2Proof.Machine

/-! ### A station that is no longer heard, with no role held (R34, R148) -/

theorem ownReact_of_none {s : State} (h : s.cover.role = none) (b : OwnEntry) : ownReact b s = s := by
  simp [ownReact, h]

/-- With no role a station leaves the lists and no more. -/
theorem stationGone_of_none {s : State} (h : s.cover.role = none) (st : Byte) : stationGone st s = dropFromLists st s := by
  have hd : (dropFromLists st s).cover.role = none := h
  have hlist : ∀ {u : State}, u.cover.role = none → u.roleList = [] := fun hu => by simp [State.roleList, hu]
  unfold stationGone
  dsimp only
  rw [ownReact_of_none hd, hlist hd, hlist h]
  exact if_pos rfl

/-- A list without a station holds no entry of it (R147). -/
theorem removeHolder_station {now : Word32} {st : Byte} {l : List Holder} : ∀ h ∈ removeHolder now st l, h.station ≠ st := by
  unfold removeHolder
  split
  · intro h hh
    obtain ⟨x, hx, rfl⟩ := List.mem_map.1 hh
    have hne : x.station ≠ st := by simpa using (List.mem_filter.1 hx).2
    split <;> exact hne
  next hany => simpa using hany

/-- A list that does not hold the station stands as it is (R147). -/
theorem removeHolder_of_absent {now : Word32} {st : Byte} {l : List Holder} (h : ∀ x ∈ l, x.station ≠ st) :
    removeHolder now st l = l :=
  if_neg (by simpa using h)

/-- Settles O35: a LIVE entry becomes SILENT and its station leaves the lists; a SILENT one leaves the table, where no round
waits for the headroom. -/
theorem peersAgeOut : Obligations.PeersAgeOut := by
  refine ⟨fun s st p hp hlive hage hrole => ?_, fun s st p hq hp hsilent hage hround => ?_⟩
  · have hdue : s.silentDue p = true :=
      Bool.and_eq_true_iff.2 ⟨by rw [hlive]; rfl, decide_eq_true hage⟩
    have hexec : exec (.peerSilent st) s
        = .next (dropFromLists st (updatePeer st (fun q => { q with state := .silent }) s)) := by
      refine congrArg Host.Outcome.next ?_
      rw [show s.findPeer st = some p from hp]
      exact (if_pos hdue).trans (stationGone_of_none (by exact hrole) st)
    refine ⟨_, hexec, rfl, rfl, rfl, by simp [dropFromLists, updatePeer], fun l hl => ?_, fun i l hl hnone => ?_⟩
    · obtain ⟨l', -, rfl⟩ := List.mem_map.1 hl
      exact removeHolder_station
    · simp only [dropFromLists, updatePeer, List.getElem?_map, hl, Option.map_some, removeHolder_of_absent hnone]
  · have hdue : s.removalDue p = true :=
      Bool.and_eq_true_iff.2 ⟨by rw [hsilent]; rfl, decide_eq_true hage⟩
    have hst : p.station = st := by simpa using List.find?_some hp
    have hrise (u : State) (hu : u.power.round = s.power.round) : headroomRise u = u := by
      unfold headroomRise
      split
      · rfl
      next r hr => exact if_neg (by simp [hround r (hu ▸ hr)])
    refine congrArg Host.Outcome.next ?_
    rw [show s.findPeer st = some p from hp]
    refine (if_pos hdue).trans ?_
    unfold removePeer
    dsimp only
    rw [hrise _ (by rfl), conclude_of_quiet (by exact hq), hst]
    exact ite_self _

/-! ### Tracks and holders (R139, R148) -/

theorem changeHolders_of_none {s : State} (h : s.cover.role = none) (t : Nat) (l : List Holder) :
    changeHolders t l s = setHolders t l s :=
  if_neg (by simp [State.roleOn, h])

theorem trackOf_eq {s : State} {t : Nat} {r : TrackRecord} (h : s.cover.tracks[t]? = some r) : s.trackOf t = r := by
  simp [State.trackOf, List.getD_eq_getElem?_getD, h]

/-- The taker of the one RELIEVED entry of a list, its deadline reached (R148). -/
theorem findSome?_expiredTaker {now : Word32} {l : List Holder} {b : Holder} {k : Byte} {d : Word32} (hb : b ∈ l)
    (hstate : b.state = .relieved k d) (hone : ∀ x ∈ l, x.state ≠ .holder → x = b) (hdue : (now - d).toNat < 2 ^ 31) :
    l.findSome? (Holder.expiredTaker now) = some k := by
  have hexpired : b.expiredTaker now = some k := by
    rw [Holder.expiredTaker, hstate]
    exact if_pos (decide_eq_true hdue)
  cases hf : l.findSome? (Holder.expiredTaker now) with
  | none => exact absurd (List.findSome?_eq_none_iff.1 hf b hb) (by rw [hexpired]; simp)
  | some j =>
    obtain ⟨x, hx, hxj⟩ := List.exists_of_findSome?_eq_some hf
    have hxb : x = b := hone x hx fun hh => by simp [Holder.expiredTaker, hh] at hxj
    rw [← hxj, hxb, hexpired]

/-- Settles O44: each entry's own event; with no role a list's change is the list's alone. -/
theorem coverEntriesTimeOut : Obligations.CoverEntriesTimeOut := by
  refine ⟨fun s g t r hg hr hstate hage => ?_, fun s t k l b c d hrole hl hb hstate hone hc hck hdue => ?_,
    fun s t st before after h hrole hl hst hstate hothers hage => ?_⟩
  · have htrack := trackOf_eq hr
    have hdue : s.trackDue t.toNat = true := by
      rw [State.trackDue, htrack, hstate, State.fig, hg]
      exact decide_eq_true hage
    refine congrArg Host.Outcome.next ((if_pos hdue).trans ?_)
    rw [loseTrack, htrack]
  · have hlist := holders_eq hl
    refine congrArg Host.Outcome.next ?_
    rw [hlist, findSome?_expiredTaker hb hstate hone hdue]
    dsimp only
    rw [expireRelief, changeHolders_of_none (by exact hrole), hlist, removeHolder,
      if_pos (List.any_eq_true.2 ⟨c, hc, by simp [hck]⟩)]
    have hmap : (l.filter (fun x => x.station != k)).map
          (fun x => if x.relievedBy k then { x with state := .holder, lastStated := s.clock.tickCount } else x)
        = (l.filter (fun x => x.station != k)).map
          (fun x => if x = b then { b with state := .holder, lastStated := s.clock.tickCount } else x) := by
      refine List.map_congr_left fun x hx => ?_
      by_cases hxb : x = b
      · simp [hxb, Holder.relievedBy, hstate]
      · have hholder : x.state = .holder := not_not.1 fun hh => hxb (hone x (List.mem_filter.1 hx).1 hh)
        simp [hxb, Holder.relievedBy, hholder]
    rw [hmap]
    rfl
  · have hlist := holders_eq hl
    have hfind : (before ++ h :: after).find? (fun x => x.station == st) = some h := by
      have hb : before.find? (fun x => x.station == st) = none := by
        simpa using fun x hx => hothers x (List.mem_append_left _ hx)
      simp [List.find?_append, hb, hst]
    have hlapsed : h.lapsed s.clock.tickCount = true := by
      rw [Holder.lapsed, Holder.isHolder, hstate]
      exact decide_eq_true hage
    have hfilter : (before ++ h :: after).filter (fun x => x.station != st) = before ++ after := by
      have hkeep : (before ++ after).filter (fun x => x.station != st) = before ++ after :=
        List.filter_eq_self.2 (by simpa using hothers)
      rw [List.filter_append, List.filter_cons, if_neg (by simp [hst]), ← List.filter_append, hkeep]
    refine congrArg Host.Outcome.next ?_
    rw [hlist, hfind]
    refine (if_pos hlapsed).trans ?_
    rw [lapseHolder, changeHolders_of_none (by exact hrole), hlist, removeHolder,
      if_pos (List.any_eq_true.2 ⟨h, by simp, by simp [hst]⟩), hfilter]
    rfl

/-! ### PROBE (R193, R194) -/

theorem probe_of_arrives {s : State} {st : Byte} {f : ProbeFields} (h : Arrives ⟨st, .probe f⟩ s) :
    exec (.probe st f) s = .next (conclude (applyProbe f (arrived ⟨st, .probe f⟩ s))) :=
  congrArg Host.Outcome.next (receiveFrame_of_arrives h)

/-- A part is left of a snapshot exactly when its next part begins before its end. -/
theorem lt_partCount_iff (n : Nat) (bytes : List Byte) : n < partCount bytes ↔ 45 * n < bytes.length := by
  rw [Nat.mul_comm]
  exact Nat.lt_div_iff_mul_lt (show 0 < 45 by decide)

/-- A part offered with room in the queue joins its end. -/
theorem offerPart_room {n : Snapshot} {s : State} (h : HasRoom (.report (reportFrame n.page n.bytes n.next)) s.link.queue) :
    offerPart n s =
      { s with
        station := { s.station with snapshot := some { n with next := n.next + 1 } }
        link := { s.link with queue := queued (.report (reportFrame n.page n.bytes n.next)) s.link.queue } } :=
  offer_room (s := { s with station := _ }) h

/-- A PROBE to this station, with no part of its page left (R193). -/
theorem applyProbe_new {f : ProbeFields} {s : State} (hm : s.station.mode.linkOff = false) (hst : f.station = s.station.ownStation)
    (hn : ∀ n, s.station.snapshot = some n → n.page ≠ f.page.toNat ∨ n.bytes.length ≤ 45 * n.next) :
    applyProbe f s = newSnapshot f.page.toNat f.clear s := by
  unfold applyProbe
  rw [if_neg (by simp [StationMode.answers, hm, hst])]
  split
  · rfl
  next n hs =>
    refine if_neg ?_
    rw [lt_partCount_iff]
    have := hn n hs
    lia

theorem applyProbe_next {f : ProbeFields} {s : State} {n : Snapshot} (hm : s.station.mode.linkOff = false)
    (hst : f.station = s.station.ownStation) (hs : s.station.snapshot = some n) (hp : n.page = f.page.toNat)
    (hleft : 45 * n.next < n.bytes.length) : applyProbe f s = offerPart n s := by
  unfold applyProbe
  rw [if_neg (by simp [StationMode.answers, hm, hst]), hs]
  exact if_pos ⟨hp, (lt_partCount_iff _ _).2 hleft⟩

/-- What the clearing of a page leaves: everything but its counters. -/
theorem clearPage_eq (page : Nat) (s : State) :
    clearPage page s =
      { s with
        link := { s.link with counters := (clearPage page s).link.counters }
        clock := { s.clock with counters := (clearPage page s).clock.counters }
        store := { s.store with counters := (clearPage page s).store.counters }
        aim := { s.aim with counters := (clearPage page s).aim.counters }
        planner := { s.planner with counters := (clearPage page s).planner.counters }
        power := { s.power with counters := (clearPage page s).power.counters }
        landing := { s.landing with counters := (clearPage page s).landing.counters }
        cover := { s.cover with counters := (clearPage page s).cover.counters }
        colour := { s.colour with counters := (clearPage page s).colour.counters }
        drive := { s.drive with counters := (clearPage page s).drive.counters } } := by
  unfold clearPage
  split <;> rfl

/-- Settles O34: the snapshot's next part, or a new snapshot with part 0 offered and, when asked, its page cleared. -/
theorem probeComposesPage : Obligations.ProbeComposesPage := by
  intro s st f h hm hst hroom a bytes
  have hexec := probe_of_arrives h
  refine ⟨fun n hs hp hleft => ?_, fun hn => ?_⟩
  · rw [hexec, applyProbe_next (by exact hm) (by exact hst) (by exact hs) hp hleft, offerPart_room (by exact hroom _)]
    exact congrArg Host.Outcome.next (conclude_of_quiet h.1)
  · have hpart : offerPart ⟨f.page.toNat, bytes, 0⟩ a =
        { a with
          station := { s.station with snapshot := some ⟨f.page.toNat, bytes, 1⟩ }
          link := { a.link with queue := queued (.report (reportFrame f.page.toNat bytes 0)) s.link.queue } } :=
      offerPart_room (hroom _)
    have hnew : applyProbe f a = if f.clear then clearPage f.page.toNat (offerPart ⟨f.page.toNat, bytes, 0⟩ a)
        else offerPart ⟨f.page.toNat, bytes, 0⟩ a := applyProbe_new hm hst hn
    have hquiet : Quiet (applyProbe f a) := by
      rw [hnew, clearPage_eq, hpart]
      split <;> exact h.1
    refine ⟨_, hexec.trans (congrArg Host.Outcome.next (conclude_of_quiet hquiet)), ?_⟩
    rw [hnew, hpart]
    cases hclear : f.clear with
    | false =>
      have hflag : f.flags.getLsbD 0 = false := hclear
      exact ⟨rfl, rfl, fun _ => rfl, fun hc => absurd (hflag.symm.trans hc) (by decide), rfl, rfl, rfl, rfl, rfl, rfl, rfl⟩
    | true =>
      have hflag : f.flags.getLsbD 0 = true := hclear
      rw [if_pos rfl]
      refine ⟨?_, ?_, fun hc => absurd (hflag.symm.trans hc) (by decide), fun _ => ⟨?_, ?_, ?_, ?_, ?_⟩, ?_⟩
      · rw [clearPage_eq]
      · rw [clearPage_eq]
      · rintro hp
        rw [hp]
        exact ⟨rfl, rfl⟩
      · rintro hp
        rw [hp]
        rfl
      · rintro hp
        rw [hp]
        exact ⟨rfl, rfl, rfl, rfl⟩
      · rintro hp
        rw [hp]
        exact ⟨rfl, rfl⟩
      · rintro hp
        rw [hp]
        rfl
      · rw [clearPage_eq]
        exact ⟨rfl, rfl, rfl, rfl, rfl, rfl, rfl⟩

end Sys2Proof.Machine
end


section
/-! SUPPORT. The settled obligations about CLAIM and BEACON from another station: the peer-entry stage, the claim test, the
stated claim, and the headroom rise that ends a wait. -/

namespace Sys2Proof.Machine

theorem claim_of_arrives {s : State} {st : Byte} {f : ClaimFields} (h : Arrives ⟨st, .claim f⟩ s) :
    exec (.claim st f) s = .next (conclude (applyClaim st f (claimPeer st f { s with link := arrivedLink ⟨st, .claim f⟩ s.link }))) :=
  congrArg Host.Outcome.next (receiveFrame_of_arrives h)

theorem beacon_of_arrives {s : State} {st : Byte} {f : BeaconFields} (h : Arrives ⟨st, .beacon f⟩ s) :
    exec (.beacon st f) s = .next (conclude (applyBeacon st f (s.findPeer st).isSome
      (beaconPeer st f { s with link := arrivedLink ⟨st, .beacon f⟩ s.link }))) :=
  congrArg Host.Outcome.next (receiveFrame_of_arrives h)

/-! ### The peer table (R30, R32, R36) -/

theorem isOwnCircuit_eq {s : State} {g : Figures} (hg : s.station.figures = some g) (c : Nat) :
    s.isOwnCircuit c = (g.circuit == c) := by
  simp [State.isOwnCircuit, hg]

/-- In a table in station order a station with no entry has its place (R32). -/
theorem insertPeer_eq (p : Peer) {after : List Peer} (ha : ∀ q ∈ after, p.station.toNat < q.station.toNat)
    {before : List Peer} (hb : ∀ q ∈ before, q.station.toNat < p.station.toNat) :
      insertPeer p (before ++ after) = before ++ p :: after := by
  induction before with
  | nil =>
    cases after with
    | nil => rfl
    | cons q rest => exact if_pos (ha q List.mem_cons_self)
  | cons q before ih =>
    rw [List.cons_append, insertPeer, if_neg (Nat.not_lt.2 (hb q List.mem_cons_self).le),
      ih fun x hx => hb x (List.mem_cons_of_mem _ hx)]
    rfl

theorem find?_station_none {st : Byte} {before after : List Peer} (hb : ∀ q ∈ before, q.station.toNat < st.toNat)
    (ha : ∀ q ∈ after, st.toNat < q.station.toNat) : ∀ q ∈ before ++ after, q.station ≠ st := by
  intro q hq hst
  rcases List.mem_append.1 hq with hq | hq
  · exact absurd (hst ▸ hb q hq) (Nat.lt_irrefl _)
  · exact absurd (hst ▸ ha q hq) (Nat.lt_irrefl _)

theorem findPeer_eq_none {s : State} {st : Byte} (h : ∀ q ∈ s.clock.peers, q.station ≠ st) : s.findPeer st = none := by
  simpa [State.findPeer] using h

theorem find?_inserted {st : Byte} {before after : List Peer} {p : Peer} (hp : p.station = st)
    (hb : ∀ q ∈ before, q.station ≠ st) : (before ++ p :: after).find? (fun q => q.station == st) = some p := by
  have hnone : before.find? (fun q => q.station == st) = none := by simpa using hb
  simp [List.find?_append, hnone, hp]

/-- The map over one station's entries leaves a table without it (R30). -/
theorem map_station_of_absent {st : Byte} {f : Peer → Peer} {l : List Peer} (h : ∀ q ∈ l, q.station ≠ st) :
    l.map (fun q => if q.station == st then f q else q) = l :=
  (List.map_congr_left (g := id) fun q hq => by simp [h q hq]).trans (List.map_id _)

theorem map_station_inserted {st : Byte} {f : Peer → Peer} {before after : List Peer} {p : Peer} (hp : p.station = st)
    (h : ∀ q ∈ before ++ after, q.station ≠ st) :
    (before ++ p :: after).map (fun q => if q.station == st then f q else q) = before ++ f p :: after := by
  rw [List.map_append, List.map_cons, map_station_of_absent fun q hq => h q (List.mem_append_left _ hq),
    map_station_of_absent fun q hq => h q (List.mem_append_right _ hq), if_pos (by simp [hp])]

/-- What a peer of the table is after a write to one station's entries. -/
theorem find?_map_station {st : Byte} {f : Peer → Peer} {l : List Peer} {p : Peer} (hf : ∀ q, (f q).station = q.station)
    (h : l.find? (fun q => q.station == st) = some p) :
    (l.map (fun q => if q.station == st then f q else q)).find? (fun q => q.station == st) = some (f p) := by
  have hpred : (fun q : Peer => q.station == st) ∘ (fun q => if q.station == st then f q else q)
      = fun q : Peer => q.station == st := by
    funext q
    by_cases hq : q.station = st <;> simp [hq, hf]
  have hp : p.station = st := by simpa using List.find?_some h
  rw [List.find?_map, hpred, h]
  exact congrArg some (if_pos (by simp [hp]))

/-- An entry is found again once it is written (R31). -/
theorem findPeer_updatePeer {s : State} {st : Byte} {f : Peer → Peer} {p : Peer} (hf : ∀ q, (f q).station = q.station)
    (h : s.findPeer st = some p) : (updatePeer st f s).findPeer st = some (f p) := find?_map_station hf h

theorem map_station_twice (st : Byte) {f g : Peer → Peer} (hf : ∀ q, (f q).station = q.station) (l : List Peer) :
    (l.map (fun q => if q.station == st then f q else q)).map (fun q => if q.station == st then g q else q)
      = l.map (fun q => if q.station == st then g (f q) else q) := by
  rw [List.map_map]
  refine List.map_congr_left fun q _ => ?_
  by_cases hq : q.station = st <;> simp [hq, hf]

/-- The close of an event that leaves nothing to tell. -/
theorem concluded {F R : Type} {s : State} (h : Quiet s) :
    (Host.Outcome.next (conclude s) : Host.Outcome State F R) = .next s := by
  rw [conclude_of_quiet h]

/-! ### Headroom rises (R110, R111) -/

/-- A request outside solo mode whose frame finds room, held back by nothing (R103). -/
theorem request_room {w : Nat} {r : Reason} {p : Purpose} {s : State} (hsolo : s.power.solo = none)
    (hheld : s.settling = false ∨ p = .lowering) (hroom : HasRoom (.claim (claimFrame s.fig w r)) s.link.queue) :
    request w r p s =
      { s with
        power := { s.power with
          round := some ⟨false, w, r, p, false⟩
          reclaim := none
          deferred := deferFor s.power.round p s.power.deferred
          abandoned := false }
        link := { s.link with queue := queued (.claim (claimFrame s.fig w r)) s.link.queue } } := by
  rw [request_of_solo_none w r p hsolo, openRound_offered w r (by exact hheld)]
  exact offer_room (by exact hroom)

/-- The same for the purpose of the round that stands, with nothing deferred. -/
theorem request_again {w : Nat} {q : Round} {r : Reason} {s : State} (hround : s.power.round = some q)
    (hsolo : s.power.solo = none) (hdef : s.power.deferred = []) (hquiet : Quiet s)
    (hheld : s.settling = false ∨ q.purpose = .lowering) (hroom : HasRoom (.claim (claimFrame s.fig w r)) s.link.queue) :
    request w r q.purpose s =
      { s with
        power := { s.power with round := some ⟨false, w, r, q.purpose, false⟩, reclaim := none }
        link := { s.link with queue := queued (.claim (claimFrame s.fig w r)) s.link.queue } } := by
  have hd : deferFor s.power.round q.purpose s.power.deferred = s.power.deferred := by simp [deferFor, hround, hdef]
  have hsame : ({ s with power := { s.power with
      deferred := deferFor s.power.round q.purpose s.power.deferred, abandoned := false } } : State) = s := by
    rw [hd, ← hquiet.2]
  rw [request_of_solo_none _ _ _ hsolo, hsame, openRound_offered w r hheld]
  exact offer_room hroom

theorem headroomRise_idle {s : State} (h : ∀ r, s.power.round = some r → r.awaiting = false) : headroomRise s = s := by
  unfold headroomRise
  split
  · rfl
  next r hr => exact if_neg (by simp [h r hr])

theorem headroomRise_homing {s : State} {r : Round} (h : s.power.round = some r) (hp : r.purpose = .homing) :
    headroomRise s = s := by
  unfold headroomRise
  rw [h]
  exact if_neg (by simp [hp])

/-- A headroom rise ends the wait of a lowering or a FOLLOW round: the round asks again (R110, R111). -/
theorem headroomRise_waits {s : State} {r : Round} (h : s.power.round = some r) (hw : r.awaiting = true)
    (hp : r.purpose ≠ .homing) : headroomRise s = endWait s := by
  unfold headroomRise
  rw [h]
  exact if_pos (by simp [hw, hp])

theorem endWait_lowering {s : State} {r : Round} (h : s.power.round = some r) (hw : r.awaiting = true)
    (hp : r.purpose = .lowering) : endWait s = requestLowering r.request s := by
  unfold endWait
  simp [h, hw, hp]

theorem endWait_follow {s : State} {r : Round} (h : s.power.round = some r) (hw : r.awaiting = true)
    (hp : r.purpose = .follow) : endWait s = askFollow (countReclaim s) := by
  unfold endWait
  simp [h, hw, hp]

theorem fig_eq {s : State} {g : Figures} (hg : s.station.figures = some g) : s.fig = g := by simp [State.fig, hg]

theorem headroomRise_lowering {s : State} {g : Figures} {r : Round} (hg : s.station.figures = some g)
    (hround : s.power.round = some r) (hw : r.awaiting = true) (hp : r.purpose = .lowering)
    (hsolo : s.power.solo = none) (hdef : s.power.deferred = []) (hquiet : Quiet s)
    (hroom : HasRoom (.claim ⟨BitVec.ofNat 8 g.circuit, BitVec.ofNat 16 r.request, 3⟩) s.link.queue) :
    headroomRise s =
      { s with
        power := { s.power with round := some ⟨false, r.request, .idle, .lowering, false⟩, reclaim := none }
        link := { s.link with
          queue := queued (.claim ⟨BitVec.ofNat 8 g.circuit, BitVec.ofNat 16 r.request, 3⟩) s.link.queue } } := by
  have hf := fig_eq hg
  rw [headroomRise_waits hround hw (by simp [hp]), endWait_lowering hround hw hp, requestLowering, ← hp]
  have h := request_again (w := r.request) (r := .idle) hround hsolo hdef hquiet (.inr hp) (by rw [hf]; exact hroom)
  rw [hf] at h
  exact h

/-! ### The stated claim (R33, R108) -/

theorem leavesCircuit_eq {s : State} {g : Figures} (hg : s.station.figures = some g) (c : Nat) (p : Peer) :
    s.leavesCircuit c p = (g.circuit == p.circuit && p.circuit != c && decide (0 < p.granted)) := by
  rw [State.leavesCircuit, isOwnCircuit_eq hg]

/-- What a stated claim writes: the entry's figure, and the count of one that differs from the figure held. -/
def stated (st : Byte) (w : Nat) (counted : Bool) (s : State) : State :=
  { setPeerGranted st w s with
    power := { s.power with
      counters := { s.power.counters with statedOverride := satIf counted s.power.counters.statedOverride } } }

theorem statedClaim_none {st : Byte} {f : BeaconFields} {b : Bool} {s : State} (h : s.findPeer st = none) :
    statedClaim st f b s = s := by
  rw [statedClaim, h]

theorem statedClaim_of_steady {st : Byte} {f : BeaconFields} {b : Bool} {s : State} {p : Peer}
    (h : s.findPeer st = some p) (hd : (s.isOwnCircuit p.circuit && decide (f.granted.toNat < p.granted)) = false) :
    statedClaim st f b s = stated st f.granted.toNat (b && p.granted != f.granted.toNat) s := by
  unfold statedClaim
  rw [h]
  exact if_neg (by simp [hd])

theorem statedClaim_of_fall {st : Byte} {f : BeaconFields} {b : Bool} {s : State} {p : Peer}
    (h : s.findPeer st = some p) (hd : (s.isOwnCircuit p.circuit && decide (f.granted.toNat < p.granted)) = true) :
    statedClaim st f b s = headroomRise (stated st f.granted.toNat (b && p.granted != f.granted.toNat) s) := by
  unfold statedClaim
  rw [h]
  exact if_pos hd

theorem beaconPeer_stays {st : Byte} {f : BeaconFields} {s : State} {p : Peer} (h : s.findPeer st = some p)
    (hl : s.leavesCircuit f.circuit.toNat p = false) :
    beaconPeer st f s = updatePeer st (fun p => (p.heard s.clock.tickCount).withBeacon f) s := by
  unfold beaconPeer
  rw [h]
  exact if_neg (by simp [hl])

theorem beaconPeer_leaves {st : Byte} {f : BeaconFields} {s : State} {p : Peer} (h : s.findPeer st = some p)
    (hl : s.leavesCircuit f.circuit.toNat p = true) :
    beaconPeer st f s = headroomRise (updatePeer st (fun p => (p.heard s.clock.tickCount).withBeacon f) s) := by
  unfold beaconPeer
  rw [h]
  exact if_pos hl

theorem createPeer_room {p : Peer} {s : State} (h : s.clock.peers.length < 96) :
    createPeer p s = { s with clock := { s.clock with peers := insertPeer p s.clock.peers } } := if_pos h

theorem createPeer_full_other {p : Peer} {s : State} (h : 96 ≤ s.clock.peers.length) (ho : s.isOwnCircuit p.circuit = false) :
    createPeer p s = peerTableFull s :=
  (if_neg (Nat.not_lt.2 h)).trans (if_neg (by simp [ho]))

theorem createPeer_full_own {p : Peer} {s : State} (h : 96 ≤ s.clock.peers.length) (ho : s.isOwnCircuit p.circuit = true) :
    createPeer p s = match s.evictee with | some old => evictFor p old s | none => peerTableFull s :=
  (if_neg (Nat.not_lt.2 h)).trans (if_pos ho)

theorem applyBeacon_of_early {st : Byte} {f : BeaconFields} {b : Bool} {s : State}
    (h : isAfter (f.linkClock + 1) s.clock.linkClock = false) : applyBeacon st f b s = statedClaim st f b s := by
  rw [applyBeacon, clockStep, if_neg (by rw [h]; exact Bool.false_ne_true)]

/-- The writes of a BEACON into its sender's entry, one after the other (R31, R33, R108). -/
theorem stated_updated (st : Byte) (f : BeaconFields) (c : Bool) (s : State) :
    stated st f.granted.toNat c (updatePeer st (fun p => (p.heard s.clock.tickCount).withBeacon f) s) =
      { s with
        clock := { s.clock with
          peers := s.clock.peers.map (fun q =>
            if q.station == st then
              { q with
                state := .live
                lastHeard := s.clock.tickCount
                kind := stationKindOf f.stationKind
                circuit := f.circuit.toNat
                groupMask := f.groupMask
                granted := f.granted.toNat }
            else q) }
        power := { s.power with
          counters := { s.power.counters with statedOverride := satIf c s.power.counters.statedOverride } } } := by
  unfold stated setPeerGranted updatePeer
  dsimp only
  rw [map_station_twice st (fun q => by rfl)]
  rfl

theorem withBeacon_circuit (p : Peer) (now : Word32) (f : BeaconFields) :
    ((p.heard now).withBeacon f).circuit = f.circuit.toNat := rfl

theorem withBeacon_granted (p : Peer) (now : Word32) (f : BeaconFields) :
    ((p.heard now).withBeacon f).granted = if p.circuit = f.circuit.toNat then p.granted else 0 := by
  show (if f.circuit.toNat = p.circuit then p.granted else 0) = _
  simp only [eq_comm]

theorem satIf_ne (a b n : Nat) : satIf (a != b) n = if a = b then n else satInc n := by
  by_cases h : a = b <;> simp [satIf, h]

/-- A BEACON that does not step the clock: the peer-entry stage, then the stated claim (R27, R31, R108). -/
theorem beacon_early {s : State} {st : Byte} {f : BeaconFields} (h : Arrives ⟨st, .beacon f⟩ s)
    (hearly : isAfter (f.linkClock + 1) s.clock.linkClock = false) :
    exec (.beacon st f) s = .next (conclude (statedClaim st f (s.findPeer st).isSome
      (beaconPeer st f { s with link := arrivedLink ⟨st, .beacon f⟩ s.link }))) := by
  have hclock := congrArg ClockBase.linkClock
    (peerStage_clockBase ⟨st, .beacon f⟩ { s with link := arrivedLink ⟨st, .beacon f⟩ s.link })
  rw [beacon_of_arrives h, applyBeacon_of_early]
  rw [show (beaconPeer st f { s with link := arrivedLink ⟨st, .beacon f⟩ s.link }).clock.linkClock = s.clock.linkClock
    from hclock]
  exact hearly

/-- The count of a stated claim that differs from the figure its entry then holds (R33, R108, log 17). -/
theorem stated_count (p : Peer) (now : Word32) (f : BeaconFields) (n : Nat) :
    satIf (true && ((p.heard now).withBeacon f).granted != f.granted.toNat) n
      = if (if p.circuit = f.circuit.toNat then p.granted else 0) = f.granted.toNat then n else satInc n := by
  rw [Bool.true_and, withBeacon_granted, satIf_ne]

/-- Settles O33: the entry is found or created, the stated claim is written, and the rise, where there is one, comes at the
change of circuit or at the fall of the claim. -/
theorem statedClaimWritten : Obligations.StatedClaimWritten := by
  intro s st f harr hearly a
  have hexec := beacon_early harr hearly
  have hquiet : Quiet s := harr.1
  refine ⟨fun p hp _ => ?_, fun before after hsplit hb ha => ?_⟩
  · intro held power t
    have hfind : s.findPeer st = some p := hp
    rw [hfind] at hexec
    let s0 : State := { s with link := arrivedLink ⟨st, .beacon f⟩ s.link }
    let s1 : State := updatePeer st (fun p => (p.heard s0.clock.tickCount).withBeacon f) s0
    have hfind1 : s1.findPeer st = some ((p.heard s.clock.tickCount).withBeacon f) :=
      findPeer_updatePeer (fun q => by rfl) (by exact hfind)
    have ht : stated st f.granted.toNat
        (true && ((p.heard s.clock.tickCount).withBeacon f).granted != f.granted.toNat) s1 = t := by
      show stated st f.granted.toNat _ (updatePeer st _ s0) = t
      rw [stated_updated, stated_count]
      rfl
    refine ⟨fun hidle => ?_, fun g r hg hround hw hpurpose hsolo hdef hcirc hcause => ?_⟩
    · have hrise : ∀ u : State, u.power.round = s.power.round → headroomRise u = u :=
        fun u hu => headroomRise_idle (by rw [hu]; exact hidle)
      have hstage : beaconPeer st f s0 = s1 := by
        cases hl : s0.leavesCircuit f.circuit.toNat p with
        | false => exact beaconPeer_stays (by exact hfind) hl
        | true => exact (beaconPeer_leaves (by exact hfind) hl).trans (hrise _ rfl)
      have hstated : statedClaim st f true s1 = t := by
        rw [← ht]
        cases hd : s1.isOwnCircuit f.circuit.toNat
            && decide (f.granted.toNat < ((p.heard s.clock.tickCount).withBeacon f).granted) with
        | false => exact statedClaim_of_steady hfind1 hd
        | true => exact (statedClaim_of_fall hfind1 hd).trans (hrise _ rfl)
      rw [hexec]
      show Host.Outcome.next (conclude (statedClaim st f true (beaconPeer st f s0))) = _
      rw [hstage, hstated, conclude_of_quiet (s := t) (hquiet.of_eq rfl rfl)]
    · intro body hroom
      have hrise (u : State) := headroomRise_lowering (s := u) (g := g) (r := r)
      rw [hexec]
      show Host.Outcome.next (conclude (statedClaim st f true (beaconPeer st f s0))) = _
      rcases hcause with ⟨hsame, hfall⟩ | ⟨hother, hpos⟩
      · have hstage : beaconPeer st f s0 = s1 :=
          beaconPeer_stays (by exact hfind) (by rw [leavesCircuit_eq (by exact hg)]; simp [hcirc, hsame])
        have hd : (s1.isOwnCircuit f.circuit.toNat
            && decide (f.granted.toNat < ((p.heard s.clock.tickCount).withBeacon f).granted)) = true := by
          rw [isOwnCircuit_eq (by exact hg), withBeacon_granted, if_pos (hcirc.trans hsame.symm)]
          simp [hsame, hfall]
        rw [hstage, statedClaim_of_fall hfind1 hd, ht,
          hrise t (by exact hg) (by exact hround) hw hpurpose (by exact hsolo) (by exact hdef) (hquiet.of_eq rfl rfl)
            (by exact hroom)]
        exact concluded (by exact hquiet)
      · have hstage := beaconPeer_leaves (f := f) (s := s0) (by exact hfind) (by
          rw [leavesCircuit_eq (by exact hg)]
          simp [hcirc, Ne.symm hother, hpos])
        have hopen := hrise s1 (by exact hg) (by exact hround) hw hpurpose (by exact hsolo) (by exact hdef)
          (hquiet.of_eq rfl rfl) (by exact hroom)
        have hstated := statedClaim_of_steady (b := true) (f := f) (s := headroomRise s1) (st := st)
          (p := (p.heard s.clock.tickCount).withBeacon f) (by rw [hopen]; exact hfind1) (by
            rw [hopen, isOwnCircuit_eq (by exact hg), withBeacon_circuit]
            simp [Ne.symm hother])
        rw [hstage, hstated, hopen]
        have hfinal : stated st f.granted.toNat
            (true && ((p.heard s.clock.tickCount).withBeacon f).granted != f.granted.toNat)
            { s1 with
              power := { s1.power with round := some ⟨false, r.request, .idle, .lowering, false⟩, reclaim := none }
              link := { s1.link with queue := queued body s1.link.queue } }
            = { t with
              power := { power with round := some ⟨false, r.request, .idle, .lowering, false⟩, reclaim := none }
              link := { a.link with queue := queued body s.link.queue } } := by
          have h := stated_updated st f (true && ((p.heard s.clock.tickCount).withBeacon f).granted != f.granted.toNat)
            { s0 with
              power := { s0.power with round := some ⟨false, r.request, .idle, .lowering, false⟩, reclaim := none }
              link := { s0.link with queue := queued body s0.link.queue } }
          rw [stated_count] at h
          exact h
        rw [hfinal]
        exact concluded (by exact hquiet)
  · intro new
    have hnone := find?_station_none hb ha
    have hfind : s.findPeer st = none := findPeer_eq_none (by rw [hsplit]; exact hnone)
    rw [hfind] at hexec
    let s0 : State := { s with link := arrivedLink ⟨st, .beacon f⟩ s.link }
    have hstage : beaconPeer st f s0 = createPeer (peerOfBeacon st f s.clock.tickCount) s0 := by
      unfold beaconPeer
      rw [show s0.findPeer st = none from hfind]
    have hrun : exec (.beacon st f) s = .next (conclude (statedClaim st f false
        (createPeer (peerOfBeacon st f s.clock.tickCount) s0))) := by
      rw [← hstage]
      exact hexec
    refine ⟨fun hroom => ?_, fun hfull hother => ?_⟩
    · let s1 : State :=
        { s0 with clock := { s.clock with peers := before ++ peerOfBeacon st f s.clock.tickCount :: after } }
      have hcreate : createPeer (peerOfBeacon st f s.clock.tickCount) s0 = s1 := by
        rw [createPeer_room (by exact hroom), show s0.clock.peers = before ++ after from hsplit,
          insertPeer_eq (peerOfBeacon st f s.clock.tickCount) (by exact ha) (by exact hb)]
      have hfind1 : s1.findPeer st = some (peerOfBeacon st f s.clock.tickCount) :=
        find?_inserted rfl fun q hq => hnone q (List.mem_append_left _ hq)
      have hstated : statedClaim st f false s1 = stated st f.granted.toNat false s1 := by
        refine statedClaim_of_steady hfind1 ?_
        show (_ && decide (_ < 0)) = false
        simp
      have hwrite : stated st f.granted.toNat false s1
          = { a with clock := { s.clock with peers := before ++ new :: after } } := by
        have hpeers := map_station_inserted (st := st) (f := fun q => { q with granted := f.granted.toNat })
          (p := peerOfBeacon st f s.clock.tickCount) rfl hnone
        unfold stated setPeerGranted
        rw [show s1.clock.peers = before ++ peerOfBeacon st f s.clock.tickCount :: after from rfl, hpeers]
        rfl
      rw [hrun, hcreate, hstated, hwrite]
      exact concluded (by exact hquiet)
    · have hown : s0.isOwnCircuit f.circuit.toNat = false := by
        cases hg : s.station.figures with
        | none => simp [State.isOwnCircuit, s0, hg]
        | some g =>
          rw [isOwnCircuit_eq (by exact hg)]
          simpa using (hother g hg).symm
      rw [hrun, createPeer_full_other (by exact hfull) (by exact hown), statedClaim_none (by exact hfind)]
      exact concluded (by exact hquiet)

/-! ### The claim test of a peer (R105) -/

theorem peerGranted_of_find {s : State} {st : Byte} {p : Peer} (h : s.findPeer st = some p) : s.peerGranted st = p.granted := by
  unfold State.peerGranted
  rw [show s.clock.peers.find? (fun q => q.station == st) = some p from h]

theorem peerGranted_of_none {s : State} {st : Byte} (h : s.findPeer st = none) : s.peerGranted st = 0 := by
  unfold State.peerGranted
  rw [show s.clock.peers.find? (fun q => q.station == st) = none from h]

theorem othersFor_eq {s : State} {g : Figures} (hg : s.station.figures = some g) (st : Byte) :
    s.othersFor st = othersOn g st s.clock.peers + s.power.granted := by
  have hpred : (fun q : Peer => s.isOwnCircuit q.circuit && q.station != st)
      = fun q => q.circuit == g.circuit && q.station != st := by
    funext q
    rw [isOwnCircuit_eq hg, Bool.beq_comm]
  rw [State.othersFor, hpred]
  rfl

/-- What the sender's own entry holds does not count among the others. -/
theorem othersOn_append_self (g : Figures) {st : Byte} {p : Peer} (hp : p.station = st) (before after : List Peer) :
    othersOn g st (before ++ p :: after) = othersOn g st (before ++ after) := by
  simp [othersOn, List.filter_append, hp]

theorem othersOn_map_station (g : Figures) (st : Byte) {f : Peer → Peer} (hf : ∀ q, (f q).station = q.station) :
    ∀ l : List Peer, othersOn g st (l.map (fun q => if q.station == st then f q else q)) = othersOn g st l := by
  intro l
  induction l with
  | nil => rfl
  | cons q l ih =>
    unfold othersOn at ih ⊢
    by_cases hq : q.station = st
    · simp only [List.map_cons, List.filter_cons, hq, hf, bne_self_eq_false, beq_self_eq_true, Bool.and_false, if_true]
      exact ih
    · have hqb : (q.station == st) = false := by simpa using hq
      simp only [List.map_cons, hqb, Bool.false_eq_true, if_false, List.filter_cons]
      split
      · rw [List.map_cons, List.map_cons, List.sum_cons, List.sum_cons, ih]
      · exact ih

/-- An entry of another circuit leaves the sum of the own circuit's as it is. -/
theorem othersOn_drop {g : Figures} {st dropped : Byte} {l : List Peer}
    (h : ∀ q ∈ l, q.station = dropped → q.circuit ≠ g.circuit) :
    othersOn g st (l.filter (fun q => q.station != dropped)) = othersOn g st l := by
  unfold othersOn
  rw [List.filter_filter, List.filter_congr fun q hq => ?_]
  by_cases hd : q.station = dropped
  · simp [h q hq hd]
  · simp [hd]

/-- The power share unit after a claim it refuses (R105). -/
def PowerState.refusing (p : PowerState) : PowerState :=
  { p with counters := { p.counters with peerRefused := satInc p.counters.peerRefused } }

section

variable {st : Byte} {f : ClaimFields} {g : Figures} {u : State} (htests : u.station.mode.testsClaims = true)
  (hg : u.station.figures = some g)
include htests hg

omit htests in
theorem applyClaim_other (h : f.circuit.toNat ≠ g.circuit) : applyClaim st f u = u := by
  have htest : testPeerClaim st f u = (u, false) := by
    unfold testPeerClaim
    rw [isOwnCircuit_eq hg]
    exact if_pos (by simp [Ne.symm h])
  rw [applyClaim, htest]
  exact if_neg Bool.false_ne_true

theorem applyClaim_refused (h : f.circuit.toNat = g.circuit) (hw : ¬f.requested.toNat ≤ u.peerGranted st)
    (hfit : ¬f.requested.toNat + u.othersFor st ≤ g.budget) :
    applyClaim st f u = { u with power := u.power.refusing } := by
  have htest : testPeerClaim st f u = ({ u with power := u.power.refusing }, false) := by
    unfold testPeerClaim
    rw [isOwnCircuit_eq hg, fig_eq hg, if_neg (by simp [htests, h])]
    exact if_neg (by simpa [claimGranted] using ⟨Nat.lt_of_not_le hw, Nat.lt_of_not_le hfit⟩)
  rw [applyClaim, htest]
  exact if_neg Bool.false_ne_true

theorem applyClaim_granted (h : f.circuit.toNat = g.circuit)
    (hw : f.requested.toNat ≤ u.peerGranted st ∨ f.requested.toNat + u.othersFor st ≤ g.budget) :
    applyClaim st f u =
      if f.requested.toNat < u.peerGranted st then headroomRise (setPeerGranted st f.requested.toNat u)
      else setPeerGranted st f.requested.toNat u := by
  have htest : testPeerClaim st f u
      = (setPeerGranted st f.requested.toNat u, decide (f.requested.toNat < u.peerGranted st)) := by
    unfold testPeerClaim
    rw [isOwnCircuit_eq hg, fig_eq hg, if_neg (by simp [htests, h])]
    exact if_pos (by simpa [claimGranted] using hw)
  rw [applyClaim, htest]
  exact if_congr decide_eq_true_iff rfl rfl

/-- The claim of a sender for which nothing is held is written where it fits, and refused above 0 where it does not. -/
theorem applyClaim_of_zero (hzero : u.peerGranted st = 0) (hset : setPeerGranted st 0 u = u) :
    applyClaim st f u =
      { setPeerGranted st
          (if f.circuit.toNat = g.circuit ∧ f.requested.toNat + u.othersFor st ≤ g.budget then f.requested.toNat else 0) u with
        power :=
          if f.circuit.toNat = g.circuit ∧ ¬f.requested.toNat + u.othersFor st ≤ g.budget ∧ f.requested.toNat ≠ 0 then
            u.power.refusing
          else u.power } := by
  by_cases hown : f.circuit.toNat = g.circuit
  · by_cases hfit : f.requested.toNat + u.othersFor st ≤ g.budget
    · rw [applyClaim_granted htests hg hown (.inr hfit), if_neg (by simp [hzero]), if_pos ⟨hown, hfit⟩,
        if_neg (fun h => h.2.1 hfit)]
      rfl
    · rw [if_neg (c := _ ∧ f.requested.toNat + _ ≤ _) (fun h => hfit h.2), hset]
      by_cases hw : f.requested.toNat = 0
      · rw [applyClaim_granted htests hg hown (.inl (by simp [hw])), if_neg (by simp [hzero]), if_neg (fun h => h.2.2 hw), hw]
        exact hset
      · rw [applyClaim_refused htests hg hown (by rw [hzero]; exact fun h => hw (Nat.le_zero.1 h)) hfit, if_pos ⟨hown, hfit, hw⟩]
  · rw [applyClaim_other hg hown, if_neg (fun h => hown h.1), if_neg (fun h => hown h.1), hset]

end

/-! ### The entry to evict (R36) -/

/-- Of a table in station order, the entry of longest silence, and of those that share it the lowest station. -/
theorem oldestPeer_eq {now : Word32} {old : Peer} {l : List Peer} (hmem : old ∈ l)
    (hord : l.Pairwise (fun a b => a.station.toNat < b.station.toNat))
    (hold : ∀ q ∈ l, q ≠ old → (now - q.lastHeard).toNat < (now - old.lastHeard).toNat
      ∨ q.lastHeard = old.lastHeard ∧ old.station.toNat < q.station.toNat) : oldestPeer now l = some old := by
  induction l with
  | nil => exact nomatch hmem
  | cons p rest ih =>
    obtain ⟨hfirst, hrest⟩ := List.pairwise_cons.1 hord
    unfold oldestPeer
    by_cases hp : old = p
    · subst hp
      split
      · rfl
      next q hq =>
        have hmem := oldestPeer_mem hq
        refine if_pos ?_
        rcases hold q (List.mem_cons_of_mem _ hmem) (fun h => absurd (hfirst q hmem) (by simp [h])) with h | h
        · exact h.le
        · exact le_of_eq (by rw [Peer.silence, Peer.silence, h.1])
    · have hin : old ∈ rest := (List.mem_cons.1 hmem).resolve_left hp
      rw [ih hin hrest fun q hq => hold q (List.mem_cons_of_mem _ hq)]
      refine if_neg (Nat.not_le.2 ?_)
      rcases hold p List.mem_cons_self (Ne.symm hp) with h | h
      · exact h
      · exact absurd (hfirst old hin) (Nat.not_lt.2 h.2.le)

/-! ### The claim of a peer -/

theorem claimPeer_stays {st : Byte} {f : ClaimFields} {s : State} {p : Peer} (h : s.findPeer st = some p)
    (hl : s.leavesCircuit f.circuit.toNat p = true → ∀ r, s.power.round = some r → r.awaiting = false) :
    claimPeer st f s = updatePeer st (fun p => (p.heard s.clock.tickCount).onCircuit f.circuit.toNat) s := by
  unfold claimPeer
  rw [h]
  exact ite_eq_right_iff.2 fun hleaves => headroomRise_idle (by exact hl hleaves)

theorem claimPeer_of_none {st : Byte} {f : ClaimFields} {s : State} (h : s.findPeer st = none) :
    claimPeer st f s = createPeer (peerOfClaim st f s.clock.tickCount) s := by
  unfold claimPeer
  rw [h]

theorem setPeerGranted_of_absent {st : Byte} {s : State} (h : ∀ q ∈ s.clock.peers, q.station ≠ st) (n : Nat) :
    setPeerGranted st n s = s := by
  unfold setPeerGranted
  rw [map_station_of_absent h]

theorem headroomRise_follow {s : State} {g : Figures} {r : Round} {ro : Role} (hg : s.station.figures = some g)
    (hround : s.power.round = some r) (hw : r.awaiting = true) (hp : r.purpose = .follow)
    (hrole : s.cover.role = some ro) (hfade : s.colour.fade = none) (hsettle : s.power.settle = none)
    (hsolo : s.power.solo = none) (hdef : s.power.deferred = []) (hquiet : Quiet s) {x : Nat}
    (hx : x = g.baseClaim + g.followAllowance
      + emitterClaim g.emitterWatts (maxLevels s.colour.levels (colourTarget g ro.colour 65536)))
    (hroom : HasRoom (.claim ⟨BitVec.ofNat 8 g.circuit, BitVec.ofNat 16 x, 2⟩) s.link.queue) :
    headroomRise s =
      { s with
        power := { s.power with
          round := some ⟨false, x, .follow, .follow, false⟩
          reclaim := none
          counters := { s.power.counters with reclaims := satInc s.power.counters.reclaims } }
        link := { s.link with
          queue := queued (.claim ⟨BitVec.ofNat 8 g.circuit, BitVec.ofNat 16 x, 2⟩) s.link.queue } } := by
  have hf : (countReclaim s).fig = g := fig_eq (by exact hg)
  have hclaim : (countReclaim s).followClaim ro = x := by
    rw [hx, State.followClaim, hf, ColourState.bound, show (countReclaim s).colour.fade = none from hfade]
    rfl
  rw [headroomRise_waits hround hw (by simp [hp]), endWait_follow hround hw hp, askFollow,
    show (countReclaim s).cover.role = some ro from hrole]
  show request ((countReclaim s).followClaim ro) .follow .follow (countReclaim s) = _
  rw [hclaim, ← hp]
  have h := request_again (w := x) (r := .follow) (s := countReclaim s) hround hsolo hdef hquiet
    (.inl (by simp [State.settling, countReclaim, hsettle])) (by rw [hf]; exact hroom)
  rw [hf] at h
  exact h

/-- The claim test for an entry just created (R32, R105). -/
theorem applyClaim_created {st : Byte} {f : ClaimFields} {g : Figures} {u : State} {before after : List Peer} {now : Word32}
    (htests : u.station.mode.testsClaims = true) (hg : u.station.figures = some g)
    (hpeers : u.clock.peers = before ++ peerOfClaim st f now :: after) (habsent : ∀ q ∈ before ++ after, q.station ≠ st) :
    let fits := f.requested.toNat + (othersOn g st (before ++ after) + u.power.granted) ≤ g.budget
    applyClaim st f u =
      { u with
        clock := { u.clock with
          peers := before ++ ⟨st, .other, f.circuit.toNat, 0,
            if f.circuit.toNat = g.circuit ∧ fits then f.requested.toNat else 0, .live, now⟩ :: after }
        power :=
          if f.circuit.toNat = g.circuit ∧ ¬fits ∧ f.requested.toNat ≠ 0 then u.power.refusing else u.power } := by
  intro fits
  have hset (n : Nat) : setPeerGranted st n u =
      { u with clock := { u.clock with
          peers := before ++ ⟨st, .other, f.circuit.toNat, 0, n, .live, now⟩ :: after } } := by
    have h := map_station_inserted (st := st) (f := fun q => { q with granted := n }) (p := peerOfClaim st f now) rfl habsent
    rw [← hpeers] at h
    unfold setPeerGranted
    rw [h]
    rfl
  have hfind : u.findPeer st = some (peerOfClaim st f now) := by
    unfold State.findPeer
    rw [hpeers]
    exact find?_inserted rfl fun q hq => habsent q (List.mem_append_left _ hq)
  have hothers : u.othersFor st = othersOn g st (before ++ after) + u.power.granted := by
    rw [othersFor_eq hg, hpeers, othersOn_append_self g (p := peerOfClaim st f now) (st := st) rfl]
  have hzero : setPeerGranted st 0 u = u := by
    rw [hset]
    show ({ u with clock := { u.clock with peers := before ++ peerOfClaim st f now :: after } } : State) = u
    rw [← hpeers]
  rw [applyClaim_of_zero htests hg (peerGranted_of_find hfind) hzero, hothers, hset]

/-- The entry of longest silence on another circuit is the one to evict (R36). -/
theorem evictee_eq {s : State} {g : Figures} {old : Peer} (hg : s.station.figures = some g) (hinv : PeerInv s)
    (hold : old ∈ s.clock.peers) (hother : old.circuit ≠ g.circuit)
    (holdest : ∀ q ∈ s.clock.peers, q.circuit ≠ g.circuit → q ≠ old →
        (s.clock.tickCount - q.lastHeard).toNat < (s.clock.tickCount - old.lastHeard).toNat
          ∨ q.lastHeard = old.lastHeard ∧ old.station.toNat < q.station.toNat) : s.evictee = some old := by
  obtain ⟨-, hord, -, -⟩ := hinv
  have hforeign (q : Peer) : (!s.isOwnCircuit q.circuit) = true ↔ q.circuit ≠ g.circuit := by
    rw [isOwnCircuit_eq hg, Bool.not_eq_true', beq_eq_false_iff_ne]
    exact ne_comm
  refine oldestPeer_eq (List.mem_filter.2 ⟨hold, (hforeign old).2 hother⟩) (hord.filter _) fun q hq => ?_
  obtain ⟨hmem, hcirc⟩ := List.mem_filter.1 hq
  exact holdest q hmem ((hforeign q).1 hcirc)

theorem evictee_none {s : State} {g : Figures} (hg : s.station.figures = some g)
    (h : ∀ q ∈ s.clock.peers, q.circuit = g.circuit) : s.evictee = none := by
  have hnil : s.clock.peers.filter (fun q => !s.isOwnCircuit q.circuit) = [] := by
    refine List.filter_eq_nil_iff.2 fun q hq => ?_
    rw [isOwnCircuit_eq hg]
    simp [h q hq]
  rw [State.evictee, hnil]
  rfl

/-- An eviction with no role held: the entry's room is taken, and a LIVE one leaves the holder lists (R36, R148). -/
theorem evictFor_of_none {s : State} {p old : Peer} (hrole : s.cover.role = none) :
    ∃ c : CoverState, evictFor p old s =
        { s with
          clock := { s.clock with
            peers := insertPeer p (dropPeer old.station s.clock.peers)
            counters := { s.clock.counters with peersEvicted := satInc s.clock.counters.peersEvicted } }
          cover := c }
      ∧ c = { s.cover with lists := c.lists }
      ∧ (old.state = .silent → c.lists = s.cover.lists)
      ∧ (old.state = .live → ∀ l ∈ c.lists, ∀ h ∈ l, h.station ≠ old.station) := by
  unfold evictFor
  dsimp only
  split
  next hlive =>
    rw [stationGone_of_none (by exact hrole)]
    refine ⟨_, rfl, rfl, fun hs => absurd (hlive.symm.trans hs) (by simp), fun _ l hl => ?_⟩
    obtain ⟨l', -, rfl⟩ := List.mem_map.1 hl
    exact removeHolder_station
  next hlive => exact ⟨s.cover, rfl, rfl, fun _ => rfl, fun h => absurd h hlive⟩

/-- Settles O24: the peer-entry stage, the claim test against the others and the own claim, and the wait that the rise
ends. -/
theorem peerClaimTested : Obligations.PeerClaimTested := by
  intro s g st f harr htests hg a w own fits put refused new power
  have hquiet : Quiet s := harr.1
  let s0 : State := { s with link := arrivedLink ⟨st, .claim f⟩ s.link }
  have hexec : exec (.claim st f) s = .next (conclude (applyClaim st f (claimPeer st f s0))) := claim_of_arrives harr
  refine ⟨fun p hp huniq => ?_, fun before after hsplit hb ha => ?_, ?_⟩
  · intro write
    have hfind : s0.findPeer st = some p := hp
    let s1 : State := updatePeer st (fun p => (p.heard s0.clock.tickCount).onCircuit f.circuit.toNat) s0
    have hfind1 : s1.findPeer st = some ((p.heard s.clock.tickCount).onCircuit f.circuit.toNat) :=
      findPeer_updatePeer (fun q => by rfl) (by exact hfind)
    have hothers : s1.othersFor st = othersOn g st s.clock.peers + s.power.granted := by
      rw [othersFor_eq (by exact hg)]
      exact congrArg (· + s.power.granted) (othersOn_map_station g st (fun q => by rfl) s.clock.peers)
    have hwrite (n : Nat) : setPeerGranted st n s1 = put (write n) s.clock.counters := by
      have h := map_station_twice st (f := fun p => (p.heard s.clock.tickCount).onCircuit f.circuit.toNat)
        (g := fun q => { q with granted := n }) (fun q => by rfl) s.clock.peers
      unfold setPeerGranted
      rw [show s1.clock.peers = s.clock.peers.map fun q => if q.station == st
        then (q.heard s.clock.tickCount).onCircuit f.circuit.toNat else q from rfl, h]
      rfl
    have hgranted : s1.peerGranted st = if f.circuit.toNat = p.circuit then p.granted else 0 := peerGranted_of_find hfind1
    have hpeers (l : List Peer) : put l s.clock.counters
        = ({ s0 with clock := { s.clock with peers := l } } : State) := rfl
    refine ⟨fun hidle => ⟨fun hsame => ?_, fun hmove => ?_⟩, fun r hround hwait hsame hown hfall hsolo hdef => ?_⟩
    · have hstage : claimPeer st f s0 = s1 := claimPeer_stays hfind fun _ => hidle
      have hheard : s1 = a := by
        refine (hpeers _).symm.trans ((congrArg (fun l => put l s.clock.counters) ?_).trans (hpeers _))
        refine List.map_congr_left fun q hq => ?_
        by_cases hst : q.station = st
        · simp [huniq q hq hst, Peer.onCircuit, Peer.heard, ← hsame, s0]
        · simp [hst]
      rw [if_pos hsame.symm] at hgranted
      rw [hexec, hstage]
      by_cases hown : own
      · rw [if_neg (not_not.2 hown)]
        by_cases hw : w ≤ p.granted ∨ fits
        · have hrise : headroomRise (setPeerGranted st w s1) = setPeerGranted st w s1 := headroomRise_idle (by exact hidle)
          rw [if_pos hw, applyClaim_granted (by exact htests) (by exact hg) hown (by rw [hgranted, hothers]; exact hw), hrise,
            ite_self, hwrite]
          exact concluded (by exact hquiet)
        · obtain ⟨hw, hfit⟩ := not_or.1 hw
          rw [if_neg (not_or.2 ⟨hw, hfit⟩), applyClaim_refused (by exact htests) (by exact hg) hown
            (by rw [hgranted]; exact hw) (by rw [hothers]; exact hfit), hheard]
          exact concluded (by exact hquiet)
      · rw [if_pos hown, applyClaim_other (by exact hg) hown, hheard]
        exact concluded (by exact hquiet)
    · have hstage : claimPeer st f s0 = s1 := claimPeer_stays hfind fun _ => hidle
      rw [if_neg (Ne.symm hmove)] at hgranted
      have hset : setPeerGranted st 0 s1 = s1 := by
        rw [hwrite]
        refine (congrArg (fun l => put l s.clock.counters) ?_).trans (hpeers _)
        refine List.map_congr_left fun q hq => ?_
        by_cases hst : q.station = st
        · simp [huniq q hq hst, Peer.onCircuit, Peer.heard, Ne.symm hmove, s0]
        · simp [hst]
      rw [hexec, hstage, applyClaim_of_zero (by exact htests) (by exact hg) hgranted hset, hothers, hwrite]
      exact concluded (by exact ⟨hquiet.1, by dsimp only; split <;> exact hquiet.2⟩)
    · intro t
      have hstage : claimPeer st f s0 = s1 :=
        claimPeer_stays hfind fun hl => by rw [leavesCircuit_eq (by exact hg)] at hl; simp [hsame] at hl
      rw [if_pos hsame.symm] at hgranted
      have hrun : exec (.claim st f) s = .next (conclude (headroomRise t)) := by
        rw [hexec, hstage, applyClaim_granted (by exact htests) (by exact hg) hown
          (by rw [hgranted]; exact .inl hfall.le), if_pos (by rw [hgranted]; exact hfall), hwrite]
      refine ⟨fun hp => ?_, fun hp => ?_, fun ro hp hrole hfade hsettle => ?_⟩
      · rw [hrun, headroomRise_homing (by exact hround) hp]
        exact concluded (by exact hquiet)
      · intro body hroom
        rw [hrun, headroomRise_lowering (by exact hg) (by exact hround) hwait hp (by exact hsolo) (by exact hdef)
          (by exact hquiet) (by exact hroom)]
        exact concluded (by exact hquiet)
      · intro x body hroom
        rw [hrun, headroomRise_follow (s := t) (x := x) (by exact hg) (by exact hround) hwait hp (by exact hrole) (by exact hfade)
          (by exact hsettle) (by exact hsolo) (by exact hdef) (by exact hquiet) rfl (by exact hroom)]
        exact concluded (by exact hquiet)
  · intro full
    have hnone := find?_station_none hb ha
    have hfind : s0.findPeer st = none := findPeer_eq_none (by exact hsplit ▸ hnone)
    rw [claimPeer_of_none hfind] at hexec
    refine ⟨fun hroom => ?_, fun hfull hno => ?_⟩
    · have hcreated : createPeer (peerOfClaim st f s0.clock.tickCount) s0 =
          { s0 with clock := { s.clock with peers := before ++ peerOfClaim st f s.clock.tickCount :: after } } := by
        rw [createPeer_room (by exact hroom), show s0.clock.peers = before ++ after from hsplit,
          insertPeer_eq (peerOfClaim st f s0.clock.tickCount) (by exact ha) (by exact hb)]
      have hclaim := applyClaim_created (st := st) (f := f)
        (u := { s0 with clock := { s.clock with peers := before ++ peerOfClaim st f s.clock.tickCount :: after } })
        (by exact htests) (by exact hg) rfl hnone
      rw [← hsplit] at hclaim
      rw [hexec, hcreated, hclaim]
      exact concluded (by exact ⟨hquiet.1, by dsimp only; split <;> exact hquiet.2⟩)
    · have hcreated : createPeer (peerOfClaim st f s0.clock.tickCount) s0 = peerTableFull s0 := by
        by_cases hown : own
        · have hall := hno.resolve_left (not_not.2 hown)
          rw [createPeer_full_own (by exact hfull) (by rw [isOwnCircuit_eq (by exact hg)]; exact beq_iff_eq.2 hown.symm),
            evictee_none (by exact hg) (by exact hall)]
        · exact createPeer_full_other (by exact hfull)
            (by rw [isOwnCircuit_eq (by exact hg)]; exact beq_eq_false_iff_ne.2 (Ne.symm hown))
      have hsame (n : Nat) : setPeerGranted st n (peerTableFull s0) = peerTableFull s0 :=
        setPeerGranted_of_absent (by exact hsplit ▸ hnone) n
      have hothers : (peerTableFull s0).othersFor st = othersOn g st s.clock.peers + s.power.granted :=
        othersFor_eq (by exact hg) st
      rw [hexec, hcreated, applyClaim_of_zero (by exact htests) (by exact hg) (peerGranted_of_none (by exact hfind))
        (hsame 0), hothers, hsame]
      exact concluded (by exact ⟨hquiet.1, by dsimp only; split <;> exact hquiet.2⟩)
  · intro old before after hfull hown hinv hrole habsent hold hother holdest hfilter hb ha
    have hfind : s0.findPeer st = none := findPeer_eq_none (by exact habsent)
    have hnone := find?_station_none hb ha
    obtain ⟨c, hevict, hcover, hsilent, hlive⟩ :=
      evictFor_of_none (s := s0) (p := peerOfClaim st f s0.clock.tickCount) (old := old) hrole
    have hcreated : createPeer (peerOfClaim st f s0.clock.tickCount) s0
        = evictFor (peerOfClaim st f s0.clock.tickCount) old s0 := by
      rw [createPeer_full_own (by exact hfull) (by rw [isOwnCircuit_eq (by exact hg)]; exact beq_iff_eq.2 hown.symm),
        evictee_eq (old := old) (by exact hg) (by exact hinv) (by exact hold) hother (by exact holdest)]
    have hpeers : insertPeer (peerOfClaim st f s0.clock.tickCount) (dropPeer old.station s0.clock.peers)
        = before ++ peerOfClaim st f s.clock.tickCount :: after := by
      rw [show dropPeer old.station s0.clock.peers = before ++ after from hfilter]
      exact insertPeer_eq _ (by exact ha) (by exact hb)
    have hothers : othersOn g st (before ++ after) = othersOn g st s.clock.peers := by
      rw [← hfilter]
      refine othersOn_drop fun q hq hst => ?_
      obtain ⟨-, hord, -, -⟩ := hinv
      have hdiff : (s.clock.peers.map Peer.station).Nodup :=
        List.pairwise_map.2 (hord.imp fun h heq => absurd h (by simp [heq]))
      have hq : q = old := List.inj_on_of_nodup_map hdiff hq hold hst
      exact hq ▸ hother
    rw [hpeers] at hevict
    have hclaim := applyClaim_created (st := st) (f := f)
      (u := { s0 with
        clock := { s.clock with
          peers := before ++ peerOfClaim st f s.clock.tickCount :: after
          counters := { s.clock.counters with peersEvicted := satInc s.clock.counters.peersEvicted } }
        cover := c }) (by exact htests) (by exact hg) rfl hnone
    rw [hothers] at hclaim
    rw [hexec, claimPeer_of_none hfind, hcreated, hevict]
    refine ⟨_, congrArg Host.Outcome.next ((congrArg conclude hclaim).trans (conclude_of_quiet ?_)), rfl, hcover, hsilent,
      hlive⟩
    exact ⟨hquiet.1, by dsimp only; split <;> exact hquiet.2⟩

end Sys2Proof.Machine
end


section
/-! SUPPORT. The verdict on the own CLAIM and the purposes a grant reaches: the readback, the start of a call, the role and
homing. -/

namespace Sys2Proof.Machine

/-! ### One call held -/

theorem updateCall_single {s : State} {r : CallRecord} (h : s.store.calls = [r]) (f : CallRecord → CallRecord) :
    updateCall r.callId f s = { s with store := { s.store with calls := [f r] } } := by
  simp [updateCall, h]

theorem findCall_only {s : State} {r : CallRecord} (h : s.store.calls = [r]) : s.findCall r.callId = some r := by
  rw [findCall_single h, if_pos rfl]

theorem findLanding_none {s : State} (h : s.landing.records = []) (id : Word16) : s.findLanding id = none := by
  simp [State.findLanding, h]

theorem landingTiming_of_none {s : State} {id : Word16} (h : s.findLanding id = none) : s.landingTiming id = none := by
  simp [State.landingTiming, h]

theorem adoptedLead_of_none {s : State} {id : Word16} (h : s.findLanding id = none) : s.adoptedLead id = none := by
  simp [State.adoptedLead, h]

/-! ### The start of a segment (R86, R95, R96) -/

theorem mandatoryStretch_of_ok {g : Figures} {v : Travel} {d r : Nat} (h : checksOk g v d r = true) :
    mandatoryStretch g v d r = ⟨d, r, 0⟩ := by
  obtain ⟨hv, ha⟩ := Bool.and_eq_true_iff.1 h
  rw [mandatoryStretch, stretchVelocity, if_pos hv]
  exact if_pos ha

/-- A segment that passes its checks within the grant starts as it is asked for. -/
theorem fitSegment_fits {g : Figures} {e n : Nat} {v : Travel} {d r : Nat} (h : checksOk g v d r = true)
    (hfit : g.baseClaim + segmentClaim g v d r + e ≤ n) :
    fitSegment g e n v d r = ⟨.fits, d, r, segmentClaim g v d r, 0⟩ := by
  unfold fitSegment
  dsimp only
  rw [mandatoryStretch_of_ok h]
  exact if_pos (decide_eq_true hfit)

theorem countFit_fits {a : SegmentAsk} {d r w : Nat} {k : PlannerCounters} (ha : a.timing.capped = 0)
    (hk : k.ceiling ≤ 65535) : countFit a ⟨.fits, d, r, w, 0⟩ k = k := by
  unfold countFit
  rw [ha]
  exact congrArg (fun n => ({ k with ceiling := n } : PlannerCounters)) (satAdd_zero hk)

/-- A segment that fits what it asks for starts from the commanded position (R82, R96). -/
theorem runSegment_fits {s : State} {g : Figures} {r : CallRecord} {seg : PoolSegment} {pl : Plan} {a : SegmentAsk}
    (hg : s.station.figures = some g) (hplan : r.plan = some pl) (hask : segmentAsk s r seg = a)
    (ha : a.timing.capped = 0)
    (hok : checksOk g (travel s.planner.pan s.planner.tilt a.pan a.tilt) a.timing.d a.timing.r = true)
    (hfit : g.baseClaim + segmentClaim g (travel s.planner.pan s.planner.tilt a.pan a.tilt) a.timing.d a.timing.r
      + pl.emitterTerm ≤ s.power.granted) (hceiling : s.planner.counters.ceiling ≤ 65535) :
    runSegment r seg s =
      { s with
        planner := { s.planner with
          motion := some ⟨s.planner.pan, s.planner.tilt, a.pan, a.tilt, a.timing.d, a.timing.r, 0,
            segmentClaim g (travel s.planner.pan s.planner.tilt a.pan a.tilt) a.timing.d a.timing.r, .call r.callId⟩ }
        aim := { s.aim with counters := countAim a.cls s.aim.counters }
        landing := { s.landing with
          counters := countLanding s r.callId ⟨.fits, a.timing.d, a.timing.r,
            segmentClaim g (travel s.planner.pan s.planner.tilt a.pan a.tilt) a.timing.d a.timing.r, 0⟩
            s.landing.counters } } := by
  have hfits : fitAsk s r a = ⟨.fits, a.timing.d, a.timing.r,
      segmentClaim g (travel s.planner.pan s.planner.tilt a.pan a.tilt) a.timing.d a.timing.r, 0⟩ := by
    rw [fitAsk, fig_eq hg, hplan]
    exact fitSegment_fits hok hfit
  unfold runSegment
  dsimp only
  rw [hask, hfits, countFit_fits ha hceiling]
  rfl

theorem countLanding_none {s : State} {id : Word16} (h : s.findLanding id = none) (f : Fit) (k : LandingCounters) :
    countLanding s id f k = k := by
  unfold countLanding
  rw [landingTiming_of_none h, adoptedLead_of_none h]
  rfl

theorem segmentAsk_planned {s : State} {r : CallRecord} {seg : PoolSegment} {pl : Plan} {sp : SegPlan}
    (hplan : r.plan = some pl) (hseg : pl.segs[seg.index]? = some sp) :
    segmentAsk s r seg = plannedAsk sp (s.landingTiming r.callId) := by
  simp [segmentAsk, hplan, hseg]

/-- A planned segment that fits, with no landing record, starts and touches the planner alone (R96). -/
theorem runSegment_planned {s : State} {g : Figures} {r : CallRecord} {seg : PoolSegment} {pl : Plan} {sp : SegPlan}
    (hg : s.station.figures = some g) (hplan : r.plan = some pl) (hseg : pl.segs[seg.index]? = some sp)
    (hland : s.landing.records = [])
    (hok : checksOk g (travel s.planner.pan s.planner.tilt sp.endPan sp.endTilt) sp.d sp.r = true)
    (hfit : g.baseClaim + segmentClaim g (travel s.planner.pan s.planner.tilt sp.endPan sp.endTilt) sp.d sp.r
      + pl.emitterTerm ≤ s.power.granted) (hceiling : s.planner.counters.ceiling ≤ 65535) :
    runSegment r seg s =
      { s with planner := { s.planner with
          motion := some ⟨s.planner.pan, s.planner.tilt, sp.endPan, sp.endTilt, sp.d, sp.r, 0,
            segmentClaim g (travel s.planner.pan s.planner.tilt sp.endPan sp.endTilt) sp.d sp.r, .call r.callId⟩ } } := by
  have hnone := findLanding_none hland r.callId
  have hask : segmentAsk s r seg = ⟨sp.endPan, sp.endTilt, .solved, ⟨sp.d, sp.r, 0⟩⟩ := by
    rw [segmentAsk_planned hplan hseg, landingTiming_of_none hnone]
    rfl
  rw [runSegment_fits hg hplan hask rfl hok hfit hceiling, countLanding_none hnone]
  rfl

theorem beginNext_single {s : State} {r : CallRecord} {seg : PoolSegment} (h : s.store.calls = [r])
    (hq : firstQueued r.chain = some seg) :
    beginNext r.callId s = runSegment r seg
      { s with store := { s.store with
          calls := [{ r with chain := activate seg.index (liveSegments (consumeActive r.chain)) }]
          poolFree := s.store.poolFree + (r.chain.length - (liveSegments (consumeActive r.chain)).length) } } := by
  unfold beginNext
  rw [findCall_only h]
  dsimp only
  rw [hq]
  unfold activateSegment
  dsimp only
  rw [updateCall_single h]

theorem beginNext_none {s : State} {r : CallRecord} (h : s.store.calls = [r]) (hq : firstQueued r.chain = none) :
    beginNext r.callId s = s := by
  unfold beginNext
  rw [findCall_only h]
  dsimp only
  rw [hq]

/-! ### The start of a call (R52, R58, R95) -/

theorem endIfComplete_stays {s : State} {r : CallRecord} (h : s.store.calls = [r])
    (hstays : (r.state == .running && r.motionDone && !s.fadingFor (.call r.callId)) = false) :
    endIfComplete r.callId s = s := by
  unfold endIfComplete
  rw [findCall_only h]
  exact if_neg (by rw [hstays]; exact Bool.false_ne_true)

/-- A call of one planned segment and no colour starts: its segment is under way (R95). -/
theorem startCall_move {s : State} {g : Figures} {r : CallRecord} {seg : PoolSegment} {pl : Plan} {sp : SegPlan}
    (h : s.store.calls = [r]) (hg : s.station.figures = some g) (hland : s.landing.records = []) (hmode : r.mode = .angles)
    (hcolour : r.colour = none) (hchain : r.chain = [seg]) (hqueued : seg.state = .queued) (hindex : seg.index = 0)
    (hplan : r.plan = some pl) (hsegs : pl.segs = [sp])
    (hok : checksOk g (travel s.planner.pan s.planner.tilt sp.endPan sp.endTilt) sp.d sp.r = true)
    (hfit : g.baseClaim + segmentClaim g (travel s.planner.pan s.planner.tilt sp.endPan sp.endTilt) sp.d sp.r
      + pl.emitterTerm ≤ s.power.granted) (hceiling : s.planner.counters.ceiling ≤ 65535) :
    startCall r.callId s =
      { s with
        store := { s.store with
          calls := [{ r with state := .running, waitStart := none, chain := [{ seg with state := .active }] }] }
        planner := { s.planner with
          motion := some ⟨s.planner.pan, s.planner.tilt, sp.endPan, sp.endTilt, sp.d, sp.r, 0,
            segmentClaim g (travel s.planner.pan s.planner.tilt sp.endPan sp.endTilt) sp.d sp.r, .call r.callId⟩ } } := by
  let r1 : CallRecord := { r with state := .running, waitStart := none }
  let s1 : State := { s with store := { s.store with calls := [r1] } }
  have hfirst : firstQueued r1.chain = some seg := by simp [firstQueued, r1, hchain, hqueued]
  have hlive : liveSegments (consumeActive r1.chain) = [seg] := by
    simp [liveSegments, consumeActive, r1, hchain, hqueued]
  have hbegin := beginNext_single (s := s1) rfl hfirst
  rw [hlive, show r1.chain.length = 1 by simp [r1, hchain]] at hbegin
  have hrun := runSegment_planned (r := r1) (seg := seg) (sp := sp)
    (s := { s1 with store := { s1.store with
      calls := [{ r1 with chain := activate seg.index [seg] }], poolFree := s1.store.poolFree + (1 - [seg].length) } })
    hg hplan (by rw [hsegs, hindex]; rfl) hland hok hfit hceiling
  unfold startCall
  rw [findCall_only h]
  dsimp only
  rw [updateCall_single h]
  have hfade : startCallFade r s1 = s1 := by
    unfold startCallFade
    rw [hcolour]
  show endIfComplete r.callId (beginNext r1.callId (startCallFade r s1)) = _
  rw [hfade, hbegin, hrun]
  have hactive : activate seg.index [seg] = [{ seg with state := .active }] := by simp [activate]
  rw [hactive]
  refine (endIfComplete_stays (r := { r1 with chain := [{ seg with state := .active }] }) rfl ?_).trans rfl
  simp [CallRecord.motionDone, r1, hmode]

/-- A COLOUR call starts: its fade is under way at the plan's dim scale (R95, R160). -/
theorem startCall_colour {s : State} {g : Figures} {r : CallRecord} {k : ColourPart} {pl : Plan}
    (h : s.store.calls = [r]) (hg : s.station.figures = some g) (hcolour : r.colour = some k) (hfade : 0 < k.fade)
    (hplan : r.plan = some pl) (hchain : r.chain = []) :
    startCall r.callId s =
      { s with
        store := { s.store with calls := [{ r with state := .running, waitStart := none }] }
        colour := { s.colour with
          fade := some ⟨s.colour.levels, colourTarget g k pl.scale, k.fade, 0, false, pl.scale, .call r.callId⟩ } } := by
  let r1 : CallRecord := { r with state := .running, waitStart := none }
  let s1 : State := { s with store := { s.store with calls := [r1] } }
  have hf : s1.fig = g := fig_eq hg
  have hlit : startCallFade r s1 = { s1 with colour := { s.colour with
      fade := some ⟨s.colour.levels, colourTarget g k pl.scale, k.fade, 0, false, pl.scale, .call r.callId⟩ } } := by
    unfold startCallFade
    rw [hcolour]
    show startColour k ((r.plan.map Plan.scale).getD Config.fullScale) (.call r.callId) s1 = _
    rw [hplan, startColour, hf]
    exact if_neg (by omega)
  unfold startCall
  rw [findCall_only h]
  dsimp only
  rw [updateCall_single h]
  show endIfComplete r1.callId (beginNext r1.callId (startCallFade r s1)) = _
  rw [hlit, beginNext_none (r := r1) rfl (by simp [firstQueued, r1, hchain])]
  refine endIfComplete_stays (r := r1) rfl ?_
  simp [State.fadingFor, r1]

/-! ### Telling a grant (R103, R116) -/

theorem settle_told (n : Nat) {s : State} {x : Notice} {rest : List Notice} (ha : s.power.abandoned = false)
    (hn : s.notices = x :: rest) :
    settle (n + 1) s = settle n (lowerFrom s (tell x { s with notices := rest })) := by
  rw [settle, if_neg (by rw [ha]; exact Bool.false_ne_true), hn]

/-- With nothing deferred nothing asks again (R103). -/
theorem rearm_of_none {s : State} (hr : s.power.round = none) (hd : s.power.deferred = []) : rearm s = s := by
  unfold rearm
  rw [hr]
  show s.power.deferred.foldl _ ({ s with power := { s.power with deferred := [] } } : State) = s
  rw [hd]
  exact congrArg (fun d => ({ s with power := { s.power with deferred := d } } : State)) hd.symm

/-- The close of an event that has granted a round: the purpose is told, no call ends, and nothing asks again. -/
theorem conclude_granted {u t : State} {p : Purpose} {w : Nat} (hquiet : Quiet u)
    (htell : tellGrant p w
        { u with power := { u.power with round := none, reclaim := none }, notices := [.rearm] }
      = { t with notices := [.rearm] })
    (hround : t.power.round = none) (hdef : t.power.deferred = []) (ht : Quiet t)
    (hcalls : t.store.calls.length = u.store.calls.length) : conclude (closeGranted w p u) = t := by
  have hclose : closeGranted w p u =
      { u with power := { u.power with round := none, reclaim := none }, notices := [.granted p w, .rearm] } := by
    unfold closeGranted
    rw [hquiet.1]
    rfl
  have hback : ({ t with notices := [] } : State) = t := by rw [← ht.1]
  have hsettle : settle settleFuel (closeGranted w p u) = t := by
    rw [hclose]
    show settle (254 + 1 + 1) _ = t
    rw [settle_told _ (by exact hquiet.2) rfl]
    show settle (254 + 1) (lowerFrom _ (tellGrant p w
      { u with power := { u.power with round := none, reclaim := none }, notices := [.rearm] })) = t
    rw [htell, lowerFrom_of_kept (by exact hcalls.ge), settle_told _ (by exact ht.2) rfl]
    show settle 254 (lowerFrom _ (rearm { t with notices := [] })) = t
    rw [hback, rearm_of_none hround hdef, lowerFrom_of_kept (by exact le_refl _)]
    exact settle_of_quiet _ ht
  unfold conclude
  dsimp only
  rw [hsettle, if_neg (by rw [hcalls]; exact Nat.lt_irrefl _)]

/-! ### The readback of the own CLAIM (R105, R106) -/

theorem sumOthers_eq {s : State} {g : Figures} (hg : s.station.figures = some g) :
    s.sumOthers = ((s.clock.peers.filter (fun p => p.circuit == g.circuit)).map Peer.granted).sum := by
  have hpred : (fun p : Peer => s.isOwnCircuit p.circuit) = fun p => p.circuit == g.circuit := by
    funext p
    rw [isOwnCircuit_eq hg, Bool.beq_comm]
  rw [State.sumOthers, hpred]

/-- The readback with the link connected: the frame is counted sent, and the claim is tested. -/
theorem transmissionSuccess_claim {s : State} {st : Byte} {f : ClaimFields}
    (hline : s.link.lineState = .arbitrating ∨ s.link.lineState = .sending) (htx : s.link.txFrame = some ⟨st, .claim f⟩)
    (hwf : Frame.wf ⟨st, .claim f⟩ = true) (hlost : s.link.linkLost = false) :
    exec .transmissionSuccess s = .next (conclude (ownClaimReadback f
      { s with link := sentLink (lineLevels (Frame.bytes ⟨st, .claim f⟩)) s.link })) := by
  have hok : Payload.fieldsOk (.claim f) = true := (Bool.and_eq_true_iff.1 (Bool.and_eq_true_iff.1 hwf).1).2
  rw [transmissionSuccess_of_onLine htx (onLine_of_attempt hline), readback_of_claim hok, sent_of_connected _ hlost]

theorem carriesRound_eq {f : ClaimFields} {r : Round} (hw : r.awaiting = false) (hh : r.held = false)
    (hreq : r.request = f.requested.toNat) (hcode : r.reason.code = f.reason.toNat) : carriesRound f r = true := by
  simp [carriesRound, hw, hh, hreq, hcode]

section

variable {s : State} {g : Figures} {f : ClaimFields} {r : Round} (hsolo : s.power.solo = none)
  (hg : s.station.figures = some g) (hround : s.power.round = some r) (hcarries : carriesRound f r = true)
include hsolo hg hround hcarries

theorem ownClaimReadback_granted_of (h : f.requested.toNat ≤ s.power.granted
      ∨ f.requested.toNat + ((s.clock.peers.filter (fun p => p.circuit == g.circuit)).map Peer.granted).sum ≤ g.budget) :
    ownClaimReadback f s =
      closeGranted r.request r.purpose { s with power := { s.power with granted := f.requested.toNat } } := by
  have hclaim : claimGranted g.budget s.sumOthers s.power.granted f.requested.toNat = true := by
    rw [sumOthers_eq hg]
    simpa [claimGranted] using h
  unfold ownClaimReadback settleRound
  rw [if_neg (by simp [State.soloOn, hsolo]), fig_eq hg, if_pos hclaim]
  show (match s.power.round with
    | none => _
    | some r => _) = _
  rw [hround]
  exact if_pos hcarries

theorem ownClaimReadback_refused_of (h : ¬(f.requested.toNat ≤ s.power.granted
      ∨ f.requested.toNat + ((s.clock.peers.filter (fun p => p.circuit == g.circuit)).map Peer.granted).sum ≤ g.budget)) :
    ownClaimReadback f s =
      { s with
        power := { s.power with
          round := some { r with awaiting := true }
          reclaim := some 200
          counters := { s.power.counters with ownRefused := satInc s.power.counters.ownRefused } } } := by
  have hclaim : ¬claimGranted g.budget s.sumOthers s.power.granted f.requested.toNat = true := by
    rw [sumOthers_eq hg]
    simpa [claimGranted] using h
  unfold ownClaimReadback settleRound
  rw [if_neg (by simp [State.soloOn, hsolo]), fig_eq hg, if_neg hclaim]
  show (match s.power.round with
    | none => _
    | some r => _) = _
  rw [hround]
  exact if_pos hcarries

end

/-- The OPEN round an own CLAIM carries, as the readback finds it. -/
structure Carried (s : State) (g : Figures) (f : ClaimFields) (r : Round) : Prop where
  quiet : Quiet s
  solo : s.power.solo = none
  deferred : s.power.deferred = []
  figures : s.station.figures = some g
  round : s.power.round = some r
  carries : carriesRound f r = true
  request : r.request = f.requested.toNat

/-- The claim test of an own CLAIM (R105). -/
def GrantsOwn (s : State) (g : Figures) (f : ClaimFields) : Prop :=
  f.requested.toNat ≤ s.power.granted
    ∨ f.requested.toNat + ((s.clock.peers.filter (fun p => p.circuit == g.circuit)).map Peer.granted).sum ≤ g.budget

theorem readback_refused {s : State} {g : Figures} {f : ClaimFields} {r : Round} (h : Carried s g f r)
    (hno : ¬GrantsOwn s g f) :
    conclude (ownClaimReadback f s) =
      { s with
        power := { s.power with
          round := some { r with awaiting := true }
          reclaim := some 200
          counters := { s.power.counters with ownRefused := satInc s.power.counters.ownRefused } } } := by
  rw [ownClaimReadback_refused_of h.solo h.figures h.round h.carries hno]
  exact conclude_of_quiet (by exact h.quiet)

/-- A granted claim is the own granted claim, its round is NONE, and its purpose is told. -/
theorem readback_granted {s t : State} {g : Figures} {f : ClaimFields} {r : Round} (h : Carried s g f r)
    (hyes : GrantsOwn s g f)
    (htell : tellGrant r.purpose f.requested.toNat
        { s with
          power := { s.power with granted := f.requested.toNat, round := none, reclaim := none }, notices := [.rearm] }
      = { t with notices := [.rearm] })
    (hround : t.power.round = none) (hdef : t.power.deferred = []) (ht : Quiet t)
    (hcalls : t.store.calls.length = s.store.calls.length) : conclude (ownClaimReadback f s) = t := by
  rw [ownClaimReadback_granted_of h.solo h.figures h.round h.carries hyes, h.request]
  exact conclude_granted (by exact h.quiet) (by exact htell) hround hdef ht (by exact hcalls)

/-- Settles O16: the verdict of the claim test, for an OPEN round of a lowering. -/
theorem ownClaimReadback_verdict : Obligations.OwnClaimReadback := by
  intro s g st f r hquiet hline htx hwf hlost hsolo hdef hg hround hwait hheld hpurpose hreq hcode
  let s0 : State := { s with link := sentLink (lineLevels (Frame.bytes ⟨st, .claim f⟩)) s.link }
  have hcarried : Carried s0 g f r := ⟨hquiet, hsolo, hdef, hg, hround, carriesRound_eq hwait hheld hreq hcode, hreq⟩
  have hexec := transmissionSuccess_claim hline htx hwf hlost
  by_cases hyes : GrantsOwn s0 g f
  · have hread := readback_granted (t := { s0 with
      power := { s.power with granted := f.requested.toNat, round := none, reclaim := none } }) hcarried hyes
      (by rw [hpurpose]; rfl) rfl hdef (by exact hquiet) rfl
    refine ⟨_, hexec.trans (congrArg Host.Outcome.next hread), fun _ => ⟨rfl, rfl, rfl⟩, fun h => absurd hyes h, ?_⟩
    exact ⟨rfl, rfl, rfl, rfl, rfl, rfl, rfl, rfl, rfl⟩
  · have hread := readback_refused hcarried hyes
    refine ⟨_, hexec.trans (congrArg Host.Outcome.next hread), fun h => absurd h hyes, fun _ => ⟨rfl, rfl, rfl, rfl⟩, ?_⟩
    exact ⟨rfl, rfl, rfl, rfl, rfl, rfl, rfl, rfl, rfl⟩

/-! ### What a grant does by its purpose (R106, R116) -/

theorem grantCall_claiming {s : State} {c : CallRecord} (h : s.store.calls = [c]) (hc : c.state = .claiming) :
    grantCall c.callId s = offerLanding c.callId { s with store := { s.store with calls := [{ c with state := .planned }] } } := by
  unfold grantCall
  rw [findCall_only h]
  dsimp only
  rw [hc, updateCall_single h]

theorem grantCall_waiting {s : State} {c : CallRecord} (h : s.store.calls = [c]) (hc : c.state = .waiting) :
    grantCall c.callId s = startCall c.callId s := by
  unfold grantCall
  rw [findCall_only h]
  dsimp only
  rw [hc]

theorem offerLanding_none {s : State} (h : s.landing.records = []) (id : Word16) : offerLanding id s = s := by
  unfold offerLanding
  rw [findLanding_none h]

/-- The test of R129 at a grant: a group call whose plan lands later than asked offers. -/
theorem offerLanding_single {s : State} {l : LandingRecord} {id : Word16} {grp d lead : Nat}
    (hrec : s.landing.records = [l]) (hid : l.callId = id) (hphase : l.phase = .opened) (hd : l.requestedD = some d)
    (hlead : l.plannedLead = some lead) (hgrp : ∀ x, l.scope = .group x → x = grp)
    (hroom : HasRoom (.offer ⟨id, BitVec.ofNat 8 grp, l.goTime + BitVec.ofNat 32 lead⟩) s.link.queue) :
    offerLanding id s =
      if l.scope = .group grp ∧ d < lead then
        { s with
          landing := { s.landing with
            counters := { s.landing.counters with offersMade := satInc s.landing.counters.offersMade } }
          link := { s.link with
            queue := queued (.offer ⟨id, BitVec.ofNat 8 grp, l.goTime + BitVec.ofNat 32 lead⟩) s.link.queue } }
      else s := by
  have hfind : s.findLanding id = some l := by rw [findLanding_single hrec, if_pos hid]
  unfold offerLanding
  rw [hfind]
  dsimp only
  rw [hd, hlead]
  cases hscope : l.scope with
  | station x => exact (if_neg (by simp)).symm
  | group x =>
    obtain rfl := hgrp x hscope
    by_cases hlt : d < lead
    · rw [if_pos ⟨rfl, hlt⟩]
      refine (if_pos (by simp [hphase, hlt])).trans ?_
      rw [show offerFrame l x lead = ⟨id, BitVec.ofNat 8 x, l.goTime + BitVec.ofNat 32 lead⟩ by rw [← hid]; rfl]
      exact offer_room (by exact hroom)
    · rw [if_neg (fun h => hlt h.2)]
      exact if_neg (by simp [hlt])

theorem grantRole_claiming {s : State} {ro : Role} (h : s.cover.role = some ro) (hphase : ro.phase = .claiming) (w : Nat) :
    grantRole w s = { s with cover := { s.cover with role := some { ro with phase := .candidate, claim := w } } } := by
  unfold grantRole
  rw [h]
  exact if_pos (by rw [hphase]; rfl)

/-- The entry to HOMING from the last encoder words, or where the head is believed to stand (R174, R188). -/
theorem enterHoming_eq {s : State} {g : Figures} (hg : s.station.figures = some g) :
    enterHoming s =
      { s with
        link := (enterHoming s).link
        clock := { s.clock with beaconTimer := some 200 }
        planner := { s.planner with
          pan := clampInt g.panMin g.panMax ((s.drive.lastEncoders.map Prod.fst).getD s.planner.pan)
          tilt := clampInt g.tiltMin g.tiltMax ((s.drive.lastEncoders.map Prod.snd).getD s.planner.tilt) }
        drive := { s.drive with axesOn := true, homing := some 0 }
        station := { s.station with mode := .homing, statusAsserted := false } } := by
  have hseed : seedPosition s = { s with planner := { s.planner with
      pan := clampInt g.panMin g.panMax ((s.drive.lastEncoders.map Prod.fst).getD s.planner.pan)
      tilt := clampInt g.tiltMin g.tiltMax ((s.drive.lastEncoders.map Prod.snd).getD s.planner.tilt) } } := by
    unfold seedPosition
    rw [fig_eq hg]
    cases s.drive.lastEncoders <;> rfl
  unfold enterHoming
  dsimp only
  rw [hseed]
  conv_lhs => rw [setMode_eq]
  rfl

/-- Settles O13: the readback decides, and each purpose makes its move in the telling of the grant. -/
theorem roundsReachTheirPurpose : Obligations.RoundsReachTheirPurpose := by
  intro s g st f r hquiet hline htx hwf hlost hsolo hdef hg hround hwait hheld hreq hcode w granted power
  let s0 : State := { s with link := sentLink (lineLevels (Frame.bytes ⟨st, .claim f⟩)) s.link }
  have hcarried : Carried s0 g f r := ⟨hquiet, hsolo, hdef, hg, hround, carriesRound_eq hwait hheld hreq hcode, hreq⟩
  let told : State := { s0 with power := power, notices := [.rearm] }
  have hgrant {t : State} (hyes : granted) (htell : tellGrant r.purpose w told = { t with notices := [.rearm] })
      (ht : t.power = power) (hn : t.notices = []) (hcalls : t.store.calls.length = s.store.calls.length) :
      conclude (ownClaimReadback f s0) = t :=
    readback_granted hcarried hyes htell (by rw [ht]) (by rw [ht]; exact hdef) ⟨hn, by rw [ht]; exact hquiet.2⟩ hcalls
  refine ⟨_, transmissionSuccess_claim hline htx hwf hlost, fun hno => ?_, fun c hyes hp hcalls hc hland => ?_,
    fun c l grp d lead n rest hyes hp hcalls hc hland hid hphase hd hlead hqueue => ?_,
    fun c k pl hyes hp hcalls hc hmode hk hfade hplan hchain => ?_,
    fun c seg pl sp hyes hp hcalls hland hc hmode hk hchain hseg hindex hplan hsegs => ?_,
    fun ro hyes hp hrole hphase => ?_, fun hyes hp hmode => ?_⟩
  · show conclude (ownClaimReadback f s0) = _
    rw [readback_refused hcarried hno]
  · have h := hgrant (t := { s0 with power := power, store := { s.store with calls := [{ c with state := .planned }] } }) hyes
      (by
        rw [hp]
        exact (grantCall_claiming (s := told) hcalls hc).trans (offerLanding_none (by exact hland) c.callId))
      rfl hquiet.1 (by rw [hcalls]; rfl)
    show conclude (ownClaimReadback f s0) = _
    rw [h]
  · intro body k offers hgrp hroom
    have hlink : s0.link.queue = rest := congrArg LinkState.queue
      (sentLink_eq ⟨st, .claim f⟩ (before := []) (after := rest) hqueue (by simp) rfl)
    have hoffer := offerLanding_single (id := c.callId)
      (s := { told with store := { s.store with calls := [{ c with state := .planned }] } })
      hland hid hphase hd hlead hgrp (by exact hlink.symm ▸ hroom)
    have hcall := (grantCall_claiming (s := told) hcalls hc).trans hoffer
    by_cases hoffers : l.scope = .group grp ∧ d < lead
    · have h := hgrant (t := { s0 with
          power := power
          store := { s.store with calls := [{ c with state := .planned }] }
          landing := { s.landing with counters := { k with offersMade := satInc k.offersMade } }
          link := { s0.link with queue := queued body s0.link.queue } }) hyes
        (by
          rw [hp]
          exact hcall.trans (if_pos hoffers))
        rfl hquiet.1 (by rw [hcalls]; rfl)
      have hyes : offers = true := decide_eq_true hoffers
      show conclude (ownClaimReadback f s0) = _ ∧ (conclude (ownClaimReadback f s0)).link.queue = _
      rw [h, hyes, ← hlink]
      exact ⟨rfl, rfl⟩
    · have h := hgrant (t := { s0 with
          power := power, store := { s.store with calls := [{ c with state := .planned }] } }) hyes
        (by
          rw [hp]
          exact hcall.trans (if_neg hoffers))
        rfl hquiet.1 (by rw [hcalls]; rfl)
      have hno : offers = false := decide_eq_false hoffers
      show conclude (ownClaimReadback f s0) = _ ∧ (conclude (ownClaimReadback f s0)).link.queue = _
      rw [h, hno]
      exact ⟨rfl, hlink⟩
  · have h := hgrant (t := { s0 with
        power := power
        store := { s.store with calls := [{ c with state := .running, waitStart := none }] }
        colour := { s.colour with
          fade := some ⟨s.colour.levels, colourTarget g k pl.scale, k.fade, 0, false, pl.scale, .call c.callId⟩ } }) hyes
      (by
        rw [hp]
        exact (grantCall_waiting (s := told) hcalls hc).trans (startCall_colour (s := told) hcalls hg hk hfade hplan hchain))
      rfl hquiet.1 (by rw [hcalls]; rfl)
    show conclude (ownClaimReadback f s0) = _
    rw [h]
  · intro v hok hfit hceiling
    have hstart := startCall_move (s := told) hcalls hg hland hmode hk hchain hseg hindex hplan hsegs hok hfit hceiling
    have h := hgrant (t := { s0 with
        power := power
        store := { s.store with
          calls := [{ c with state := .running, waitStart := none, chain := [{ seg with state := .active }] }] }
        planner := { s.planner with
          motion := some ⟨s.planner.pan, s.planner.tilt, sp.endPan, sp.endTilt, sp.d, sp.r, 0,
            segmentClaim g v sp.d sp.r, .call c.callId⟩ } }) hyes
      (by
        rw [hp]
        exact (grantCall_waiting (s := told) hcalls hc).trans hstart)
      rfl hquiet.1 (by rw [hcalls]; rfl)
    show conclude (ownClaimReadback f s0) = _
    rw [h]
  · have h := hgrant (t := { s0 with
        power := power
        cover := { s.cover with role := some { ro with phase := .candidate, claim := w } } }) hyes
      (by
        rw [hp]
        exact grantRole_claiming (s := told) hrole hphase w)
      rfl hquiet.1 rfl
    show conclude (ownClaimReadback f s0) = _
    rw [h]
  · have h := hgrant (t := { s0 with
        power := power
        link := (enterHoming told).link
        clock := { s.clock with beaconTimer := some 200 }
        planner := { s.planner with
          pan := clampInt g.panMin g.panMax ((s.drive.lastEncoders.map Prod.fst).getD s.planner.pan)
          tilt := clampInt g.tiltMin g.tiltMax ((s.drive.lastEncoders.map Prod.snd).getD s.planner.tilt) }
        drive := { s.drive with axesOn := true, homing := some 0 }
        station := { s.station with mode := .homing, statusAsserted := false } }) hyes
      (by
        rw [hp]
        exact (if_pos hmode).trans (enterHoming_eq (s := told) hg))
      rfl hquiet.1 rfl
    show conclude (ownClaimReadback f s0) = _
    rw [h]

end Sys2Proof.Machine
end


section
/-! SUPPORT. What planning and the close of an event leave of the blocks, outside solo mode and in it. -/

namespace Sys2Proof.Machine

/-! ### What planning leaves (R50, R91, R103) -/

/-- What planning a call, withdrawing one and asking for a claim leave: the blocks other than the store, the aim counters, the
planner counters, the power share, the landing records and the transmit queue, and outside solo mode the own granted claim with
nothing told. -/
structure Plans (s t : State) : Prop where
  station : t.station = s.station
  clock : t.clock = s.clock
  colour : t.colour = s.colour
  drive : t.drive = s.drive
  cover : t.cover = s.cover
  pending : t.pending = s.pending
  pan : t.planner.pan = s.planner.pan
  tilt : t.planner.tilt = s.planner.tilt
  motion : t.planner.motion = s.planner.motion
  solo : t.power.solo = s.power.solo
  poolFree : t.store.poolFree = s.store.poolFree
  counters : t.store.counters = s.store.counters
  intake : t.store.intake = s.store.intake
  landingCounters : t.landing.counters = s.landing.counters
  linkLost : t.link.linkLost = s.link.linkLost
  silent : s.power.solo = none → t.notices = s.notices ∧ t.power.granted = s.power.granted

theorem Plans.refl (s : State) : Plans s s := ⟨rfl, rfl, rfl, rfl, rfl, rfl, rfl, rfl, rfl, rfl, rfl, rfl, rfl, rfl, rfl,
    fun _ => ⟨rfl, rfl⟩⟩

theorem Plans.trans {s t u : State} (h : Plans s t) (k : Plans t u) : Plans s u where
  station := k.station.trans h.station
  clock := k.clock.trans h.clock
  colour := k.colour.trans h.colour
  drive := k.drive.trans h.drive
  cover := k.cover.trans h.cover
  pending := k.pending.trans h.pending
  pan := k.pan.trans h.pan
  tilt := k.tilt.trans h.tilt
  motion := k.motion.trans h.motion
  solo := k.solo.trans h.solo
  poolFree := k.poolFree.trans h.poolFree
  counters := k.counters.trans h.counters
  intake := k.intake.trans h.intake
  landingCounters := k.landingCounters.trans h.landingCounters
  linkLost := k.linkLost.trans h.linkLost
  silent hs := ⟨(k.silent (h.solo.trans hs)).1.trans (h.silent hs).1, (k.silent (h.solo.trans hs)).2.trans (h.silent hs).2⟩

theorem offer_claim_cover (f : ClaimFields) (s : State) : (offer (.claim f) s).cover = s.cover := by
  unfold offer
  split
  · rfl
  · exact claimDropped_cover f _

/-- A request stands for no abandoned round (R115). -/
theorem request_abandoned (w : Nat) (r : Reason) (p : Purpose) (s : State) : (request w r p s).power.abandoned = false := by
  unfold request decideLocally openRound
  dsimp only
  split
  · split <;> rfl
  · split
    · rfl
    · rw [offer_power_abandoned]

theorem request_cover (w : Nat) (r : Reason) (p : Purpose) (s : State) : (request w r p s).cover = s.cover := by
  unfold request decideLocally openRound
  dsimp only
  split
  · split <;> rfl
  · split
    · rfl
    · exact offer_claim_cover _ _

theorem offer_claim_landing (f : ClaimFields) (s : State) : (offer (.claim f) s).landing = s.landing := by
  unfold offer
  split
  · rfl
  · exact claimDropped_landing f _

theorem request_landing (w : Nat) (r : Reason) (p : Purpose) (s : State) : (request w r p s).landing = s.landing := by
  unfold request decideLocally openRound
  dsimp only
  split
  · split <;> rfl
  · split
    · rfl
    · exact offer_claim_landing _ _

theorem request_plans (w : Nat) (r : Reason) (p : Purpose) (s : State) : Plans s (request w r p s) where
  station := by simp
  clock := by simp
  colour := by simp
  drive := by simp
  cover := request_cover w r p s
  pending := by simp
  pan := by simp
  tilt := by simp
  motion := by simp
  solo := by simp
  poolFree := by simp
  counters := by simp
  intake := by simp
  landingCounters := by rw [request_landing]
  linkLost := linkLost_of_lineBase (request_lineBase w r p s)
  silent h := request_solo_off w r p h

theorem freshen_plans (s : State) : Plans s (freshen s) := by
  unfold freshen
  split
  · exact request_plans _ _ _ s
  · exact .refl s

theorem recordPlan_plans (id : Word16) (pl : Plan) (cap : Nat) (s : State) : Plans s (recordPlan id pl cap s) :=
  Plans.trans (t := { updateLanding id (fun r => { r with plannedLead := pl.segs.head?.map SegPlan.d })
      (updateCall id (fun r => { r with plan := some pl, state := r.state.onPlan }) s) with
    planner := { s.planner with counters := countPlan pl.step cap s.planner.counters } })
    ⟨rfl, rfl, rfl, rfl, rfl, rfl, rfl, rfl, rfl, rfl, rfl, rfl, rfl, rfl, rfl, fun _ => ⟨rfl, rfl⟩⟩ (request_plans _ _ _ _)

theorem planCall_plans (id : Word16) (s : State) : Plans s (planCall id s) := by
  unfold planCall
  split
  · exact .refl s
  next r _ =>
    exact Plans.trans (t := { s with aim := { s.aim with counters := (endsOf s.fig s.aim.pose r.mode s.planner.pan
        s.planner.tilt r.chain s.aim.counters).2 } })
      ⟨rfl, rfl, rfl, rfl, rfl, rfl, rfl, rfl, rfl, rfl, rfl, rfl, rfl, rfl, rfl, fun _ => ⟨rfl, rfl⟩⟩ (recordPlan_plans _ _ _ _)

theorem replanCall_plans (id : Word16) (s : State) : Plans s (replanCall id s) := by
  unfold replanCall
  split
  · exact .refl s
  · split
    · exact .refl s
    · exact recordPlan_plans _ _ _ s

theorem endPurpose_plans (p : Purpose) (s : State) : Plans s (endPurpose p s) := by
  unfold endPurpose
  dsimp only
  split
  · exact ⟨rfl, rfl, rfl, rfl, rfl, rfl, rfl, rfl, rfl, rfl, rfl, rfl, rfl, rfl, rfl, fun _ => ⟨rfl, rfl⟩⟩
  · split <;> exact ⟨rfl, rfl, rfl, rfl, rfl, rfl, rfl, rfl, rfl, rfl, rfl, rfl, rfl, rfl, rfl, fun _ => ⟨rfl, rfl⟩⟩

theorem withdrawCall_plans (id : Word16) (s : State) : Plans s (withdrawCall id s) :=
  Plans.trans (t := updateLanding id (fun r => { r with plannedLead := none })
      (updateCall id (fun r => { r with plan := none, state := .pending }) s))
    ⟨rfl, rfl, rfl, rfl, rfl, rfl, rfl, rfl, rfl, rfl, rfl, rfl, rfl, rfl, rfl, fun _ => ⟨rfl, rfl⟩⟩ (endPurpose_plans _ _)

theorem foldl_plans {α : Type} {f : State → α → State} (h : ∀ s a, Plans s (f s a)) :
    ∀ (l : List α) (s : State), Plans s (l.foldl f s) := by
  intro l
  induction l with
  | nil => exact Plans.refl
  | cons a l ih => exact fun s => (h s a).trans (ih (f s a))

theorem withdrawOthers_plans (id : Word16) (s : State) : Plans s (withdrawOthers id s) :=
  foldl_plans (fun s i => withdrawCall_plans i s) _ s

theorem review_plans (s : State) : Plans s (review s) := by
  unfold review
  split
  · exact .refl s
  · split
    · exact .refl s
    · dsimp only
      split
      · exact (withdrawOthers_plans _ s).trans (planCall_plans _ _)
      · exact withdrawOthers_plans _ s

theorem planAgain_plans (s : State) : Plans s (planAgain s) := foldl_plans (fun s id => planCall_plans id s) _ s

/-- Outside solo mode, with nothing to tell, the close of an event gives an abandoned round its fresh figure and no more
(R115). -/
theorem conclude_of_silent {s : State} (hn : s.notices = []) (hs : s.power.solo = none) : conclude s = freshen s := by
  cases ha : s.power.abandoned with
  | false =>
    have hsame : freshen s = s := by
      unfold freshen
      rw [ha]
      exact if_neg Bool.false_ne_true
    rw [conclude_of_quiet ⟨hn, ha⟩, hsame]
  | true =>
    have hquiet : Quiet (freshen s) := by
      refine ⟨((freshen_plans s).silent hs).1.trans hn, ?_⟩
      unfold freshen
      rw [if_pos ha]
      exact request_abandoned _ _ _ _
    have hsettle : settle settleFuel s = freshen s := by
      show settle (255 + 1) s = _
      rw [settle, if_pos ha]
      exact settle_of_quiet _ hquiet
    unfold conclude
    dsimp only
    rw [hsettle]
    exact if_neg (by simp)

theorem closeEvent_plans {s : State} (hn : s.notices = []) (hs : s.power.solo = none) : Plans s (closeEvent s) := by
  have h := review_plans s
  rw [closeEvent, conclude_of_silent ((h.silent hs).1.trans hn) (h.solo.trans hs)]
  exact h.trans (freshen_plans _)

/-! ### The station through the close of an event (R184) -/

theorem beginNext_station (id : Word16) (s : State) : (beginNext id s).station = s.station := by
  unfold beginNext
  split
  · rfl
  · split <;> rfl

theorem startCall_station (id : Word16) (s : State) : (startCall id s).station = s.station := by
  have hfade (r : CallRecord) (u : State) : (startCallFade r u).station = u.station := by
    unfold startCallFade
    split
    · rfl
    · exact startFade_station ..
  unfold startCall
  split
  · rfl
  · rcases endIfComplete_cases id (beginNext id (startCallFade _ (updateCall id _ s))) with h | h <;> rw [h]
    · rw [beginNext_station, hfade, updateCall_station]
    · rw [endCall_station, beginNext_station, hfade, updateCall_station]

theorem offerLanding_station (id : Word16) (s : State) : (offerLanding id s).station = s.station := by
  unfold offerLanding
  split
  · rfl
  · split
    · split
      · exact offer_station _ _
      · rfl
    · rfl
    · rfl
    · rfl

theorem grantCall_station (id : Word16) (s : State) : (grantCall id s).station = s.station := by
  unfold grantCall
  split
  · rfl
  · split
    · rw [offerLanding_station, updateCall_station]
    · exact startCall_station id s
    · rfl
    · rfl
    · rfl
    · rfl

theorem grantRole_station (w : Nat) (s : State) : (grantRole w s).station = s.station := by
  unfold grantRole
  split
  · rfl
  · split <;> rfl

/-- A grant moves the station mode out of STARTING alone (R188). -/
theorem tellGrant_station (p : Purpose) (w : Nat) {s : State} (h : s.station.mode ≠ .starting) :
    (tellGrant p w s).station = s.station := by
  cases p with
  | homing => exact congrArg State.station (if_neg h)
  | follow => exact grantRole_station w s
  | lowering => rfl
  | move id => exact grantCall_station id s

theorem askFollow_plans (s : State) : Plans s (askFollow s) := by
  unfold askFollow
  split
  · exact .refl s
  · exact request_plans _ _ _ s

theorem askAgain_plans (p : Purpose) (s : State) : Plans s (askAgain p s) := by
  cases p with
  | homing =>
    unfold askAgain
    dsimp only
    split
    · exact request_plans _ _ _ s
    · exact .refl s
  | follow =>
    unfold askAgain
    dsimp only
    split
    · exact .refl s
    · split
      · exact askFollow_plans s
      · exact .refl s
  | lowering => exact .refl s
  | move id =>
    unfold askAgain
    dsimp only
    split
    · exact .refl s
    · split
      · exact replanCall_plans id s
      · exact .refl s

theorem rearm_plans (s : State) : Plans s (rearm s) := by
  unfold rearm
  split
  · exact .refl s
  · exact Plans.trans (t := { s with power := { s.power with deferred := [] } })
      ⟨rfl, rfl, rfl, rfl, rfl, rfl, rfl, rfl, rfl, rfl, rfl, rfl, rfl, rfl, rfl, fun _ => ⟨rfl, rfl⟩⟩
      (foldl_plans (fun s p => askAgain_plans p s) _ _)

theorem tell_station (x : Notice) {s : State} (h : s.station.mode ≠ .starting) : (tell x s).station = s.station := by
  cases x with
  | granted p w => exact tellGrant_station p w h
  | rearm => exact (rearm_plans s).station

theorem settle_station (n : Nat) : ∀ {s : State}, s.station.mode ≠ .starting → (settle n s).station = s.station := by
  induction n with
  | zero => exact fun _ => rfl
  | succ n ih =>
    intro s h
    unfold settle
    split
    · have hf := (freshen_plans s).station
      rw [ih (by rw [hf]; exact h), hf]
    · split
      · rfl
      next x rest _ =>
        have ht : (tell x { s with notices := rest }).station = s.station := tell_station x (by exact h)
        have hl : (lowerFrom s (tell x { s with notices := rest })).station = s.station := by
          rcases lowerFrom_eq s (tell x { s with notices := rest }) with hl | hl <;> rw [hl]
          · exact ht
          · rw [lowerAfterEnd_station, ht]
        rw [ih (by rw [hl]; exact h), hl]

theorem conclude_station {s : State} (h : s.station.mode ≠ .starting) : (conclude s).station = s.station := by
  have hs := settle_station settleFuel h
  unfold conclude
  dsimp only
  split
  · have hr := (review_plans (settle settleFuel s)).station.trans hs
    rw [settle_station settleFuel (by rw [hr]; exact h), hr]
  · exact hs

theorem closeEvent_station {s : State} (h : s.station.mode ≠ .starting) : (closeEvent s).station = s.station := by
  have hr := (review_plans s).station
  rw [closeEvent, conclude_station (by rw [hr]; exact h), hr]

theorem endCalls_station (o : CallOutcome) (ids : List Word16) (s : State) : (endCalls o ids s).station = s.station :=
  endCalls_induction (P := fun u => u.station = s.station) o (fun id u h => (endCall_station id o u).trans h) ids s rfl

/-- READY or another mode to ISOLATED: fault code 9 and the status line RELEASED (R189, R192). -/
theorem enterIsolated_station (s : State) :
    (enterIsolated s).station = { s.station with mode := .isolated, faultCode := 9, statusAsserted := false } := by
  have hmode : (isolatedMode s).station = { s.station with mode := .isolated, faultCode := 9, statusAsserted := false } := by
    rw [isolatedMode, setMode_eq]
    rfl
  have hsolo (u : State) : (enterSolo u).station = u.station := by
    unfold enterSolo
    split <;> rfl
  have hplan : (planAgain (soloEntered s)).station
      = { s.station with mode := .isolated, faultCode := 9, statusAsserted := false } := by
    rw [(planAgain_plans _).station, soloEntered, hsolo]
    exact (endCalls_station _ _ _).trans hmode
  exact (closeEvent_station (s := planAgain (soloEntered s)) (by rw [hplan]; simp)).trans hplan

/-! ### The loss of the link (R20, R120, R189) -/

/-- With no call held nothing is planned again and no call is next. -/
theorem enterIsolated_idle {s : State} (h : s.store.calls = []) (hn : s.notices = []) :
    enterIsolated s = enterSolo (endRound (isolatedMode s)) := by
  have hcalls : (isolatedMode s).store.calls = [] := by rw [isolatedMode, setMode_store]; exact h
  have hids (p : CallRecord → Bool) {u : State} (hu : u.store.calls = []) : u.callIds p = [] := by simp [State.callIds, hu]
  have hsolo : (enterSolo (endRound (isolatedMode s))).store.calls = [] := by
    unfold enterSolo
    split <;> exact hcalls
  have hquiet : Quiet (enterSolo (endRound (isolatedMode s))) := by
    have hnotices : (isolatedMode s).notices = [] := (setMode_notices _ _).trans hn
    unfold enterSolo
    split <;> exact ⟨hnotices, rfl⟩
  have hnext : (enterSolo (endRound (isolatedMode s))).nextCall = none := by simp [State.nextCall, hsolo]
  unfold enterIsolated
  dsimp only
  rw [hids _ hcalls]
  show closeEvent (planAgain (enterSolo (endRound (isolatedMode s)))) = _
  rw [planAgain, hids _ hsolo]
  exact closeEvent_of_none hquiet hnext

theorem isolatedMode_eq (s : State) :
    isolatedMode s =
      { s with
        station := { s.station with mode := .isolated, faultCode := 9, statusAsserted := false }
        link := (isolatedMode s).link
        clock := (isolatedMode s).clock } := by
  unfold isolatedMode
  conv_lhs => rw [setMode_eq]
  rw [setMode_eq]
  rfl

theorem stillEstimate_eq {s : State} {g : Figures} (hg : s.station.figures = some g) (haxes : s.drive.axesOn = true)
    (hgranted : 0 < s.power.granted) (hfade : s.colour.fade = none) :
    s.stillEstimate = g.baseClaim + (g.pan.hold + g.tilt.hold) + emitterClaim g.emitterWatts s.colour.levels := by
  unfold State.stillEstimate
  rw [fig_eq hg, ColourState.bound, hfade]
  exact if_pos (by rw [State.axisEnable, haxes]; exact decide_eq_true hgranted)

theorem enterSolo_fits {s : State} (h : s.stillEstimate ≤ s.fig.soloAllowance) :
    enterSolo s = { s with power := { s.power with granted := s.stillEstimate, solo := some 0 } } := if_pos h

theorem enterSolo_dims {s : State} (h : s.fig.soloAllowance < s.stillEstimate) :
    enterSolo s =
      { s with
        power := { s.power with
          granted := s.fig.soloAllowance
          solo := some (soloStep s.fig s.colour.levels)
          counters := { s.power.counters with soloDims := satInc s.power.counters.soloDims } }
        colour := { s.colour with
          levels := scaleLevels (dimScale (soloStep s.fig s.colour.levels)) s.colour.levels } } :=
  if_neg (Nat.not_le.2 h)

theorem setLinkLost_eq {s : State} (h : s.link.linkLost = false) :
    setLinkLost s =
      { s with link := { s.link with
          linkLost := true
          receiveMark := false
          sendMark := false
          counters := { s.link.counters with linkLostCount := satInc s.link.counters.linkLostCount } } } := by
  unfold setLinkLost
  exact if_neg (by simp [h])

/-- A loss of the link in READY with no call held: the change of mode, no round, and the solo claim (R117, R118). -/
theorem loseLink_idle {s : State} (hline : s.link.lineState ≠ .off) (hmode : s.station.mode = .ready)
    (hlost : s.link.linkLost = false) (hcalls : s.store.calls = [])
    (hquiet : Quiet s) :
    ∃ (k : LinkState) (c : ClockState), conclude (loseLink s) = enterSolo
        { s with
          station := { s.station with mode := .isolated, faultCode := 9, statusAsserted := false }
          link := k
          clock := c
          power := { s.power with round := none, reclaim := none, deferred := [], abandoned := false } }
      ∧ k.linkLost = true := by
  obtain ⟨u, hu⟩ : ∃ u : State, u = setLinkLost s := ⟨_, rfl⟩
  have hset := hu.trans (setLinkLost_eq hlost)
  have hidle : enterIsolated u = enterSolo (endRound (isolatedMode u)) :=
    enterIsolated_idle (by rw [hset]; exact hcalls) (by rw [hset]; exact hquiet.1)
  have hlink : (isolatedMode u).link.linkLost = true := by
    refine (linkLost_of_lineBase (s := { u with station.faultCode := 9 })
      (setMode_lineBase (m := .isolated) (s := { u with station.faultCode := 9 }) rfl (by rw [hset]; exact hline))).trans
        (by rw [hset])
  refine ⟨_, (isolatedMode u).clock, ?_, hlink⟩
  have hisolated : isolatedMode u =
      { s with
        station := { s.station with mode := .isolated, faultCode := 9, statusAsserted := false }
        link := (isolatedMode u).link
        clock := (isolatedMode u).clock } := (isolatedMode_eq u).trans (by rw [hset])
  rw [loseLink_of_ready hlost hmode, ← hu, conclude_of_quiet (enterIsolated_quiet u), hidle]
  exact congrArg enterSolo (congrArg endRound hisolated)

/-- Settles O18: the claim of the station on its own, as it stands or by the least dim step that comes within the allowance. -/
theorem linkLossIsolates : Obligations.LinkLossIsolates := by
  intro s g hquiet hline hmode hlost hg hcalls hrole hfade haxes hgranted
  obtain ⟨k, c, hidle, hlink⟩ := loseLink_idle
    (s := { s with link := { s.link with dominantRun := 2000, recessiveRun := 0 } }) hline hmode hlost hcalls hquiet
  obtain ⟨v, hv⟩ : ∃ v : State, v = { s with
      station := { s.station with mode := .isolated, faultCode := 9, statusAsserted := false }
      link := k
      clock := c
      power := { s.power with round := none, reclaim := none, deferred := [], abandoned := false } } := ⟨_, rfl⟩
  have hstill := stillEstimate_eq (s := v) (g := g) (by rw [hv]; exact hg) (by rw [hv]; exact haxes) (by rw [hv]; exact hgranted)
    (by rw [hv]; exact hfade)
  have hfig : v.fig = g := fig_eq (by rw [hv]; exact hg)
  have hcolour : v.colour = s.colour := by rw [hv]
  have hcounters : v.power.counters = s.power.counters := by rw [hv]
  have hplanner : v.planner = s.planner := by rw [hv]
  have hdrive : v.drive = s.drive := by rw [hv]
  have hpending : v.pending = s.pending := by rw [hv]
  have hisolated : v.station.mode = .isolated ∧ v.station.faultCode = 9 ∧ v.station.statusAsserted = false := by
    rw [hv]
    exact ⟨rfl, rfl, rfl⟩
  have hround : v.power.round = none := by rw [hv]
  have hlost : v.link.linkLost = true := by rw [hv]; exact hlink
  obtain ⟨hisolated, hcode, hreleased⟩ := hisolated
  have hexec : exec .stuckLine s = .next (enterSolo v) := by
    rw [hv]
    exact congrArg Host.Outcome.next ((if_neg hline).trans hidle)
  rw [hcolour] at hstill
  obtain ⟨still, hdraw⟩ : ∃ n : Nat, n = g.baseClaim + (g.pan.hold + g.tilt.hold) + emitterClaim g.emitterWatts s.colour.levels :=
    ⟨_, rfl⟩
  rw [← hdraw] at hstill ⊢
  rcases le_or_gt v.stillEstimate v.fig.soloAllowance with hfits | habove
  · rw [enterSolo_fits hfits, hstill] at hexec
    rw [hstill, hfig] at hfits
    exact ⟨_, hexec, hisolated, hcode, hreleased, hlost, hround, rfl, (Nat.min_eq_left hfits).symm,
      fun _ => ⟨rfl, hcolour, hcounters⟩, fun m habove => absurd hfits (Nat.not_le.2 habove), hplanner, hdrive, hpending⟩
  · rw [enterSolo_dims habove, hfig, hcolour, hcounters] at hexec
    rw [hstill, hfig] at habove
    refine ⟨_, hexec, hisolated, hcode, hreleased, hlost, hround, rfl, (Nat.min_eq_right habove.le).symm,
      fun hfits => absurd hfits (Nat.not_le.2 habove), fun m _ hm1 hm16 hfit hleast => ?_, hplanner, hdrive, hpending⟩
    have hstep : soloStep g s.colour.levels = m := by
      have h := leastFrom_eq (p := fun m => decide (soloClaim g s.colour.levels m ≤ g.soloAllowance)) (d := m)
        (decide_eq_true hfit) 16 1 hm1 (Nat.lt_succ_of_le hm16) fun x hx1 hxm => decide_eq_false (Nat.not_le.2 (hleast x hx1 hxm))
      unfold soloStep
      exact congrArg (fun o : Option Nat => o.getD Config.maxDim) h
    rw [hstep]
    exact ⟨rfl, rfl, rfl⟩

/-! ### Drops (R16, R18, R20, R112) -/

/-- The fourth clash, with no newer payload, drops the entry (R18). -/
theorem queueClash_dropped {after : List TxEntry} {e : TxEntry} (he : e.inFlight = true) (hn : e.next = none)
    (ha : e.attempts = 3) {before : List TxEntry} (h : ∀ x ∈ before, x.inFlight = false) :
      queueClash (before ++ e :: after) = (before ++ after, some e.body) := by
  induction before with
  | nil => simp [queueClash, he, hn, ha, Config.maxAttempts]
  | cons x before ih =>
    have ih := ih fun y hy => h y (List.mem_cons_of_mem _ hy)
    have hx : x.inFlight = false := h x List.mem_cons_self
    simp [queueClash, hx, ih]

theorem claimDropped_carried {f : ClaimFields} {r : Round} {s : State} (h : s.power.round = some r)
    (hw : r.awaiting = false) (hh : r.held = false) (hreq : r.request = f.requested.toNat)
    (hcode : r.reason.code = f.reason.toNat) :
    claimDropped f s =
      { s with
        power := { s.power with
          round := some { r with awaiting := true }
          reclaim := some 200
          counters := { s.power.counters with claimsDropped := satInc s.power.counters.claimsDropped } } } := by
  unfold claimDropped
  rw [h]
  exact if_pos (by simp [hw, hh, hreq, hcode])

theorem toldDrop_link (b : TxBody) (s : State) : (toldDrop b s).link = s.link := by
  cases b with
  | claim f => exact claimDropped_link f s
  | _ => rfl

theorem toldDrop_of_other {b : TxBody} (h : ∀ f, b ≠ .claim f) (s : State) : (toldDrop b s).power = s.power := by
  cases b with
  | claim f => exact absurd rfl (h f)
  | _ => rfl

/-- A CLASH that drops its entry: the link controller, then what the drop does. -/
theorem clash_drops {s : State} {fr : Frame} {p : Nat} {before after : List TxEntry} {e : TxEntry}
    (hline : s.link.lineState = .arbitrating ∨ s.link.lineState = .sending) (htx : s.link.txFrame = some fr)
    (hp : p < (lineLevels fr.bytes).length) (hb : ¬(arbitrationBit p = true ∧ (lineLevels fr.bytes)[p]? = some true))
    (hqueue : s.link.queue = before ++ e :: after) (hbefore : ∀ x ∈ before, x.inFlight = false)
    (he : e.inFlight = true) (hn : e.next = none) (ha : e.attempts = 3) :
    exec (.clash p) s = .next (conclude (afterDrop e.body
      { s with link := { fallToReceiving fr p s.link with
        queue := before ++ after
        counters := { s.link.counters with clash := satInc s.link.counters.clash } } })) := by
  have hq := queueClash_dropped (after := after) he hn ha hbefore
  rw [← hqueue] at hq
  have hclash : clashAt fr p s = conclude (afterDrop e.body { s with link := clashLink fr p (before ++ after) s.link }) := by
    unfold clashAt
    dsimp only
    rw [hq]
  rw [clash_of_onLine (onLine_of_attempt hline) htx hp hb, hclash, clashLink_eq]

/-- A drop that does not bring the count of failures to 8 tells the offering block and no more (R16, R20). -/
theorem afterDrop_of_below {b : TxBody} {s : State} (h : ¬(s.link.failures < 8 ∧ min 8 (s.link.failures + 1) = 8)) :
    afterDrop b s = toldDrop b (countDrop s) := by
  unfold afterDrop
  dsimp only
  rw [toldDrop_link]
  exact if_neg h

/-- The drop that brings the count of failures to 8 loses the link (R20). -/
theorem afterDrop_of_eighth {b : TxBody} {s : State} (h : s.link.failures = 7) :
    afterDrop b s = loseLink (toldDrop b (countDrop s)) := by
  unfold afterDrop
  dsimp only
  rw [toldDrop_link]
  exact if_pos ⟨h.trans_lt (by decide), (congrArg (fun n => min 8 (n + 1)) h :)⟩

/-- Settles O15: the entry leaves the queue, the drop is counted, and the power share unit is told where it was a CLAIM. -/
theorem fourthClashDrops : Obligations.FourthClashDrops := by
  intro s fr p before after e hquiet hline htx hp hb hqueue hbefore he hn ha hfail
  let s1 : State := { s with link := { fallToReceiving fr p s.link with
    queue := before ++ after
    counters := { s.link.counters with clash := satInc s.link.counters.clash } } }
  have hquiet1 : Quiet (toldDrop e.body (countDrop s1)) :=
    ⟨(toldDrop_notices _ _).trans hquiet.1, (toldDrop_power_abandoned _ _).trans hquiet.2⟩
  have hexec := clash_drops hline htx hp hb hqueue hbefore he hn ha
  have hbelow : min 8 (s.link.failures + 1) = s.link.failures + 1 := Nat.min_eq_right (Nat.succ_le_succ hfail.le)
  have hstays : ¬(s1.link.failures < 8 ∧ min 8 (s1.link.failures + 1) = 8) := fun h =>
    absurd (hbelow.symm.trans h.2) (Nat.succ_lt_succ hfail).ne
  rw [afterDrop_of_below hstays] at hexec
  refine ⟨_, hexec.trans (congrArg Host.Outcome.next (conclude_of_quiet hquiet1)), ?_⟩
  rw [toldDrop_link]
  refine ⟨rfl, hbelow, rfl, rfl, rfl, fun f r hbody hround hw hh hreq hcode => ?_,
    fun hother => toldDrop_of_other hother _, by rw [toldDrop_clock]; rfl, by rw [toldDrop_store]; rfl,
    by rw [toldDrop_planner]; rfl, by rw [toldDrop_colour]; rfl, by rw [toldDrop_drive]; rfl, by rw [toldDrop_station]; rfl,
    by rw [toldDrop_pending]; rfl⟩
  rw [hbody]
  have htold : toldDrop (.claim f) (countDrop s1) = _ := claimDropped_carried (s := countDrop s1) hround hw hh hreq hcode
  rw [htold]
  exact ⟨rfl, rfl, rfl⟩

/-! ### The marks that end the condition (R22) -/

/-- A frame of another station at a line that listens: the receive mark, the peer-entry stage, its blocks (R12, R22). -/
theorem receiveFrame_of_listening {fr : Frame} {act : State → State} {s : State} (h : Listening fr s) (hwf : fr.wf = true)
    (hown : fr.station ≠ s.station.ownStation) : receiveFrame fr act s = conclude (act (handed fr s)) := by
  have hr : s.receives fr.bytes none = true := by simp [State.receives, h.1, h.2]
  unfold receiveFrame
  rw [if_pos hr, verdictOf_wf hwf hown]
  rfl

theorem checkMarks_of_one {s : State} (h : s.link.sendMark = false ∨ s.link.receiveMark = false) : checkMarks s = s := by
  unfold checkMarks
  rcases h with h | h
  · exact if_neg (by simp [h])
  · exact if_neg (by simp [h])

theorem checkMarks_of_both {s : State} (hl : s.link.linkLost = true) (hr : s.link.receiveMark = true)
    (hs : s.link.sendMark = true) :
    checkMarks s =
      (if s.station.mode = .isolated then
        leaveIsolated { s with link := { s.link with linkLost := false, receiveMark := false, sendMark := false } }
      else { s with link := { s.link with linkLost := false, receiveMark := false, sendMark := false } }) := by
  unfold checkMarks
  exact if_pos (by simp [hl, hr, hs])

/-- The marks of a frame heard, before they are tested (R22). -/
theorem markReceive_eq (fr : Frame) (s : State) :
    markReceive (countReceived (lineLevels fr.bytes) s) = checkMarks { s with link := arrivedLink fr s.link } := by
  refine congrArg checkMarks ?_
  simp [countReceived, toWaitIdle, arrivedLink]

theorem readbackOwn_report (st : Byte) (f : ReportFields) (s : State) :
    ∃ k : LinkCounters, readbackOwn ⟨st, .report f⟩ s = { s with link := { s.link with counters := k } } := by
  unfold readbackOwn
  split
  · exact ⟨s.link.counters, rfl⟩
  · exact ⟨_, rfl⟩

/-- A table whose one call is not to be planned stands through the review (R50). -/
theorem review_single {s : State} {c : CallRecord} (h : s.store.calls = [c]) (hp : c.plannable = false) : review s = s := by
  unfold review
  split
  · rfl
  · split
    · rfl
    next r hr =>
      have hmem : r ∈ s.store.calls := List.mem_of_find?_eq_some hr
      obtain rfl : r = c := by simpa [h] using hmem
      have hothers : withdrawOthers r.callId s = s := by simp [withdrawOthers, h, CallRecord.outOfTurn]
      dsimp only
      rw [hothers]
      exact if_neg (by simp [hp])

/-! ### Leaving solo mode (R118, R122) -/

/-- ISOLATED to READY with no round that waits: the change of mode, then the close of the event. -/
theorem leaveIsolated_of_none {s : State} (h : s.power.round = none) : leaveIsolated s = closeEvent (soloLeft s) := by
  have hround : (soloLeft s).power.round = none := by
    show (setMode .ready _).power.round = none
    rw [setMode_power]
    exact h
  have hwait : endWaitNow (soloLeft s) = soloLeft s := by
    unfold endWaitNow
    rw [hround]
  show closeEvent (endWaitNow (soloLeft s)) = _
  rw [hwait]

theorem drawEstimate_eq {s : State} {g : Figures} (hg : s.station.figures = some g) (hmode : s.station.mode = .isolated)
    (haxes : s.drive.axesOn = true) (hgranted : 0 < s.power.granted) (hmotion : s.planner.motion = none)
    (hfade : s.colour.fade = none) :
    s.drawEstimate =
      g.baseClaim + (if s.roleGranted then g.followAllowance else g.pan.hold + g.tilt.hold)
        + emitterClaim g.emitterWatts s.colour.levels := by
  have hterm : s.motionTerm = if s.roleGranted then g.followAllowance else g.pan.hold + g.tilt.hold := by
    unfold State.motionTerm
    rw [fig_eq hg, if_neg (by rw [hmode]; decide), hmotion]
    rfl
  unfold State.drawEstimate
  rw [fig_eq hg, hterm, ColourState.bound, hfade]
  exact if_pos (by rw [State.axisEnable, haxes]; exact decide_eq_true hgranted)

theorem soloLeaveClaim_idle {s : State} {draw : Nat} (hp : s.heldPlanClaims = []) (hf : s.heldFollowClaim = 0)
    (hd : s.drawEstimate = draw) : s.soloLeaveClaim = draw := by
  rw [State.soloLeaveClaim, hp, hf, hd]
  exact Nat.max_zero draw

theorem soloLeaveClaim_planned {s : State} {draw c : Nat} (hp : s.heldPlanClaims = [c]) (hf : s.heldFollowClaim = 0)
    (hd : s.drawEstimate = draw) : s.soloLeaveClaim = max draw c := by
  rw [State.soloLeaveClaim, hp, hf, hd, Nat.max_zero]
  rfl

theorem soloLeaveClaim_follow {s : State} {draw c : Nat} (hp : s.heldPlanClaims = [0]) (hf : s.heldFollowClaim = c)
    (hd : s.drawEstimate = draw) : s.soloLeaveClaim = max draw c := by
  rw [State.soloLeaveClaim, hp, hf, hd]
  exact Nat.max_zero (max draw c)

theorem failures_of_lineBase {s t : State} (h : t.lineBase = s.lineBase) : t.link.failures = s.link.failures :=
  congrArg (fun b : LineBase => b.link.failures) h

theorem marks_of_lineBase {s t : State} (h : t.lineBase = s.lineBase) :
    t.link.receiveMark = s.link.receiveMark ∧ t.link.sendMark = s.link.sendMark :=
  ⟨congrArg (fun b : LineBase => b.link.receiveMark) h, congrArg (fun b : LineBase => b.link.sendMark) h⟩

/-- The loss of the link in any mode, told (R20, R189). -/
theorem loseLink_told {s : State} (hline : s.link.lineState ≠ .off) (hlost : s.link.linkLost = false) (hquiet : Quiet s) :
    (conclude (loseLink s)).link.failures = s.link.failures ∧ (conclude (loseLink s)).link.linkLost = true
      ∧ (conclude (loseLink s)).link.counters.linkLostCount = satInc s.link.counters.linkLostCount
      ∧ (s.station.mode = .ready →
          (conclude (loseLink s)).station = { s.station with mode := .isolated, faultCode := 9, statusAsserted := false }
            ∧ (conclude (loseLink s)).power.solo.isSome = true)
      ∧ (s.station.mode ≠ .ready → conclude (loseLink s) = { s with link := (conclude (loseLink s)).link }) := by
  have hset := setLinkLost_eq hlost
  by_cases hmode : s.station.mode = .ready
  · have hbase := enterIsolated_lineBase (s := setLinkLost s) (by rw [hset]; exact hline)
    rw [loseLink_of_ready hlost hmode, conclude_of_quiet (enterIsolated_quiet _)]
    refine ⟨by rw [failures_of_lineBase hbase, hset], by rw [linkLost_of_lineBase hbase, hset],
      by rw [linkLostCount_of_lineBase hbase, hset],
      fun _ => ⟨by rw [enterIsolated_station, setLinkLost_station], enterIsolated_solo _⟩, fun h => absurd hmode h⟩
  · rw [loseLink_of_not_ready hmode, hset, conclude_of_quiet (by exact hquiet)]
    exact ⟨rfl, rfl, rfl, fun h => absurd h hmode, fun _ => rfl⟩

/-- The eighth drop loses the link, and a drop at 8 with the link lost counts no loss (R20). -/
theorem drop_at_limit (b : TxBody) {s : State} (hline : s.link.lineState ≠ .off) (hquiet : Quiet s) :
    (s.link.failures = 7 → s.link.linkLost = false →
        (conclude (afterDrop b s)).link.failures = 8 ∧ (conclude (afterDrop b s)).link.linkLost = true
          ∧ (conclude (afterDrop b s)).link.counters.linkLostCount = satInc s.link.counters.linkLostCount
          ∧ (s.station.mode = .ready →
              (conclude (afterDrop b s)).station = { s.station with mode := .isolated, faultCode := 9, statusAsserted := false }
                ∧ (conclude (afterDrop b s)).power.solo.isSome = true)
          ∧ (s.station.mode ≠ .ready → (conclude (afterDrop b s)).station = s.station
              ∧ (conclude (afterDrop b s)).store = s.store ∧ (conclude (afterDrop b s)).clock = s.clock
              ∧ (conclude (afterDrop b s)).planner = s.planner))
      ∧ (s.link.failures = 8 → s.link.linkLost = true →
          (conclude (afterDrop b s)).link.failures = 8 ∧ (conclude (afterDrop b s)).link.linkLost = true
            ∧ (conclude (afterDrop b s)).link.counters.linkLostCount = s.link.counters.linkLostCount) := by
  have hquiet' : Quiet (toldDrop b (countDrop s)) :=
    ⟨(toldDrop_notices _ _).trans hquiet.1, (toldDrop_power_abandoned _ _).trans hquiet.2⟩
  have hlink : (toldDrop b (countDrop s)).link = (countDrop s).link := toldDrop_link _ _
  have hstation : (toldDrop b (countDrop s)).station = s.station := toldDrop_station _ _
  refine ⟨fun hfail hlost => ?_, fun hfail hlost => ?_⟩
  · obtain ⟨hfailures, hset, hcount, hready, hother⟩ := loseLink_told (s := toldDrop b (countDrop s))
      (by rw [hlink]; exact hline) (by rw [hlink]; exact hlost) hquiet'
    rw [afterDrop_of_eighth hfail]
    rw [hlink] at hfailures hcount
    refine ⟨hfailures.trans ?_, hset, hcount, fun h => ?_, fun h => ?_⟩
    · exact (congrArg (fun n => min 8 (n + 1)) hfail :)
    · rw [hstation] at hready
      exact hready h
    · rw [hother (by rw [hstation]; exact h)]
      exact ⟨hstation, toldDrop_store _ _, toldDrop_clock _ _, toldDrop_planner _ _⟩
  · rw [afterDrop_of_below (fun h => h.1.ne hfail), conclude_of_quiet hquiet', hlink]
    exact ⟨(congrArg (fun n => min 8 (n + 1)) hfail :), hlost, rfl⟩

/-- A REPORT from another station: the link controller, the marks tested, the peer-entry stage (R5, R22, R31). -/
theorem report_heard {s : State} {st : Byte} {f : ReportFields} (hlisten : Listening ⟨st, .report f⟩ s)
    (hwf : Frame.wf ⟨st, .report f⟩ = true) (hown : st ≠ s.station.ownStation) :
    exec (.report st f) s = .next (conclude (refreshPeer st (checkMarks
      { s with link := arrivedLink ⟨st, .report f⟩ s.link }))) := by
  refine congrArg Host.Outcome.next ?_
  rw [receiveFrame_of_listening hlisten hwf hown, handed, markReceive_eq]
  rfl

theorem arrivedLink_of_lost (fr : Frame) {k : LinkState} (h : k.linkLost = true) :
    arrivedLink fr k = { arrivedLink fr k with linkLost := true, receiveMark := true } := by
  simp [arrivedLink, h]

theorem refreshPeer_eq (st : Byte) (s : State) :
    refreshPeer st s = { s with clock := { s.clock with peers := (refreshPeer st s).clock.peers } } := rfl

theorem leaveIsolated_quiet (s : State) : Quiet (leaveIsolated s) := closeEvent_quiet _

/-- The own REPORT read back while the link is lost: the send mark, and the end of the condition with both (R22). -/
theorem reportSent_lost {s : State} {st : Byte} {f : ReportFields} (hquiet : Quiet s)
    (hline : s.link.lineState = .arbitrating ∨ s.link.lineState = .sending)
    (htx : s.link.txFrame = some ⟨st, .report f⟩) (hlost : s.link.linkLost = true) :
    ∃ t : State, exec .transmissionSuccess s = .next t
      ∧ (s.link.receiveMark = false → t.link.linkLost = true ∧ t.link.sendMark = true ∧ t.station.mode = s.station.mode)
      ∧ (s.link.receiveMark = true → t.link.linkLost = false ∧ t.link.receiveMark = false ∧ t.link.sendMark = false
          ∧ (s.station.mode = .isolated → t.station.mode = .ready)) := by
  let u : State := { s with link := { sentLink (lineLevels (Frame.bytes ⟨st, .report f⟩)) s.link with sendMark := true } }
  have hsent : sent ⟨st, .report f⟩ s = checkMarks u := by
    unfold sent markSend
    rw [show (sentLink (lineLevels (Frame.bytes ⟨st, .report f⟩)) s.link).linkLost = true by
      rw [sentLink, passByteOne_eq]; exact hlost]
    exact congrArg checkMarks rfl
  have hmark : u.link.receiveMark = s.link.receiveMark := by
    show (sentLink (lineLevels (Frame.bytes ⟨st, .report f⟩)) s.link).receiveMark = _
    rw [sentLink, passByteOne_eq]
    rfl
  have hlost' : u.link.linkLost = true := by
    show (sentLink (lineLevels (Frame.bytes ⟨st, .report f⟩)) s.link).linkLost = true
    rw [sentLink, passByteOne_eq]
    exact hlost
  obtain ⟨k, hk⟩ := readbackOwn_report st f (checkMarks u)
  refine ⟨_, transmissionSuccess_of_onLine htx (onLine_of_attempt hline), fun hr => ?_, fun hr => ?_⟩
  · rw [hsent, hk, checkMarks_of_one (.inr (hmark.trans hr)), conclude_of_quiet (by exact hquiet)]
    exact ⟨hlost', rfl, rfl⟩
  · have hboth := checkMarks_of_both hlost' (hmark.trans hr) rfl
    rw [hsent, hk]
    by_cases hmode : s.station.mode = .isolated
    · rw [if_pos (by exact hmode)] at hboth
      have hbase := leaveIsolated_lineBase
        (s := { u with link := { u.link with linkLost := false, receiveMark := false, sendMark := false } })
        (by show LineState.waitIdle ≠ .off; decide)
      have henters := leaveIsolated_enters
        (s := { u with link := { u.link with linkLost := false, receiveMark := false, sendMark := false } })
        (by show s.station.mode ≠ .reset; rw [hmode]; decide)
      obtain ⟨hreceive, hsend⟩ := marks_of_lineBase hbase
      obtain ⟨hnotices, habandoned⟩ := leaveIsolated_quiet
        { u with link := { u.link with linkLost := false, receiveMark := false, sendMark := false } }
      rw [hboth, conclude_of_quiet (by exact ⟨hnotices, habandoned⟩)]
      exact ⟨linkLost_of_lineBase hbase, hreceive, hsend, fun _ => henters.mode⟩
    · rw [if_neg (by exact hmode)] at hboth
      rw [hboth, conclude_of_quiet (by exact hquiet)]
      exact ⟨rfl, rfl, rfl, fun h => absurd h hmode⟩

theorem soloLeft_eq (s : State) :
    soloLeft s =
      { s with
        power := { s.power with granted := s.soloLeaveClaim, solo := none }
        station := { s.station with mode := .ready, statusAsserted := false }
        link := (soloLeft s).link
        clock := { s.clock with beaconTimer := some 200 } } := by
  unfold soloLeft
  conv_lhs => rw [setMode_eq]
  rfl

/-- What the return from ISOLATED leaves, and the claim it states (R118, R122). -/
theorem leaveIsolated_plans {s : State} (hquiet : Quiet s) (hround : s.power.round = none) :
    Plans (soloLeft s) (leaveIsolated s) := by
  rw [leaveIsolated_of_none hround]
  exact closeEvent_plans (by rw [soloLeft_eq]; exact hquiet.1) (by rw [soloLeft_eq])

theorem leaveIsolated_claim {s : State} (hquiet : Quiet s) (hround : s.power.round = none) :
    (leaveIsolated s).power.granted = s.soloLeaveClaim := by
  rw [((leaveIsolated_plans hquiet hround).silent (by rw [soloLeft_eq])).2, soloLeft_eq]

/-- With one call held that is not to be planned, the return from ISOLATED is the change of mode. -/
theorem leaveIsolated_single {s : State} {c : CallRecord} (hquiet : Quiet s) (hround : s.power.round = none)
    (h : s.store.calls = [c]) (hp : c.plannable = false) : leaveIsolated s = soloLeft s := by
  rw [leaveIsolated_of_none hround, closeEvent, review_single (c := c) (by rw [soloLeft_eq]; exact h) hp]
  exact conclude_of_quiet (by rw [soloLeft_eq]; exact hquiet)

/-- Settles O14: the eighth drop, the two marks in either order, and the return from ISOLATED. -/
theorem linkLostAndRecovered : Obligations.LinkLostAndRecovered := by
  refine ⟨fun s fr p before after e hquiet hline htx hp hb hqueue hbefore he hn ha => ?_,
    fun s st f hquiet hlisten hwf hown hlost => ⟨fun hsend => ?_, fun hsend hmode => ?_⟩,
    fun s st f hquiet hline htx hlost => reportSent_lost hquiet hline htx hlost,
    fun s g st f hquiet hlisten hwf hown hlost hsend hmode hg hround hmotion hfade haxes hgranted => ?_⟩
  · have hdrop := drop_at_limit e.body (s := { s with link := { fallToReceiving fr p s.link with
        queue := before ++ after
        counters := { s.link.counters with clash := satInc s.link.counters.clash } } })
      (by show LineState.receiving ≠ .off; decide) (by exact hquiet)
    refine ⟨_, clash_drops hline htx hp hb hqueue hbefore he hn ha, fun hfail hlost => ?_, hdrop.2⟩
    obtain ⟨hfailures, hset, hcount, hready, hother⟩ := hdrop.1 hfail hlost
    refine ⟨hfailures, hset, hcount, fun h => ?_, hother⟩
    obtain ⟨hstation, hsolo⟩ := hready h
    exact ⟨congrArg _ hstation, congrArg _ hstation, congrArg _ hstation, hsolo⟩
  · rw [report_heard hlisten hwf hown, arrivedLink_of_lost _ hlost, checkMarks_of_one (by exact .inl hsend)]
    exact concluded (by exact hquiet)
  · rw [report_heard hlisten hwf hown, arrivedLink_of_lost _ hlost, checkMarks_of_both rfl rfl (by exact hsend),
      if_neg (by exact hmode)]
    exact concluded (by exact hquiet)
  · obtain ⟨v, hv⟩ : ∃ v : State, v = { s with link := { arrivedLink ⟨st, .report f⟩ s.link with
      linkLost := false, receiveMark := false, sendMark := false } } := ⟨_, rfl⟩
    have hstore : v.store = s.store := by rw [hv]
    have hcover : v.cover = s.cover := by rw [hv]
    have hpower : v.power = s.power := by rw [hv]
    have hstation : v.station = s.station := by rw [hv]
    have hcolour : v.colour = s.colour := by rw [hv]
    have hdrive : v.drive = s.drive := by rw [hv]
    have hquiet' : Quiet v := by rw [hv]; exact hquiet
    have hplans := leaveIsolated_plans (s := v) hquiet' (by rw [hpower]; exact hround)
    have hclaim := leaveIsolated_claim (s := v) hquiet' (by rw [hpower]; exact hround)
    have hdraw := drawEstimate_eq (s := v) (g := g) (by rw [hstation]; exact hg) (by rw [hstation]; exact hmode)
      (by rw [hdrive]; exact haxes) (by rw [hpower]; exact hgranted) (by rw [hv]; exact hmotion) (by rw [hcolour]; exact hfade)
    rw [hcolour] at hdraw
    have hexec : exec (.report st f) s = .next (refreshPeer st (leaveIsolated v)) := by
      rw [report_heard hlisten hwf hown, arrivedLink_of_lost _ hlost, checkMarks_of_both rfl rfl (by exact hsend),
        if_pos (by exact hmode), hv]
      exact concluded (Quiet.of_eq (leaveIsolated_quiet _) (updatePeer_notices _ _ _) (congrArg _ (updatePeer_power _ _ _)))
    obtain ⟨w, hw⟩ : ∃ w : State, w = leaveIsolated v := ⟨_, rfl⟩
    rw [← hw] at hplans hclaim hexec
    rw [refreshPeer_eq] at hexec
    have hreturned := congrArg State.station (soloLeft_eq v)
    have hlink : (soloLeft v).link.linkLost = v.link.linkLost := linkLost_of_lineBase (setMode_lineBase (m := .ready)
      (s := { v with power := { v.power with granted := v.soloLeaveClaim, solo := none } }) rfl
      (by show v.link.lineState ≠ .off; rw [hv]; show LineState.waitIdle ≠ .off; decide))
    refine ⟨_, hexec, ?_, ?_, ?_, ?_, ?_, ?_, fun hcalls hrole => ?_, fun c pl hcalls hc hplan hrole => ?_,
      fun c ro hcalls hm hc hplan hrole hphase => ?_⟩
    · rw [← hstation]
      exact hplans.station.trans hreturned
    · exact hplans.solo.trans (by rw [soloLeft_eq])
    · refine (hplans.linkLost.trans hlink).trans (by rw [hv])
    · exact (congrArg ClockState.beaconTimer hplans.clock).trans (by rw [soloLeft_eq])
    · exact (hplans.colour.trans (by rw [soloLeft_eq])).trans hcolour
    · exact (hplans.drive.trans (by rw [soloLeft_eq])).trans hdrive
    · refine hclaim.trans ?_
      have hplanned : v.heldPlanClaims = [] := by simp [State.heldPlanClaims, hstore, hcalls]
      have hfollow : v.heldFollowClaim = 0 := by simp [State.heldFollowClaim, hcover, hrole]
      rw [if_neg (by simp [State.roleGranted, hcover, hrole])] at hdraw
      exact soloLeaveClaim_idle hplanned hfollow hdraw
    · have hplanned : v.heldPlanClaims = [pl.planClaim] := by simp [State.heldPlanClaims, hstore, hcalls, hc, hplan]
      have hfollow : v.heldFollowClaim = 0 := by simp [State.heldFollowClaim, hcover, hrole]
      have hleft := leaveIsolated_single (s := v) hquiet' (by rw [hpower]; exact hround) (hstore ▸ hcalls)
        (by simp [CallRecord.plannable, hc])
      refine ⟨hclaim.trans ?_, ?_⟩
      · rw [if_neg (by simp [State.roleGranted, hcover, hrole])] at hdraw
        exact soloLeaveClaim_planned hplanned hfollow hdraw
      · show w.store = s.store
        rw [hw, hleft, soloLeft_eq]
        exact hstore
    · have hplanned : v.heldPlanClaims = [0] := by
        simp [State.heldPlanClaims, hstore, hcalls, hc, hplan, CallRecord.carriedOut]
      have hgranted : ro.phase.granted = true := by cases h : ro.phase <;> simp_all [RolePhase.granted]
      have hfollow : v.heldFollowClaim = ro.claim := by simp [State.heldFollowClaim, hcover, hrole, hgranted]
      refine ⟨hclaim.trans ?_, (hplans.cover.trans (by rw [soloLeft_eq])).trans hcover⟩
      rw [if_pos (by simp [State.roleGranted, hcover, hrole, hgranted])] at hdraw
      exact soloLeaveClaim_follow hplanned hfollow hdraw

end Sys2Proof.Machine
end


section
/-! SUPPORT. The end of the one call held with no role, its lowering, and the settled obligations about calls that end alone. -/

namespace Sys2Proof.Machine

/-! ### The lowering with no call and no role held (R59, R113, R115) -/

/-- A request outside solo mode leaves its round standing, OPEN or, its CLAIM dropped, AWAITING (R103, R112). -/
theorem request_round (w : Nat) (r : Reason) (p : Purpose) {s : State} (h : s.power.solo = none) :
    (request w r p s).power.round.map Round.purpose = some p ∧ (request w r p s).power.round.map Round.request = some w := by
  rw [request_of_solo_none w r p h]
  unfold openRound
  dsimp only
  split
  · exact ⟨rfl, rfl⟩
  · unfold offer toldDrop claimDropped
    split
    · exact ⟨rfl, rfl⟩
    · dsimp only
      split <;> exact ⟨rfl, rfl⟩

/-- With no call that runs or is PLANNED and no role, the end of an event asks once for the idle claim: by the lowering of R113, or
by the fresh figure of R115. -/
theorem freshen_lowered {s : State} (hrun : s.someRunning = false) (hplanned : s.plannedCall = none) (hrole : s.cover.role = none) :
    freshen (lowerAfterEnd s) = requestLowering s.idleClaim s := by
  have hstill : (s.someRunning || s.roleGranted) = false := by simp [State.roleGranted, hrun, hrole]
  have hlower : lowerAfterEnd s = if s.power.abandoned then s else requestLowering s.idleClaim s := by
    unfold lowerAfterEnd
    rw [hstill, hplanned]
    rfl
  rw [hlower]
  unfold freshen
  split
  next ha => rw [hstill]; rfl
  · rw [show (requestLowering s.idleClaim s).power.abandoned = false from request_abandoned _ _ _ _]
    rfl

theorem freshen_lowerAfterEnd {s : State} (hcalls : s.store.calls = []) (hrole : s.cover.role = none) :
    freshen (lowerAfterEnd s) = requestLowering s.idleClaim s :=
  freshen_lowered (by simp [State.someRunning, hcalls]) (by simp [State.plannedCall, hcalls]) hrole

theorem nextCall_of_nil {s : State} (h : s.store.calls = []) : s.nextCall = none := by simp [State.nextCall, h]

theorem review_of_nil {s : State} (h : s.store.calls = []) : review s = s := by
  unfold review
  rw [nextCall_of_nil h]
  exact ite_self s

theorem lowerAfterEnd_plans (s : State) : Plans s (lowerAfterEnd s) := by
  unfold lowerAfterEnd
  split
  · exact .refl s
  · split
    · split
      · exact .refl s
      · exact request_plans _ _ _ s
    · split
      · exact .refl s
      · exact request_plans _ _ _ s

/-- The close of an event in which the last call ended, solo mode OFF (R50, R59). -/
theorem closeEvent_ended {s : State} (hcalls : s.store.calls = []) (hrole : s.cover.role = none) (hsolo : s.power.solo = none)
    (hn : s.notices = []) : closeEvent (lowerAfterEnd s) = requestLowering s.idleClaim s := by
  have hplans := lowerAfterEnd_plans s
  rw [closeEvent, review_of_nil ((congrArg StoreState.calls (lowerAfterEnd_store s)).trans hcalls),
    conclude_of_silent ((hplans.silent hsolo).1.trans hn) (hplans.solo.trans hsolo), freshen_lowerAfterEnd hcalls hrole]

/-! ### The end of the one call held (R59) -/

theorem endPurpose_of_none {p : Purpose} {s : State} (h : s.power.round = none) :
    endPurpose p s = { s with power := { s.power with deferred := s.power.deferred.filter (fun q => q != p) } } := by
  simp [endPurpose, h]

theorem stopMotionOf_eq (o : MotionOwner) (s : State) : stopMotionOf o s = { s with planner := (stopMotionOf o s).planner } := by
  unfold stopMotionOf
  split
  · rfl
  · split <;> rfl

theorem stopFadeOf_eq (o : FadeOwner) (s : State) : stopFadeOf o s = { s with colour := (stopFadeOf o s).colour } := by
  unfold stopFadeOf
  split
  · rfl
  · split <;> rfl

/-- The stop of a fade looks at the fade alone. -/
theorem stopFadeOf_colour_congr (o : FadeOwner) {s t : State} (h : t.colour = s.colour) :
    (stopFadeOf o t).colour = (stopFadeOf o s).colour := by
  unfold stopFadeOf
  rw [h]
  split
  · exact h
  · split
    · rfl
    · exact h

/-- The end of a purpose looks at the power share unit alone, and writes it alone. -/
theorem endPurpose_eq (p : Purpose) {s t : State} (h : t.power = s.power) :
    endPurpose p t = { t with power := (endPurpose p s).power } := by
  unfold endPurpose
  rw [h]
  dsimp only
  split
  · rfl
  · split <;> rfl

/-- The one call held ends, the follow role NONE: what it owned stops, its landing record goes, its segments are free (R59). -/
def endedAlone (r : CallRecord) (o : CallOutcome) (s : State) : State :=
  { s with
    store := { s.store with
      calls := []
      poolFree := s.store.poolFree + r.chain.length
      counters := countOutcome o s.store.counters }
    planner := (stopMotionOf (.call r.callId) s).planner
    power := (endPurpose (.move r.callId) s).power
    landing := { s.landing with records := s.landing.records.filter (fun l => l.callId != r.callId) }
    colour := (stopFadeOf (.call r.callId) s).colour }

theorem endCall_single {s : State} {r : CallRecord} (o : CallOutcome) (h : s.store.calls = [r]) (hrole : s.cover.role = none) :
    endCall r.callId o s = endedAlone r o s := by
  have hnorole : endRoleOf r.callId s = s := by
    unfold endRoleOf
    rw [hrole]
  have hfilter : s.store.calls.filter (fun c => c.callId != r.callId) = [] := by simp [h]
  have hstill := stopMotionOf_eq (.call r.callId) s
  have hdark := (stopFadeOf_eq (.call r.callId) (stopMotionOf (.call r.callId) s)).trans
    (congrArg (fun c => { stopMotionOf (.call r.callId) s with colour := c })
      (stopFadeOf_colour_congr (.call r.callId) (stopMotionOf_colour (.call r.callId) s)))
  rw [hstill] at hdark
  unfold endCall
  rw [findCall_only h]
  dsimp only
  rw [hnorole, hstill, hdark]
  refine (endPurpose_eq _ (s := s) (by rfl)).trans ?_
  unfold endedAlone removeLanding dropRecord
  dsimp only
  rw [hfilter]

/-- What the end of the one call held leaves, its lowering made: outside solo mode a round stands for the idle claim (R59, R113). -/
structure LoweredAfter (r : CallRecord) (o : CallOutcome) (s t : State) : Prop where
  store : t.store = { s.store with
    calls := []
    poolFree := s.store.poolFree + r.chain.length
    counters := countOutcome o s.store.counters }
  planner : t.planner = (stopMotionOf (.call r.callId) s).planner
  colour : t.colour = (stopFadeOf (.call r.callId) s).colour
  granted : t.power.granted = s.power.granted
  purpose : t.power.round.map Round.purpose = some .lowering
  figure : t.power.round.map Round.request = some s.idleClaim
  cover : t.cover = s.cover
  clock : t.clock = s.clock
  drive : t.drive = s.drive
  station : t.station = s.station
  pending : t.pending = s.pending

theorem idleClaim_congr {s t : State} (h : t.station = s.station) (hl : t.colour.levels = s.colour.levels) :
    t.idleClaim = s.idleClaim := by
  simp only [State.idleClaim, State.fig, h, hl]

theorem closeEvent_endCall_single {s : State} {r : CallRecord} (o : CallOutcome) (hn : s.notices = []) (h : s.store.calls = [r])
    (hrole : s.cover.role = none) (hsolo : s.power.solo = none) :
    LoweredAfter r o s (closeEvent (lowerAfterEnd (endCall r.callId o s))) := by
  have hidle : (endedAlone r o s).idleClaim = s.idleClaim := idleClaim_congr rfl (stopFadeOf_colour_levels _ s)
  have hsolo' : (endedAlone r o s).power.solo = none := (endPurpose_power_solo _ s).trans hsolo
  have hround := request_round s.idleClaim .idle .lowering hsolo'
  have hplans := request_plans s.idleClaim .idle .lowering (endedAlone r o s)
  rw [endCall_single o h hrole, closeEvent_ended (s := endedAlone r o s) rfl hrole hsolo' hn, hidle]
  exact
    { store := requestLowering_store _ _
      planner := requestLowering_planner _ _
      colour := hplans.colour
      granted := (hplans.silent hsolo').2.trans (endPurpose_power_granted _ s)
      purpose := hround.1
      figure := hround.2
      cover := hplans.cover
      clock := hplans.clock
      drive := hplans.drive
      station := hplans.station
      pending := hplans.pending }

/-! ### The settled obligations -/

theorem stopMotionOf_of_none {o : MotionOwner} {s : State} (h : s.planner.motion = none) : stopMotionOf o s = s := by
  simp [stopMotionOf, h]

/-- Settles O41: the one call held, its limit passed, ends with its outcome and the lowering. -/
theorem expiredCallsEnd : Obligations.ExpiredCallsEnd := by
  intro s r w hquiet _ hcalls _ hrole hmotion hsolo
  have hstill : (stopMotionOf (.call r.callId) s).planner = s.planner := congrArg State.planner (stopMotionOf_of_none hmotion)
  have hends (o : CallOutcome) := closeEvent_endCall_single o hquiet.1 hcalls hrole hsolo
  refine ⟨fun hstate hstart hlimit => ?_, fun hstate hstart hlimit => ?_⟩
  · have hover : r.waitOver s.clock.tickCount = true := by
      rw [CallRecord.waitOver, hstate, hstart]
      exact decide_eq_true hlimit
    have h := hends .dropped
    refine ⟨_, congrArg Host.Outcome.next ?_, congrArg StoreState.calls h.store, congrArg StoreState.poolFree h.store,
      congrArg StoreState.counters h.store, h.planner.trans hstill, h.granted, ?_, h.clock, h.drive, h.station, h.pending⟩
    · rw [hcalls, List.find?_cons_of_pos hover]
      rfl
    · rw [h.colour, stopFadeOf_colour_levels]
  · have hover : r.holdOver s.clock.tickCount = true := by
      rw [CallRecord.holdOver, hstate, hstart]
      exact decide_eq_true hlimit
    have h := hends .short
    refine ⟨_, congrArg Host.Outcome.next ?_, congrArg StoreState.calls h.store, congrArg StoreState.poolFree h.store,
      congrArg StoreState.counters h.store, h.planner.trans hstill, h.granted, ?_, h.clock, h.drive, h.station, h.pending⟩
    · rw [hcalls, List.find?_cons_of_pos hover]
      rfl
    · rw [h.colour, stopFadeOf_colour_levels]

/-- The end of a RUNNING call whose motion is done and whose fade is over: DONE, with its lowering (R58, R59). -/
theorem finishIfComplete_done {s : State} {r : CallRecord} (h : s.store.calls = [r]) (hrun : r.state = .running)
    (hdone : r.motionDone = true) (hfade : s.fadingFor (.call r.callId) = false) (hrole : s.cover.role = none) :
    finishIfComplete r.callId s = lowerAfterEnd (endCall r.callId .done s) := by
  have hend : endIfComplete r.callId s = endCall r.callId .done s := by
    unfold endIfComplete
    rw [findCall_only h]
    exact if_pos (by rw [hrun, hdone, hfade]; rfl)
  unfold finishIfComplete lowerFrom
  rw [hend]
  refine if_pos ?_
  rw [h, endCall_single .done h hrole]
  exact Nat.zero_lt_one

/-- Settles O43: the fade's last step completes the COLOUR call, which ends DONE. -/
theorem colourCallDone : Obligations.ColourCallDone := by
  intro s r f hquiet _ hcalls hmode hstate hfade hdue howner hrole hmotion hsolo
  obtain ⟨u, hu⟩ : ∃ u : State, u = { s with colour := { s.colour with levels := f.target, fade := none } } := ⟨_, rfl⟩
  have hlast : exec .fadeComplete s = .next (closeEvent (finishIfComplete r.callId u)) := by
    refine congrArg Host.Outcome.next ?_
    rw [hfade]
    refine (if_pos hdue).trans ?_
    unfold fadeOver
    rw [howner, hu]
  have hcalls' : u.store.calls = [r] := by rw [hu]; exact hcalls
  have hrole' : u.cover.role = none := by rw [hu]; exact hrole
  have h := closeEvent_endCall_single .done (by rw [hu]; exact hquiet.1) hcalls' hrole' (by rw [hu]; exact hsolo)
  rw [finishIfComplete_done hcalls' hstate (by simp [CallRecord.motionDone, hmode]) (by simp [State.fadingFor, hu]) hrole'] at hlast
  have hstill := congrArg State.planner (stopMotionOf_of_none (o := .call r.callId) (s := u) (by rw [hu]; exact hmotion))
  have hdark : (stopFadeOf (.call r.callId) u).colour = u.colour := by
    simp [stopFadeOf, hu]
  refine ⟨_, hlast, congrArg StoreState.calls h.store, (congrArg StoreState.poolFree h.store).trans ?_,
    (congrArg StoreState.counters h.store).trans ?_, (h.colour.trans hdark).trans ?_, (h.planner.trans hstill).trans ?_,
    h.granted.trans ?_, h.clock.trans ?_, h.drive.trans ?_, h.station.trans ?_, h.pending.trans ?_⟩ <;> rw [hu]
  rfl

/-! ### The chain moves on (R56, R57, R58) -/

/-- With one call held that is carried out there is no next call, and the close of the event changes nothing (R50). -/
theorem closeEvent_carriedOut {s : State} {r : CallRecord} (hquiet : Quiet s) (h : s.store.calls = [r])
    (hr : r.carriedOut = true) : closeEvent s = s :=
  closeEvent_of_none hquiet (by simp [State.nextCall, h, CallRecord.canBeNext, hr])

theorem segmentEnd_of_call {s : State} {m : Motion} {id : Word16} (hm : s.planner.motion = some m) (ht : m.t = m.d)
    (howner : m.owner = .call id) : exec .segmentEnd s = .next (closeEvent (chainOn id s)) := by
  refine congrArg Host.Outcome.next ?_
  rw [hm]
  refine (if_pos ht.ge).trans ?_
  unfold segmentOver
  rw [howner]

/-- The ACTIVE segment of the one call held has ended with none QUEUED: consumed, the head held (R56). -/
def consumed (r : CallRecord) (s : State) : State :=
  { s with
    planner := { s.planner with motion := none }
    store := { s.store with calls := [{ r with chain := consumeActive r.chain }] } }

theorem chainOn_drained {s : State} {r : CallRecord} (h : s.store.calls = [r]) (hq : ∀ g ∈ r.chain, g.state ≠ .queued) :
    chainOn r.callId s =
      if r.closed then finishIfComplete r.callId (consumed r s) else enterHoldOpen r.callId (consumed r s) := by
  have hnone : firstQueued r.chain = none := by
    refine List.find?_eq_none.2 fun g hg => ?_
    simpa using hq g hg
  have hconsumed : updateCall r.callId (fun r => { r with chain := consumeActive r.chain }) (haltMotion s) = consumed r s :=
    updateCall_single (s := haltMotion s) h _
  unfold chainOn
  rw [findCall_only h]
  dsimp only
  rw [hnone, hconsumed]
  rfl

theorem chainOn_next {s : State} {r : CallRecord} {a q : PoolSegment} (h : s.store.calls = [r]) (hchain : r.chain = [a, q])
    (ha : a.state = .active) (hq : q.state = .queued) :
    chainOn r.callId s = runSegment r q
      { s with store := { s.store with
          calls := [{ r with chain := [{ q with state := .active }] }]
          poolFree := s.store.poolFree + 1 } } := by
  have hfirst : firstQueued r.chain = some q := by simp [firstQueued, hchain, ha, hq]
  have hlive : liveSegments (consumeActive r.chain) = [q] := by simp [liveSegments, consumeActive, hchain, ha, hq]
  have hactive : activate q.index [q] = [{ q with state := .active }] := by simp [activate]
  have hbegin := beginNext_single h hfirst
  rw [hlive, hactive, show r.chain.length = 2 by rw [hchain]; rfl] at hbegin
  unfold chainOn
  rw [findCall_only h]
  dsimp only
  rw [hfirst]
  exact hbegin

theorem motionDone_consumed {r : CallRecord} (hclosed : r.closed = true) (hne : r.chain ≠ [])
    (hq : ∀ g ∈ r.chain, g.state ≠ .queued) : ({ r with chain := consumeActive r.chain } : CallRecord).motionDone = true := by
  have hall : (consumeActive r.chain).all (fun g => g.state == .consumed) = true := by
    refine List.all_eq_true.2 fun g hg => ?_
    obtain ⟨x, hx, rfl⟩ := List.mem_map.1 hg
    have := hq x hx
    cases hs : x.state <;> simp_all
  have hsome : (consumeActive r.chain).isEmpty = false := by
    rw [List.isEmpty_eq_false_iff]
    simpa [consumeActive] using hne
  simp [CallRecord.motionDone, hclosed, hall, hsome]

/-- Settles O42: hold open with the chain open, the next segment with one QUEUED, DONE with the chain closed. -/
theorem chainEndHoldsOpen : Obligations.ChainEndHoldsOpen := by
  intro s r m hquiet hcalls hm ht howner
  have hexec := segmentEnd_of_call hm ht howner
  refine ⟨fun hclosed hq => ?_, fun g a q pl sp hg hstate hchain ha hq hplan hsp hland hok hfit hceiling => ?_,
    fun g hg _ hstate hmode hclosed hne hq hfade hrole hsolo => ?_⟩
  · have hhold : enterHoldOpen r.callId (consumed r s) =
        { s with
          planner := { s.planner with motion := none }
          store := { s.store with
            calls := [{ r with
              state := .holdOpen
              holdStart := some s.clock.tickCount
              chain := consumeActive r.chain }] } } :=
      updateCall_single (s := consumed r s) (r := { r with chain := consumeActive r.chain }) rfl _
    rw [hexec, chainOn_drained hcalls hq, if_neg (by rw [hclosed]; exact Bool.false_ne_true)]
    exact congrArg Host.Outcome.next
      ((congrArg closeEvent hhold).trans (closeEvent_carriedOut (by exact hquiet) rfl rfl))
  · have hrun := runSegment_planned (r := r) (seg := q) (s := { s with store := { s.store with
        calls := [{ r with chain := [{ q with state := .active }] }], poolFree := s.store.poolFree + 1 } })
      hg hplan hsp hland hok hfit hceiling
    rw [hexec, chainOn_next hcalls hchain ha hq, hrun]
    refine congrArg Host.Outcome.next (closeEvent_carriedOut (by exact hquiet) rfl ?_)
    simp [CallRecord.carriedOut, hstate]
  · rw [hexec, chainOn_drained hcalls hq, hclosed, if_pos rfl]
    have h := closeEvent_endCall_single (s := consumed r s) (r := { r with chain := consumeActive r.chain }) .done
      (by exact hquiet.1) rfl (by exact hrole) (by exact hsolo)
    have hdone := finishIfComplete_done (s := consumed r s) (r := { r with chain := consumeActive r.chain }) rfl hstate
      (motionDone_consumed hclosed hne hq) (by simp [State.fadingFor, consumed, hfade]) hrole
    have hlength : (consumeActive r.chain).length = r.chain.length := List.length_map _
    have hdark : (stopFadeOf (.call r.callId) (consumed r s)).colour = s.colour := by simp [stopFadeOf, consumed, hfade]
    refine ⟨_, congrArg (fun u => Host.Outcome.next (closeEvent u)) hdone, h.store.trans ?_, h.planner.trans ?_, h.granted, h.purpose,
      h.figure.trans ?_, h.colour.trans hdark, h.cover, h.clock, h.drive, h.station, h.pending⟩
    · rw [show ({ r with chain := consumeActive r.chain } : CallRecord).chain.length = r.chain.length from hlength]
      rfl
    · simp [stopMotionOf, consumed]
    · rw [State.idleClaim, fig_eq (by exact hg)]
      rfl

end Sys2Proof.Machine
end


section
/-! SUPPORT. What the end of every call leaves of the blocks, the close of an event with no call held, and the settled
obligations about STOP and RESTART. -/

namespace Sys2Proof.Machine

/-! ### What the end of calls leaves (R59) -/

/-- What ending calls leaves: the clock, the station, the drive port, the own granted claim, solo mode, the commanded position,
the thermal state, and every counter but those of the store, of the cover unit and of the queue. -/
structure Ends (s t : State) : Prop where
  station : t.station = s.station := by exact rfl
  clock : t.clock = s.clock := by exact rfl
  drive : t.drive = s.drive := by exact rfl
  aim : t.aim = s.aim := by exact rfl
  pending : t.pending = s.pending := by exact rfl
  notices : t.notices = s.notices := by exact rfl
  granted : t.power.granted = s.power.granted := by exact rfl
  solo : t.power.solo = s.power.solo := by exact rfl
  powerCounters : t.power.counters = s.power.counters := by exact rfl
  pan : t.planner.pan = s.planner.pan := by exact rfl
  tilt : t.planner.tilt = s.planner.tilt := by exact rfl
  plannerCounters : t.planner.counters = s.planner.counters := by exact rfl
  thermal : t.colour.thermal = s.colour.thermal := by exact rfl
  lastTemp : t.colour.lastTemp = s.colour.lastTemp := by exact rfl
  colourCounters : t.colour.counters = s.colour.counters := by exact rfl
  landingCounters : t.landing.counters = s.landing.counters := by exact rfl
  linkLost : t.link.linkLost = s.link.linkLost := by exact rfl

theorem Ends.refl (s : State) : Ends s s := {}

theorem Ends.trans {s t u : State} (h : Ends s t) (k : Ends t u) : Ends s u where
  station := k.station.trans h.station
  clock := k.clock.trans h.clock
  drive := k.drive.trans h.drive
  aim := k.aim.trans h.aim
  pending := k.pending.trans h.pending
  notices := k.notices.trans h.notices
  granted := k.granted.trans h.granted
  solo := k.solo.trans h.solo
  powerCounters := k.powerCounters.trans h.powerCounters
  pan := k.pan.trans h.pan
  tilt := k.tilt.trans h.tilt
  plannerCounters := k.plannerCounters.trans h.plannerCounters
  thermal := k.thermal.trans h.thermal
  lastTemp := k.lastTemp.trans h.lastTemp
  colourCounters := k.colourCounters.trans h.colourCounters
  landingCounters := k.landingCounters.trans h.landingCounters
  linkLost := k.linkLost.trans h.linkLost

theorem offerYield_ends (t c : Nat) (s : State) : Ends s (offerYield t c s) := by
  unfold offerYield offer toldDrop
  split <;> exact {}

theorem giveUpEntry_ends (r : Role) (s : State) : Ends s (giveUpEntry r s) := by
  unfold giveUpEntry
  split
  · exact {}
  · exact Ends.trans (t := setHolders r.target _ s) {} (offerYield_ends _ _ _)

theorem endPurpose_ends (p : Purpose) (s : State) : Ends s (endPurpose p s) := by
  unfold endPurpose
  dsimp only
  split
  · exact {}
  · split <;> exact {}

theorem stopMotionOf_ends (o : MotionOwner) (s : State) : Ends s (stopMotionOf o s) := by
  unfold stopMotionOf
  split
  · exact {}
  · split <;> exact {}

theorem stopFadeOf_ends (o : FadeOwner) (s : State) : Ends s (stopFadeOf o s) := by
  unfold stopFadeOf
  split
  · exact {}
  · split <;> exact {}

theorem endRole_ends (s : State) : Ends s (endRole s) := by
  unfold endRole
  split
  · exact {}
  next r _ =>
    have hdark (u : State) : Ends u (clearRole (dark u)) := {}
    exact (giveUpEntry_ends r s).trans ((hdark _).trans ((stopMotionOf_ends _ _).trans (endPurpose_ends _ _)))

theorem endRoleOf_ends (id : Word16) (s : State) : Ends s (endRoleOf id s) := by
  unfold endRoleOf
  split
  · exact {}
  · split
    · exact endRole_ends s
    · exact {}

theorem endCall_ends (id : Word16) (o : CallOutcome) (s : State) : Ends s (endCall id o s) := by
  unfold endCall
  split
  · exact {}
  next r _ =>
    have hdrop (u : State) : Ends u (removeLanding id (dropRecord r o u)) := {}
    exact (endRoleOf_ends id s).trans ((stopMotionOf_ends _ _).trans ((stopFadeOf_ends _ _).trans
      ((hdrop _).trans (endPurpose_ends _ _))))

theorem endCalls_ends (o : CallOutcome) (ids : List Word16) (s : State) : Ends s (endCalls o ids s) :=
  endCalls_induction (P := fun u => Ends s u) o (fun id u h => h.trans (endCall_ends id o u)) ids s {}

/-- With no role held, the end of a call leaves the cover unit and the levels (R59, R153). -/
theorem endCall_of_no_role {s : State} (id : Word16) (o : CallOutcome) (h : s.cover.role = none) :
    (endCall id o s).cover = s.cover ∧ (endCall id o s).colour.levels = s.colour.levels := by
  have hrole : endRoleOf id s = s := by simp [endRoleOf, h]
  unfold endCall
  split
  · exact ⟨rfl, rfl⟩
  · rw [hrole, endPurpose_cover, endPurpose_colour]
    simp [removeLanding, dropRecord]

theorem endCalls_of_no_role {s : State} (o : CallOutcome) (ids : List Word16) (h : s.cover.role = none) :
    (endCalls o ids s).cover = s.cover ∧ (endCalls o ids s).colour.levels = s.colour.levels := by
  refine endCalls_induction (P := fun u => u.cover = s.cover ∧ u.colour.levels = s.colour.levels) o ?_ ids s ⟨rfl, rfl⟩
  intro id u ⟨hcover, hlevels⟩
  obtain ⟨hc, hl⟩ := endCall_of_no_role id o (s := u) (by rw [hcover]; exact h)
  exact ⟨hc.trans hcover, hl.trans hlevels⟩

/-! ### The outcomes counted (R59, R64) -/

/-- Ending a call that is held counts its outcome; the intake condition stands. -/
theorem endCall_counters {id : Word16} {s : State} (h : holdsCall id s.store.calls) (o : CallOutcome) :
    (endCall id o s).store.counters = countOutcome o s.store.counters := by
  obtain ⟨r, hr, hid⟩ := h
  have hfound : (s.findCall id).isSome = true := by
    unfold State.findCall
    exact List.find?_isSome.2 ⟨r, hr, by simp [hid]⟩
  unfold endCall
  split
  next hnone => rw [hnone] at hfound; cases hfound
  next c _ =>
    rw [endPurpose_store]
    show countOutcome o (stopFadeOf _ (stopMotionOf _ (endRoleOf id s))).store.counters = _
    rw [stopFadeOf_store, stopMotionOf_store, endRoleOf_store]

/-- Calls held under distinct ids that end CUT are counted one by one (R59, R64). -/
theorem endCalls_cut (ids : List Word16) : ∀ {s : State}, ids.Nodup → (∀ id ∈ ids, holdsCall id s.store.calls) →
    (endCalls .cut ids s).store.counters.cut = ids.foldl (fun n _ => satInc n) s.store.counters.cut := by
  induction ids with
  | nil => exact fun _ _ => rfl
  | cons id ids ih =>
    intro s hnd hheld
    obtain ⟨hnew, hrest⟩ := List.nodup_cons.1 hnd
    have hcount := endCall_counters (hheld id List.mem_cons_self) .cut
    have hstill : ∀ x ∈ ids, holdsCall x (endCall id .cut s).store.calls := by
      intro x hx
      obtain ⟨r, hr, hrx⟩ := hheld x (List.mem_cons_of_mem _ hx)
      refine ⟨r, ?_, hrx⟩
      rw [endCall_calls]
      refine List.mem_filter.2 ⟨hr, ?_⟩
      have hne : x ≠ id := fun h => hnew (h ▸ hx)
      simpa [hrx] using hne
    refine (ih hrest hstill).trans ?_
    rw [hcount]
    rfl

/-! ### What a request leaves besides the power share and the queue (R103) -/

/-- What asking for a claim leaves: every block but the power share unit and the transmit queue. -/
structure Asks (s t : State) : Prop where
  station : t.station = s.station
  clock : t.clock = s.clock
  colour : t.colour = s.colour
  drive : t.drive = s.drive
  cover : t.cover = s.cover
  pending : t.pending = s.pending
  planner : t.planner = s.planner
  store : t.store = s.store
  aim : t.aim = s.aim
  landing : t.landing = s.landing

theorem Asks.refl (s : State) : Asks s s := ⟨rfl, rfl, rfl, rfl, rfl, rfl, rfl, rfl, rfl, rfl⟩

theorem asks_of_eq {s t : State} (h : t = s) : Asks s t := h ▸ .refl s

theorem Asks.trans {s t u : State} (h : Asks s t) (k : Asks t u) : Asks s u where
  station := k.station.trans h.station
  clock := k.clock.trans h.clock
  colour := k.colour.trans h.colour
  drive := k.drive.trans h.drive
  cover := k.cover.trans h.cover
  pending := k.pending.trans h.pending
  planner := k.planner.trans h.planner
  store := k.store.trans h.store
  aim := k.aim.trans h.aim
  landing := k.landing.trans h.landing

theorem request_asks (w : Nat) (r : Reason) (p : Purpose) (s : State) : Asks s (request w r p s) where
  station := (request_plans w r p s).station
  clock := (request_plans w r p s).clock
  colour := (request_plans w r p s).colour
  drive := (request_plans w r p s).drive
  cover := request_cover w r p s
  pending := (request_plans w r p s).pending
  planner := request_planner w r p s
  store := request_store w r p s
  aim := request_aim w r p s
  landing := request_landing w r p s

theorem freshen_asks (s : State) : Asks s (freshen s) := by
  unfold freshen
  split
  · exact request_asks _ _ _ s
  · exact .refl s

theorem lowerAfterEnd_asks (s : State) : Asks s (lowerAfterEnd s) := by
  unfold lowerAfterEnd
  split
  · exact .refl s
  · split
    · split
      · exact .refl s
      · exact request_asks _ _ _ s
    · split
      · exact .refl s
      · exact request_asks _ _ _ s

/-! ### The close of an event with no call and no role held -/

/-- With no call and no role held and the station not in STARTING, no purpose is left to be told or to ask again (R103, R116). -/
theorem tell_asks (x : Notice) {s : State} (hcalls : s.store.calls = []) (hrole : s.cover.role = none)
    (hmode : s.station.mode ≠ .starting) : Asks s (tell x s) := by
  have hfind (id : Word16) {u : State} (hu : u.store.calls = []) : u.findCall id = none := by simp [State.findCall, hu]
  cases x with
  | granted p w =>
    cases p with
    | homing => exact asks_of_eq (if_neg hmode)
    | follow =>
      have hstays : grantRole w s = s := by
        unfold grantRole
        rw [hrole]
      exact asks_of_eq hstays
    | lowering => exact .refl s
    | move id =>
      have hstays : grantCall id s = s := by
        unfold grantCall
        rw [hfind id hcalls]
      exact asks_of_eq hstays
  | rearm =>
    have hask (p : Purpose) {u : State} (hu : Asks s u) : askAgain p u = u := by
      cases p with
      | homing => exact if_neg (by rw [hu.station]; exact hmode)
      | follow =>
        unfold askAgain
        rw [hu.cover, hrole]
      | lowering => rfl
      | move id =>
        unfold askAgain
        dsimp only
        rw [hfind id (by rw [hu.store]; exact hcalls)]
    have hfold : ∀ (ps : List Purpose) {u : State}, Asks s u → ps.foldl (fun s p => askAgain p s) u = u := by
      intro ps
      induction ps with
      | nil => exact fun _ => rfl
      | cons p ps ih =>
        intro u hu
        rw [List.foldl_cons, hask p hu]
        exact ih hu
    have hdropped : Asks s { s with power := { s.power with deferred := [] } } :=
      ⟨rfl, rfl, rfl, rfl, rfl, rfl, rfl, rfl, rfl, rfl⟩
    show Asks s (rearm s)
    unfold rearm
    split
    · exact .refl s
    · rw [hfold _ hdropped]
      exact hdropped

theorem settle_asks (n : Nat) : ∀ {s : State}, s.store.calls = [] → s.cover.role = none → s.station.mode ≠ .starting →
    Asks s (settle n s) := by
  induction n with
  | zero => exact fun _ _ _ => ⟨rfl, rfl, rfl, rfl, rfl, rfl, rfl, rfl, rfl, rfl⟩
  | succ n ih =>
    intro s hcalls hrole hmode
    unfold settle
    split
    · have h := freshen_asks s
      exact h.trans (ih (by rw [h.store]; exact hcalls) (by rw [h.cover]; exact hrole) (by rw [h.station]; exact hmode))
    · split
      · exact .refl s
      next x rest _ =>
        have htell : Asks s (tell x { s with notices := rest }) :=
          (show Asks s { s with notices := rest } from ⟨rfl, rfl, rfl, rfl, rfl, rfl, rfl, rfl, rfl, rfl⟩).trans
            (tell_asks x hcalls hrole hmode)
        have hlower : lowerFrom s (tell x { s with notices := rest }) = tell x { s with notices := rest } := by
          unfold lowerFrom
          rw [htell.store]
          exact if_neg (lt_irrefl _)
        rw [hlower]
        exact htell.trans (ih (by rw [htell.store]; exact hcalls) (by rw [htell.cover]; exact hrole)
          (by rw [htell.station]; exact hmode))

theorem conclude_asks {s : State} (hcalls : s.store.calls = []) (hrole : s.cover.role = none)
    (hmode : s.station.mode ≠ .starting) : Asks s (conclude s) := by
  have h := settle_asks settleFuel hcalls hrole hmode
  unfold conclude
  dsimp only
  rw [h.store, if_neg (lt_irrefl _)]
  exact h

end Sys2Proof.Machine
end


section
/-! SUPPORT. The settled obligations about STOP and RESTART. -/

namespace Sys2Proof.Machine

/-! ### The calls a STOP ends (R60) -/

theorem stop_of_arrives {s : State} {st : Byte} {f : StopFields} (h : Arrives ⟨st, .stop f⟩ s) :
    exec (.stop st f) s = .next (conclude (applyStop f (arrived ⟨st, .stop f⟩ s))) :=
  congrArg Host.Outcome.next (receiveFrame_of_arrives h)

/-- A STOP is addressed by a group of this station or by its number (R45, R60). -/
theorem stop_inScope {s : State} {f : StopFields} (h : (f.scopeType = 0 ∧ s.ownGroups.getLsbD f.scopeValue.toNat = true)
    ∨ (f.scopeType = 1 ∧ f.scopeValue = s.station.ownStation)) : s.inScope f.scope = true := by
  unfold StopFields.scope scopeOf
  rcases h with ⟨htype, hvalue⟩ | ⟨htype, hvalue⟩ <;> rw [htype]
  · exact hvalue
  · exact decide_eq_true hvalue

theorem stopTaken_eq (f : StopFields) (s : State) :
    stopTaken f s =
      { endCalls .cut s.stopped s with
        store := { (endCalls .cut s.stopped s).store with intake := if f.freeze then .held else .opened }
        colour := if f.blackout then
            { (endCalls .cut s.stopped s).colour with
              levels := darkLevels
              fade := none
              counters := { (endCalls .cut s.stopped s).colour.counters with
                blackouts := satInc (endCalls .cut s.stopped s).colour.counters.blackouts } }
          else (endCalls .cut s.stopped s).colour } := by
  unfold stopTaken
  dsimp only
  split <;> rfl

/-- A STOP counts its BLACKOUT (R164). -/
theorem stopTaken_colourCounters (f : StopFields) (s : State) :
    (stopTaken f s).colour.counters =
      if f.blackout then { s.colour.counters with blackouts := satInc s.colour.counters.blackouts } else s.colour.counters := by
  rw [stopTaken_eq]
  have h := (endCalls_ends .cut s.stopped s).colourCounters
  dsimp only
  split <;> rw [h]

theorem stopTaken_thermal (f : StopFields) (s : State) :
    (stopTaken f s).colour.thermal = s.colour.thermal ∧ (stopTaken f s).colour.lastTemp = s.colour.lastTemp := by
  have h := endCalls_ends .cut s.stopped s
  rw [stopTaken_eq]
  dsimp only
  split <;> exact ⟨h.thermal, h.lastTemp⟩

theorem stopTaken_calls {f : StopFields} {s : State} (h : s.station.mode.takesIntake = true) :
    (stopTaken f s).store.calls = [] := by
  rw [stopTaken_eq]
  show (endCalls .cut s.stopped s).store.calls = []
  rw [endCalls_calls, State.stopped, if_pos h]
  refine List.filter_eq_nil_iff.2 fun c hc => ?_
  have hmem : c.callId ∈ s.callIds (fun _ => true) := List.mem_map.2 ⟨c, List.mem_filter.2 ⟨hc, rfl⟩, rfl⟩
  simp [hmem]

/-- Every call held is counted CUT (R59, R60). -/
theorem stopTaken_cut {f : StopFields} {s : State} (h : s.station.mode.takesIntake = true) (hstore : StoreInv s) :
    (stopTaken f s).store.counters.cut = s.store.calls.foldl (fun n _ => satInc n) s.store.counters.cut := by
  obtain ⟨_, hdistinct, _⟩ := hstore
  have hids : s.stopped = s.store.calls.map CallRecord.callId := by
    rw [State.stopped, if_pos h]
    simp [State.callIds]
  rw [stopTaken_eq]
  show (endCalls .cut s.stopped s).store.counters.cut = _
  rw [hids, endCalls_cut _ (List.pairwise_map.2 hdistinct) fun id hid => ?_, List.foldl_map]
  obtain ⟨r, hr, rfl⟩ := List.mem_map.1 hid
  exact ⟨r, hr, rfl⟩

/-- With the calls ended nobody owns a segment and no role stands (R82, R153). -/
theorem no_owner_of_no_calls {s : State} (h : OwnerInv s) (hcalls : s.store.calls = []) (hmode : s.station.mode ≠ .reset) :
    s.cover.role = none ∧ s.planner.motion = none := by
  obtain ⟨hmotion, hrole⟩ := h
  have hnone (id : Word16) : ¬ holdsCall id s.store.calls := by
    rintro ⟨r, hr, _⟩
    rw [hcalls] at hr
    cases hr
  have hr : s.cover.role = none := by
    cases hr : s.cover.role with
    | none => rfl
    | some r => exact absurd (hrole r hr) (hnone _)
  refine ⟨hr, ?_⟩
  cases hm : s.planner.motion with
  | none => rfl
  | some m =>
    have howner := hmotion m hm
    cases ho : m.owner with
    | call id => rw [ho] at howner; exact absurd howner (hnone id)
    | follow =>
      rw [ho] at howner
      rcases howner with h | h
      · rw [hr] at h; cases h
      · exact absurd h hmode

theorem Asks.of_lowered {s t : State} (hcalls : s.store.calls = []) (hrole : s.cover.role = none)
    (hn : s.power.solo = none → s.notices = [])
    (hsolo : s.power.solo = none ∨ s.station.mode = .isolated) (ht : t = conclude (lowerAfterEnd s)) : Asks s t := by
  have hlower := lowerAfterEnd_asks s
  have hplans := lowerAfterEnd_plans s
  rw [ht]
  rcases hsolo with hs | hmode
  · rw [conclude_of_silent ((hplans.silent hs).1.trans (hn hs)) (hplans.solo.trans hs)]
    exact hlower.trans (freshen_asks _)
  · exact hlower.trans (conclude_asks (by rw [hlower.store]; exact hcalls) (by rw [hlower.cover]; exact hrole)
      (by rw [hlower.station, hmode]; decide))

/-- Settles O22: every call ended, the intake set, the head still and dark where asked, and the claim lowered. -/
theorem stopEndsEveryCall : Obligations.StopEndsEveryCall := by
  intro s st f harr hclear hscope
  obtain ⟨u, hu⟩ : ∃ u : State, u = arrived ⟨st, .stop f⟩ s := ⟨_, rfl⟩
  have hin : u.inScope f.scope = true := by rw [hu]; exact stop_inScope hscope
  have hexec : exec (.stop st f) s = .next (conclude (stopHeld f u)) := by
    rw [stop_of_arrives harr, ← hu, applyStop, if_pos hin, stopStation_eq, if_neg (by rw [StopFields.restart, hclear]; decide)]
  have hquiet : Quiet u := by rw [hu]; exact harr.1
  have hstation : u.station = s.station := by rw [hu]; rfl
  refine ⟨fun hstore howner htakes hsolo => ?_, fun hmode => ?_⟩
  · obtain ⟨e, he⟩ : ∃ e : State, e = stopTaken f u := ⟨_, rfl⟩
    have htakes' : u.station.mode.takesIntake = true := by rw [hstation]; exact htakes
    have hends := endCalls_ends .cut u.stopped u
    have hstore' : StoreInv u := by rw [hu]; exact hstore
    have hkept := he ▸ stopTaken_within f u
    have hcalls : e.store.calls = [] := he ▸ stopTaken_calls htakes'
    have hestation : e.station = s.station := by rw [he, stopTaken_eq]; exact hends.station.trans hstation
    obtain ⟨hrole, hmotion⟩ := no_owner_of_no_calls (hkept.owner (by rw [hu]; exact howner)) hcalls
      (by rw [hestation]; intro h; rw [h] at htakes; cases htakes)
    have hpower : u.power = s.power := by rw [hu]; rfl
    have hesolo : e.power.solo = s.power.solo := by rw [he, stopTaken_eq, ← hpower]; exact hends.solo
    have hnotices : e.notices = [] := by rw [he, stopTaken_eq]; exact hends.notices.trans hquiet.1
    have hlowered : conclude (stopHeld f u) = conclude (lowerAfterEnd e) := by
      rw [stopHeld, if_pos htakes', he]
    have h : Asks e (conclude (stopHeld f u)) := .of_lowered hcalls hrole (fun _ => hnotices)
      (by rw [hesolo, hestation]; exact hsolo) hlowered
    obtain ⟨_, _, hpool⟩ := hkept.store hstore'
    have heclock : e.clock = u.clock := by rw [he, stopTaken_eq]; exact hends.clock
    refine ⟨_, hexec, (congrArg StoreState.calls h.store).trans hcalls, (congrArg StoreState.poolFree h.store).trans ?_,
      (congrArg StoreState.intake h.store).trans ?_, (congrArg (fun k : StoreState => k.counters.cut) h.store).trans ?_,
      (congrArg PlannerState.motion h.planner).trans hmotion, (congrArg PlannerState.pan h.planner).trans ?_,
      (congrArg PlannerState.tilt h.planner).trans ?_, (congrArg CoverState.role h.cover).trans hrole, fun hblack => ?_,
      fun g hg hs => ?_, (congrArg StationState.mode (h.station.trans hestation)), ?_, ?_, h.pending.trans ?_⟩
    · rw [hcalls] at hpool
      exact hpool
    · rw [he, stopTaken_eq]
      rfl
    · rw [he, stopTaken_cut htakes' hstore', hu]
      rfl
    · rw [he, stopTaken_eq]
      exact hends.pan.trans (by rw [hu]; rfl)
    · rw [he, stopTaken_eq]
      exact hends.tilt.trans (by rw [hu]; rfl)
    · have hcolour : e.colour.counters.blackouts = satInc s.colour.counters.blackouts := by
        rw [he, stopTaken_colourCounters, if_pos (by exact hblack), hu]
        rfl
      have hdark : e.colour.levels = darkLevels ∧ e.colour.fade = none := by
        rw [he, stopTaken_eq, if_pos (show f.blackout = true from hblack)]
        exact ⟨rfl, rfl⟩
      exact ⟨(congrArg ColourState.levels h.colour).trans hdark.1, (congrArg ColourState.fade h.colour).trans hdark.2,
        (congrArg (fun k : ColourState => k.counters.blackouts) h.colour).trans hcolour⟩
    · have hs' : e.power.solo = none := hesolo.trans hs
      have hplans := lowerAfterEnd_plans e
      have hasked : conclude (stopHeld f u) = requestLowering e.idleClaim e := by
        rw [hlowered, conclude_of_silent ((hplans.silent hs').1.trans hnotices) (hplans.solo.trans hs'),
          freshen_lowerAfterEnd hcalls hrole]
      have hround := request_round e.idleClaim .idle .lowering hs'
      have hgranted : e.power.granted = s.power.granted := by rw [he, stopTaken_eq, ← hpower]; exact hends.granted
      have hidle : e.idleClaim = g.baseClaim + (g.pan.hold + g.tilt.hold) + emitterClaim g.emitterWatts e.colour.levels := by
        rw [State.idleClaim, fig_eq (by rw [hestation]; exact hg)]
        rfl
      rw [h.colour, ← hidle, hasked]
      exact ⟨((request_plans _ _ _ e).silent hs').2.trans hgranted, hround⟩
    · exact (congrArg ClockState.linkClock (h.clock.trans heclock)).trans (by rw [hu]; rfl)
    · exact (congrArg ClockState.tickCount (h.clock.trans heclock)).trans (by rw [hu]; rfl)
    · rw [he, stopTaken_eq]
      exact hends.pending.trans (by rw [hu]; rfl)
  · have htakes : ¬ u.station.mode.takesIntake = true := by
      rw [hstation]
      rcases hmode with h | h <;> rw [h] <;> decide
    have hstopped : endCalls .cut u.stopped u = u := by
      rw [State.stopped, if_neg htakes]
      rfl
    have hheld := stopTaken_eq f u
    rw [hstopped] at hheld
    have hquiet' : Quiet (stopTaken f u) := by rw [hheld]; exact hquiet
    rw [hexec, stopHeld, if_neg htakes, conclude_of_quiet hquiet', hheld, hu]
    rfl

/-! ### RESTART (R191) -/

theorem setMode_config (s : State) :
    setMode .config s =
      { s with
        station := { s.station with mode := .config, statusAsserted := true }
        link := { s.link with lineState := .off, recessiveRun := 0, dominantRun := 0 }
        clock := { s.clock with beaconTimer := none, beaconDue := false } } := rfl

/-- A request with solo mode ON and a lowering in it is granted at once (R121). -/
theorem requestLowering_solo (w : Nat) {s : State} (h : s.power.solo.isSome = true) :
    (requestLowering w s).power.granted = w := by
  unfold requestLowering request decideLocally
  dsimp only
  rw [if_pos (by exact h), if_pos (.inl rfl)]
  rfl

/-- A lowering whose CLAIM finds room in the queue counts nothing (R15, R16, R124). -/
theorem requestLowering_counters (w : Nat) {s : State} (h : s.link.queue.length < 12) :
    (requestLowering w s).power.counters = s.power.counters ∧ (requestLowering w s).link.counters = s.link.counters := by
  have hroom (b : TxBody) : (queueOffer s.link.queue b).isSome = true := by
    unfold queueOffer
    split
    · rfl
    · rw [if_pos (by exact h)]
      rfl
  unfold requestLowering request decideLocally openRound
  dsimp only
  split
  · exact ⟨rfl, rfl⟩
  · rw [if_neg (by simp)]
    unfold offer
    split
    · exact ⟨rfl, rfl⟩
    next hnone => exact absurd (congrArg Option.isSome hnone) (by rw [hroom]; decide)

/-- The state a RESTART starts from: the STOP carried out, an abandoned round given its figure (R60, R115). -/
def beforeRestart (f : StopFields) (s : State) : State := freshen (stopHeld f s)

theorem beforeRestart_asks (f : StopFields) (s : State) : Asks (stopTaken f s) (beforeRestart f s) := by
  unfold beforeRestart stopHeld
  split
  · exact (lowerAfterEnd_asks _).trans (freshen_asks _)
  · exact freshen_asks _

theorem beforeRestart_plans (f : StopFields) (s : State) : Plans (stopTaken f s) (beforeRestart f s) := by
  unfold beforeRestart stopHeld
  split
  · exact (lowerAfterEnd_plans _).trans (freshen_plans _)
  · exact freshen_plans _

/-- With no call and no role held, the STOP of a RESTART asks for the idle claim in a mode that takes intake, and does nothing to
the power share unit elsewhere (R113). -/
theorem beforeRestart_idle {f : StopFields} {s : State} (hcalls : (stopTaken f s).store.calls = [])
    (hrole : (stopTaken f s).cover.role = none) (hab : (stopTaken f s).power.abandoned = false) :
    beforeRestart f s = requestLowering (stopTaken f s).idleClaim (stopTaken f s) ∨ beforeRestart f s = stopTaken f s := by
  unfold beforeRestart stopHeld
  split
  · exact .inl (freshen_lowerAfterEnd hcalls hrole)
  · refine .inr ?_
    unfold freshen
    rw [hab]
    exact if_neg Bool.false_ne_true

theorem performRestart_eq (s : State) :
    performRestart s =
      { s with
        link := restartLink { s.link with lineState := .off, recessiveRun := 0, dominantRun := 0 }
        clock := { s.clock with peers := [], beaconTimer := none, beaconDue := false }
        store := { s.store with calls := [], poolFree := Config.poolSize, intake := .opened }
        aim := { s.aim with pose := none }
        planner := { s.planner with motion := none }
        power := restartPower s.power
        landing := { s.landing with records := [] }
        cover := restartCover s.cover
        colour := { s.colour with levels := darkLevels, fade := none }
        drive := { s.drive with absentCount := 0, panRun := 0, tiltRun := 0, homing := none }
        station := { s.station with
          mode := .config, statusAsserted := true, faultCode := 0, snapshot := none, restarted := true }
        notices := [] } := rfl

/-- Settles O23: the STOP carried out, then every block at its RESTART values. -/
theorem restartKeepsAndClears : Obligations.RestartKeepsAndClears := by
  intro s st f harr htype hvalue hrestart
  obtain ⟨u, hu⟩ : ∃ u : State, u = arrived ⟨st, .stop f⟩ s := ⟨_, rfl⟩
  have hin : u.inScope f.scope = true := by rw [hu]; exact stop_inScope (.inr ⟨htype, hvalue⟩)
  obtain ⟨w, hw⟩ : ∃ w : State, w = beforeRestart f u := ⟨_, rfl⟩
  obtain ⟨e, he⟩ : ∃ e : State, e = stopTaken f u := ⟨_, rfl⟩
  have hexec : exec (.stop st f) s = .next (performRestart w) := by
    rw [stop_of_arrives harr, ← hu, applyStop, if_pos hin, stopStation_eq, if_pos (by exact hrestart),
      conclude_of_quiet ⟨rfl, rfl⟩, hw]
    rfl
  rw [performRestart_eq] at hexec
  have hasks : Asks e w := by rw [he, hw]; exact beforeRestart_asks f u
  have hplans : Plans e w := by rw [he, hw]; exact beforeRestart_plans f u
  have hends := endCalls_ends .cut u.stopped u
  have hclock : w.clock = u.clock := hasks.clock.trans (by rw [he, stopTaken_eq]; exact hends.clock)
  have hdrive : w.drive = s.drive := hasks.drive.trans (by rw [he, stopTaken_eq]; exact hends.drive.trans (by rw [hu]; rfl))
  have hestation : e.station = s.station := by rw [he, stopTaken_eq]; exact hends.station.trans (by rw [hu]; rfl)
  have hpower : u.power = s.power := by rw [hu]; rfl
  have hnotices : e.notices = [] := by rw [he, stopTaken_eq]; exact hends.notices.trans (by rw [hu]; exact harr.1.1)
  have hsolo : e.power.solo = s.power.solo := by rw [he, stopTaken_eq, ← hpower]; exact hends.solo
  have hgranted : e.power.granted = s.power.granted := by rw [he, stopTaken_eq, ← hpower]; exact hends.granted
  refine ⟨_, hexec, rfl, rfl, rfl, rfl, rfl, rfl, rfl, rfl, rfl, rfl, rfl, rfl, rfl, rfl, rfl, fun l hl => ?_, fun r hr => ?_, rfl,
    rfl, rfl, rfl, rfl, rfl, ?_, ?_, ?_, ?_, ?_, ?_, ?_, ?_, rfl, ?_, ?_, ?_, ?_, fun hs => ?_, fun g hs hmode hg hrole hblack => ?_,
    ?_, ?_, ?_, ?_, ?_, ?_, fun hcalls hrole hroom => ?_, ?_⟩
  · exact List.eq_of_mem_replicate hl
  · rw [List.eq_of_mem_replicate hr]
    rfl
  · exact (congrArg ClockState.linkClock hclock).trans (by rw [hu]; rfl)
  · exact (congrArg ClockState.tickCount hclock).trans (by rw [hu]; rfl)
  · exact (congrArg ColourState.thermal hasks.colour).trans (by rw [he, (stopTaken_thermal f u).1, hu]; rfl)
  · exact (congrArg DriveState.panHomed hdrive :)
  · exact (congrArg DriveState.tiltHomed hdrive :)
  · exact (congrArg DriveState.axesOn hdrive :)
  · exact (congrArg PlannerState.pan hasks.planner).trans (by rw [he, stopTaken_eq]; exact hends.pan.trans (by rw [hu]; rfl))
  · exact (congrArg PlannerState.tilt hasks.planner).trans (by rw [he, stopTaken_eq]; exact hends.tilt.trans (by rw [hu]; rfl))
  · exact (congrArg ColourState.lastTemp hasks.colour).trans (by rw [he, (stopTaken_thermal f u).2, hu]; rfl)
  · exact (congrArg DriveState.lastStatus hdrive :)
  · exact (congrArg DriveState.lastEncoders hdrive :)
  · exact (congrArg StationState.figures (hasks.station.trans hestation) :)
  · exact (hplans.silent (hsolo.trans hs)).2.trans hgranted
  · have htakes : u.station.mode.takesIntake = true := by rw [hu]; show s.station.mode.takesIntake = true; rw [hmode]; rfl
    obtain ⟨hcover, hlevels⟩ := endCalls_of_no_role .cut u.stopped (s := u) (by rw [hu]; exact hrole)
    have herole : e.cover.role = none := by rw [he, stopTaken_eq]; exact (congrArg CoverState.role hcover).trans (by rw [hu]; exact hrole)
    have helevels : e.colour.levels = s.colour.levels := by
      rw [he, stopTaken_eq, if_neg (show ¬ f.blackout = true by rw [StopFields.blackout, hblack]; exact Bool.false_ne_true)]
      exact hlevels.trans (by rw [hu]; rfl)
    have hidle : e.idleClaim = g.baseClaim + (g.pan.hold + g.tilt.hold) + emitterClaim g.emitterWatts s.colour.levels := by
      rw [State.idleClaim, fig_eq (by rw [hestation]; exact hg), helevels]
      rfl
    have hwe : w = requestLowering e.idleClaim e := by
      rw [hw, beforeRestart, stopHeld, if_pos htakes, ← he]
      exact freshen_lowerAfterEnd (he ▸ stopTaken_calls htakes) herole
    show w.power.granted = _
    rw [hwe, requestLowering_solo _ (by rw [hsolo]; exact hs)]
    exact hidle
  · exact (congrArg AimState.counters hasks.aim).trans
      (by rw [he, stopTaken_eq]; exact (congrArg AimState.counters hends.aim).trans (by rw [hu]; rfl))
  · exact (congrArg PlannerState.counters hasks.planner).trans
      (by rw [he, stopTaken_eq]; exact hends.plannerCounters.trans (by rw [hu]; rfl))
  · exact (congrArg ClockState.counters hclock).trans (by rw [hu]; rfl)
  · exact (congrArg LandingState.counters hasks.landing).trans
      (by rw [he, stopTaken_eq]; exact hends.landingCounters.trans (by rw [hu]; rfl))
  · exact (congrArg DriveState.counters hdrive :)
  · exact (congrArg ColourState.counters hasks.colour).trans (by rw [he, stopTaken_colourCounters, hu]; rfl)
  · have hstopped : endCalls .cut u.stopped u = u := by
      have hnone : u.stopped = [] := by
        rw [State.stopped, State.callIds, show u.store.calls = [] by rw [hu]; exact hcalls]
        exact ite_self _
      rw [hnone]
      rfl
    have heq := stopTaken_eq f u
    rw [hstopped, ← he] at heq
    have hequeue : e.link.queue.length < 12 := by rw [heq, hu]; exact hroom
    have hecounts : e.power.counters = s.power.counters
        ∧ e.link.counters = { s.link.counters with framesReceived := satInc s.link.counters.framesReceived } := by
      rw [heq, hu]
      exact ⟨rfl, rfl⟩
    have hwcounts : w.power.counters = e.power.counters ∧ w.link.counters = e.link.counters := by
      rcases beforeRestart_idle (f := f) (s := u) (by rw [← he, heq, hu]; exact hcalls) (by rw [← he, heq, hu]; exact hrole)
        (by rw [← he, heq, hu]; exact harr.1.2) with h | h <;> rw [← hw, ← he] at h <;> rw [h]
      · exact requestLowering_counters _ hequeue
      · exact ⟨rfl, rfl⟩
    refine ⟨(congrArg StoreState.counters hasks.store).trans (by rw [heq, hu]; rfl), hwcounts.1.trans hecounts.1,
      (congrArg CoverState.counters hasks.cover).trans (by rw [heq, hu]; rfl), hwcounts.2.trans hecounts.2⟩
  · exact hasks.pending.trans (by rw [he, stopTaken_eq]; exact hends.pending.trans (by rw [hu]; rfl))

end Sys2Proof.Machine
end


section
/-! SUPPORT. The plan that the ladder takes (R92, R93), and what recording it does to the one call held. -/

namespace Sys2Proof.Machine

/-! ### The ladder (R92, R93) -/

/-- The plan of a shape at the full scale. -/
def shapePlan (g : Figures) (inp : LadderInput) (x y : Int) (sh : Shape) : Plan := planOf g inp x y sh sh.step 65536

/-- The plan of the shape at a dim step. -/
def dimPlan (g : Figures) (inp : LadderInput) (x y : Int) (sh : Shape) (m : Nat) : Plan :=
  planOf g inp x y sh (.dimmed m) (65536 - 4096 * m)

/-- The shapes after the first that pass their velocity checks. -/
def sentShapes (g : Figures) (x y : Int) (segs : List SegPlan) (stretch : Nat) : List Shape :=
  (laterShapes g x y segs stretch).filter (fun sh => shapeVelocityOk g x y sh.segs)

/-- Trying shapes takes the first that passes its velocity check and fits; with none, the last that passes stands (R92). -/
theorem tryShapes_eq (g : Figures) (inp : LadderInput) (x y : Int) (shs : List Shape) : ∀ (last : Shape) (n : Nat),
    (tryShapes g inp x y shs last n).taken
        = ((shs.filter (fun sh => shapeVelocityOk g x y sh.segs)).map (shapePlan g inp x y)).find? (fun c => c.fits inp.headroom)
      ∧ ((tryShapes g inp x y shs last n).taken = none →
          (tryShapes g inp x y shs last n).last = (shs.filter (fun sh => shapeVelocityOk g x y sh.segs)).getLastD last) := by
  induction shs with
  | nil => exact fun _ _ => ⟨rfl, fun _ => rfl⟩
  | cons sh rest ih =>
    intro last n
    have hstep : tryShapes g inp x y (sh :: rest) last n =
        if shapeVelocityOk g x y sh.segs then
          if (shapePlan g inp x y sh).fits inp.headroom then ⟨some (shapePlan g inp x y sh), sh, n + sh.capped⟩
          else tryShapes g inp x y rest sh (n + sh.capped)
        else tryShapes g inp x y rest last (n + sh.capped) := rfl
    rw [hstep]
    by_cases hok : shapeVelocityOk g x y sh.segs = true
    · rw [if_pos hok, List.filter_cons_of_pos (p := fun sh : Shape => shapeVelocityOk g x y sh.segs) hok, List.map_cons]
      by_cases hfits : (shapePlan g inp x y sh).fits inp.headroom = true
      · rw [if_pos hfits, List.find?_cons_of_pos (p := fun c : Plan => c.fits inp.headroom) hfits]
        exact ⟨rfl, fun h => by cases h⟩
      · rw [if_neg hfits, List.find?_cons_of_neg (p := fun c : Plan => c.fits inp.headroom) hfits]
        obtain ⟨htaken, hlast⟩ := ih sh (n + sh.capped)
        exact ⟨htaken, fun h => (hlast h).trans List.getLastD_cons.symm⟩
    · rw [if_neg hok, List.filter_cons_of_neg (p := fun sh : Shape => shapeVelocityOk g x y sh.segs) hok]
      exact ih last (n + sh.capped)

/-- The first plan that fits, or the last one at step noFit (R92, R93). -/
def takenOf (h : Int) (plans : List Plan) (last : Plan) : Plan :=
  match plans.find? (fun c => c.fits h) with
  | some c => c
  | none => { plans.getLastD last with step := .noFit }

theorem takenOf_cons (h : Int) (c : Plan) (l : List Plan) (last : Plan) :
    takenOf h (c :: l) last = if c.fits h then c else takenOf h l c := by
  unfold takenOf
  by_cases hfits : c.fits h = true
  · rw [List.find?_cons_of_pos (p := fun c : Plan => c.fits h) hfits, if_pos hfits]
  · rw [List.find?_cons_of_neg (p := fun c : Plan => c.fits h) hfits, if_neg hfits, List.getLastD_cons]

theorem takenOf_append (h : Int) (a b : List Plan) : ∀ last : Plan,
    takenOf h (a ++ b) last =
      match a.find? (fun c => c.fits h) with
      | some c => c
      | none => takenOf h b (a.getLastD last) := by
  induction a with
  | nil => exact fun _ => rfl
  | cons c a ih =>
    intro last
    rw [List.cons_append, takenOf_cons]
    by_cases hfits : c.fits h = true
    · rw [if_pos hfits, List.find?_cons_of_pos (p := fun c : Plan => c.fits h) hfits]
    · rw [if_neg hfits, List.find?_cons_of_neg (p := fun c : Plan => c.fits h) hfits, ih c, List.getLastD_cons]

theorem tryDims_eq (g : Figures) (inp : LadderInput) (x y : Int) (sh : Shape) (ms : List Nat) : ∀ last : Plan,
    tryDims g inp x y sh ms last = takenOf inp.headroom (ms.map (dimPlan g inp x y sh)) last := by
  induction ms with
  | nil => exact fun _ => rfl
  | cons m rest ih =>
    intro last
    have hstep : tryDims g inp x y sh (m :: rest) last =
        if (dimPlan g inp x y sh m).fits inp.headroom then dimPlan g inp x y sh m
        else tryDims g inp x y sh rest (dimPlan g inp x y sh m) := rfl
    rw [hstep, List.map_cons, takenOf_cons, ih]

/-- The ladder takes the first of its candidates that fits, or the last of them at step noFit. -/
theorem ladder_eq (g : Figures) (inp : LadderInput) (x y : Int) (segs : List SegPlan) (stretch : Nat) (last : Plan) :
    (ladder g inp x y segs stretch).1 = takenOf inp.headroom (ladderPlans g inp x y segs stretch) last := by
  obtain ⟨first, hfirst⟩ : ∃ sh : Shape, sh = makeShape g x y segs .asRequested timingA := ⟨_, rfl⟩
  obtain ⟨later, hlater⟩ : ∃ l : List Shape, l = sentShapes g x y segs stretch := ⟨_, rfl⟩
  have hplans : ladderPlans g inp x y segs stretch =
      (first :: later).map (shapePlan g inp x y)
        ++ (dimSteps g inp.colour).map (dimPlan g inp x y (later.getLastD first)) := by
    rw [hfirst, hlater]
    rfl
  obtain ⟨htaken, hlast⟩ := tryShapes_eq g inp x y (laterShapes g x y segs stretch) first 0
  have htaken' : (tryShapes g inp x y (laterShapes g x y segs stretch) first 0).taken
      = (later.map (shapePlan g inp x y)).find? (fun c => c.fits inp.headroom) := by rw [hlater]; exact htaken
  have hladder : (ladder g inp x y segs stretch).1 =
      if (shapePlan g inp x y first).fits inp.headroom then shapePlan g inp x y first
      else
        match (later.map (shapePlan g inp x y)).find? (fun c => c.fits inp.headroom) with
        | some pl => pl
        | none => takenOf inp.headroom ((dimSteps g inp.colour).map (dimPlan g inp x y (later.getLastD first)))
            (shapePlan g inp x y (later.getLastD first)) := by
    unfold ladder
    dsimp only
    rw [← hfirst]
    by_cases hfits : (shapePlan g inp x y first).fits inp.headroom = true
    · rw [if_pos (by rw [hfirst] at hfits ⊢; exact hfits), if_pos hfits, hfirst]
      rfl
    · rw [if_neg (by rw [hfirst] at hfits ⊢; exact hfits), if_neg hfits]
      cases hfound : (later.map (shapePlan g inp x y)).find? (fun c => c.fits inp.headroom) with
      | some pl => rw [htaken'.trans hfound]
      | none =>
        rw [htaken'.trans hfound]
        dsimp only
        rw [tryDims_eq, hlast (htaken'.trans hfound), hlater]
        rfl
  have hlastPlan : (later.map (shapePlan g inp x y)).getLastD (shapePlan g inp x y first)
      = shapePlan g inp x y (later.getLastD first) := by
    rw [List.getLastD_eq_getLast?, List.getLastD_eq_getLast?, List.getLast?_map]
    cases later.getLast? <;> rfl
  rw [hladder, hplans, List.map_cons, List.cons_append, takenOf_cons, takenOf_append, hlastPlan]

/-- The candidates are none of them at step noFit: that step marks the last one when none fits (R93). -/
theorem ladderPlans_step {g : Figures} {inp : LadderInput} {x y : Int} {segs : List SegPlan} {stretch : Nat} :
    ∀ c ∈ ladderPlans g inp x y segs stretch, c.step ≠ .noFit := by
  have hlater : ∀ sh ∈ laterShapes g x y segs stretch, sh.step ≠ .noFit := by
    intro sh hsh
    unfold laterShapes at hsh
    split at hsh
    · cases hsh
    · rcases List.mem_cons.1 hsh with rfl | h
      · exact fun h => by cases h
      · obtain ⟨i, _, rfl⟩ := List.mem_map.1 h
        exact fun h => by cases h
  intro c hc
  rcases List.mem_append.1 hc with h | h
  · obtain ⟨sh, hsh, rfl⟩ := List.mem_map.1 h
    rcases List.mem_cons.1 hsh with rfl | hsh
    · exact fun h => by cases h
    · exact hlater sh (List.mem_filter.1 hsh).1
  · obtain ⟨m, _, rfl⟩ := List.mem_map.1 h
    exact fun h => by cases h

theorem takenOf_spec {plans : List Plan} {h : Int} {last : Plan} (hne : plans ≠ []) (hsteps : ∀ c ∈ plans, c.step ≠ .noFit) :
    TakenOf plans h (takenOf h plans last) := by
  unfold takenOf
  cases hfound : plans.find? (fun c => c.fits h) with
  | some c =>
    have hfits : (c.request : Int) ≤ h := of_decide_eq_true (List.find?_some (p := fun c : Plan => c.fits h) hfound)
    have hmem := List.mem_of_find?_eq_some hfound
    refine ⟨fun d hd => ?_, fun hall => absurd (hall c hmem) (not_lt.2 hfits),
      fun hno => absurd hno (hsteps c hmem), fun habove => absurd habove (not_lt.2 hfits)⟩
    exact Option.some.inj (hfound.symm.trans hd)
  | none =>
    have hlast : plans.getLast? = some (plans.getLast hne) := List.getLast?_eq_some_getLast hne
    have hlastD : plans.getLastD last = plans.getLast hne := by rw [List.getLastD_eq_getLast?, hlast]; rfl
    have habove : h < ((plans.getLast hne).request : Int) :=
      not_le.1 (of_decide_eq_false (Bool.eq_false_iff.2 ((List.find?_eq_none.1 hfound) _ (List.getLast_mem hne))))
    dsimp only
    rw [hlastD]
    refine ⟨fun d hd => ?_, fun _ c hc => ?_, fun _ => habove, fun _ => rfl⟩
    · cases hfound.symm.trans hd
    · rw [← Option.some.inj (hlast.symm.trans hc)]

/-- What the ladder takes is what R92 and R93 say it takes of its candidates. -/
theorem ladder_taken (g : Figures) (inp : LadderInput) (x y : Int) (segs : List SegPlan) (stretch : Nat) :
    TakenOf (ladderPlans g inp x y segs stretch) inp.headroom (ladder g inp x y segs stretch).1 := by
  rw [ladder_eq g inp x y segs stretch (ladder g inp x y segs stretch).1]
  exact takenOf_spec (List.cons_ne_nil _ _) ladderPlans_step

/-! ### What every candidate keeps of the segments it is made from -/

/-- A plan made from a reference, for a number of segments, that asks for no less than its own claim (R89, R91). -/
structure MadeFrom (x y : Int) (n : Nat) (pl : Plan) : Prop where
  refPan : pl.refPan = x
  refTilt : pl.refTilt = y
  segs : pl.segs.length = n
  claim : pl.planClaim ≤ pl.request

theorem shapeSegs_length (g : Figures) (timing : SegPlan → Timing) : ∀ (x y : Int) (segs : List SegPlan),
    (shapeSegs g timing x y segs).length = segs.length := by
  intro x y segs
  induction segs generalizing x y with
  | nil => rfl
  | cons seg rest ih => exact congrArg Nat.succ (ih _ _)

theorem baseSegs_length (g : Figures) : ∀ (x y : Int) (l : List ((Int × Int) × PoolSegment)), (baseSegs g x y l).1.length = l.length := by
  intro x y l
  induction l generalizing x y with
  | nil => rfl
  | cons e rest ih => exact congrArg Nat.succ (ih _ _)

theorem endsOf_length (g : Figures) (pose : Option MountPose) (mode : CallMode) : ∀ (x y : Int) (l : List PoolSegment) (k : AimCounters),
    (endsOf g pose mode x y l k).1.length = l.length := by
  intro x y l
  induction l generalizing x y with
  | nil => exact fun _ => rfl
  | cons seg rest ih => exact fun _ => congrArg Nat.succ (ih _ _ _)

theorem laterShapes_length {g : Figures} {x y : Int} {segs : List SegPlan} {stretch : Nat} :
    ∀ sh ∈ laterShapes g x y segs stretch, sh.segs.length = segs.length := by
  intro sh hsh
  unfold laterShapes at hsh
  split at hsh
  · cases hsh
  · rcases List.mem_cons.1 hsh with rfl | h
    · exact shapeSegs_length _ _ _ _ _
    · obtain ⟨i, _, rfl⟩ := List.mem_map.1 h
      exact shapeSegs_length _ _ _ _ _

theorem planOf_madeFrom (g : Figures) (inp : LadderInput) (x y : Int) (sh : Shape) (step : LadderStep) (scale : Nat) :
    MadeFrom x y sh.segs.length (planOf g inp x y sh step scale) := ⟨rfl, rfl, rfl, Nat.le_max_left _ _⟩

theorem ladderPlans_madeFrom {g : Figures} {inp : LadderInput} {x y : Int} {segs : List SegPlan} {stretch : Nat} :
    ∀ c ∈ ladderPlans g inp x y segs stretch, MadeFrom x y segs.length c := by
  have hshape : ∀ sh ∈ makeShape g x y segs .asRequested timingA :: sentShapes g x y segs stretch, sh.segs.length = segs.length := by
    intro sh hsh
    rcases List.mem_cons.1 hsh with rfl | h
    · exact shapeSegs_length _ _ _ _ _
    · exact laterShapes_length sh (List.mem_filter.1 h).1
  intro c hc
  rcases List.mem_append.1 hc with h | h
  · obtain ⟨sh, hsh, rfl⟩ := List.mem_map.1 h
    exact hshape sh hsh ▸ planOf_madeFrom ..
  · obtain ⟨m, _, rfl⟩ := List.mem_map.1 h
    have hlast : (sentShapes g x y segs stretch).getLastD (makeShape g x y segs .asRequested timingA)
        ∈ makeShape g x y segs .asRequested timingA :: sentShapes g x y segs stretch := by
      rw [List.getLastD_eq_getLast?]
      cases hlast : (sentShapes g x y segs stretch).getLast? with
      | none => exact List.mem_cons_self
      | some sh => exact List.mem_cons_of_mem _ (List.mem_of_getLast? hlast)
    exact hshape _ hlast ▸ planOf_madeFrom ..

theorem ladder_madeFrom (g : Figures) (inp : LadderInput) (x y : Int) (segs : List SegPlan) (stretch : Nat) :
    MadeFrom x y segs.length (ladder g inp x y segs stretch).1 := by
  obtain ⟨last, hlast⟩ : ∃ pl : Plan, pl ∈ ladderPlans g inp x y segs stretch := ⟨_, List.mem_cons_self⟩
  rw [ladder_eq g inp x y segs stretch last]
  unfold takenOf
  split
  next c hfound => exact ladderPlans_madeFrom c (List.mem_of_find?_eq_some hfound)
  · have hmem : (ladderPlans g inp x y segs stretch).getLastD last ∈ ladderPlans g inp x y segs stretch := by
      rw [List.getLastD_eq_getLast?]
      cases h : (ladderPlans g inp x y segs stretch).getLast? with
      | none => exact hlast
      | some c => exact List.mem_of_getLast? h
    have h := ladderPlans_madeFrom _ hmem
    exact ⟨h.refPan, h.refTilt, h.segs, h.claim⟩

/-! ### The CLAIM of a request (R15, R103) -/

/-- A frame offered to a queue that is not full is in it: at its end, or in the place of the one of its kind and subject (R15). -/
theorem queueOffer_offered (b : TxBody) {q : List TxEntry} (h : q.length < 12) : ∃ q', queueOffer q b = some q' ∧ Offered b q' := by
  unfold queueOffer
  split
  next hany =>
    obtain ⟨e, he, hsame⟩ := List.any_eq_true.1 hany
    refine ⟨_, rfl, e.replaceBy b, List.mem_map.2 ⟨e, he, if_pos hsame⟩, ?_⟩
    unfold TxEntry.replaceBy
    split
    · exact .inr rfl
    · exact .inl rfl
  · exact ⟨_, if_pos h, ⟨b, 0, false, none⟩, List.mem_append_right _ List.mem_cons_self, .inl rfl⟩

theorem offer_offered (b : TxBody) {s : State} (h : s.link.queue.length < 12) :
    ∃ q, offer b s = { s with link := { s.link with queue := q } } ∧ Offered b q := by
  obtain ⟨q, hq, hoffered⟩ := queueOffer_offered b h
  refine ⟨q, ?_, hoffered⟩
  unfold offer
  rw [hq]

/-- A request outside solo mode that finds the queue not full: its round is OPEN and its CLAIM offered (R103). -/
theorem request_offered (w : Nat) (r : Reason) (p : Purpose) {s : State} (hsolo : s.power.solo = none)
    (hheld : s.settling = false ∨ p = .lowering) (h : s.link.queue.length < 12) :
    ∃ q, request w r p s =
        { s with
          power := { s.power with
            round := some ⟨false, w, r, p, false⟩
            reclaim := none
            deferred := deferFor s.power.round p s.power.deferred
            abandoned := false }
          link := { s.link with queue := q } }
      ∧ Offered (.claim (claimFrame s.fig w r)) q := by
  rw [request_of_solo_none w r p hsolo, openRound_offered w r (by exact hheld)]
  exact offer_offered (.claim (claimFrame s.fig w r)) (by exact h)

theorem settling_of_none {s : State} (h : s.power.settle = none) : s.settling = false := by simp [State.settling, h]

/-! ### The plan of the one call held (R91, R94) -/

/-- The one call held takes a plan, and its lead and the planner's counters are noted (R91, R99, R128). -/
def withPlan (r : CallRecord) (pl : Plan) (cap : Nat) (s : State) : State :=
  { s with
    store := { s.store with calls := [{ r with plan := some pl, state := r.state.onPlan }] }
    landing := { s.landing with
      records := s.landing.records.map (fun l =>
        if l.callId == r.callId then { l with plannedLead := pl.segs.head?.map SegPlan.d } else l) }
    planner := { s.planner with counters := countPlan pl.step cap s.planner.counters } }

theorem recordPlan_single {s : State} {r : CallRecord} (h : s.store.calls = [r]) (pl : Plan) (cap : Nat) :
    recordPlan r.callId pl cap s = request pl.request .move (.move r.callId) (withPlan r pl cap s) := by
  unfold recordPlan
  rw [updateCall_single h]
  rfl

/-- The segments a call is planned with: the ends of its chain, clamped and mandatorily stretched (R66, R86, R91). -/
def State.segsFor (s : State) (r : CallRecord) : List SegPlan :=
  (baseSegs s.fig s.planner.pan s.planner.tilt
    ((endsOf s.fig s.aim.pose r.mode s.planner.pan s.planner.tilt r.chain s.aim.counters).1.zip r.chain)).1

/-- The plan that planning a call takes (R91). -/
def State.planFor (s : State) (r : CallRecord) : Plan :=
  (ladder s.fig (s.ladderInput r.colour) s.planner.pan s.planner.tilt (s.segsFor r) r.stretch).1

theorem planCall_single {s : State} {r : CallRecord} (h : s.store.calls = [r]) :
    ∃ (k : AimCounters) (cap : Nat),
      planCall r.callId s = recordPlan r.callId (s.planFor r) cap { s with aim := { s.aim with counters := k } } := by
  unfold planCall
  rw [findCall_only h]
  exact ⟨_, _, rfl⟩

theorem planFor_madeFrom (s : State) (r : CallRecord) :
    MadeFrom s.planner.pan s.planner.tilt r.chain.length (s.planFor r) := by
  have hlength : (s.segsFor r).length = r.chain.length := by
    rw [State.segsFor, baseSegs_length, List.length_zip, endsOf_length, Nat.min_self]
  exact hlength ▸ ladder_madeFrom ..

theorem replanCall_single {s : State} {r : CallRecord} {old : Plan} (h : s.store.calls = [r]) (hplan : r.plan = some old) :
    ∃ cap : Nat,
      replanCall r.callId s =
        recordPlan r.callId (ladder s.fig (s.ladderInput r.colour) old.refPan old.refTilt old.segs r.stretch).1 cap s := by
  unfold replanCall
  rw [findCall_only h]
  dsimp only
  rw [hplan]
  exact ⟨_, rfl⟩

/-- What the ladder reads outside solo mode with no call running: no floor, and the headroom of the budget (R89, R92, R101). -/
theorem ladderInput_eq {s : State} {g : Figures} (k : Option ColourPart) (hg : s.station.figures = some g) (hsolo : s.power.solo = none)
    (hrun : s.someRunning = false) :
    s.ladderInput k = ⟨k, s.colour.bound, 0,
      (g.budget : Int) - ((s.clock.peers.filter (fun p => p.circuit == g.circuit)).map Peer.granted).sum⟩ := by
  unfold State.ladderInput State.requestFloor State.headroom
  rw [hrun, sumOthers_eq hg, fig_eq hg, show s.soloOn = false by simp [State.soloOn, hsolo]]
  rfl

theorem ladderInput_solo {s : State} {g : Figures} {m : Nat} (k : Option ColourPart) (hg : s.station.figures = some g)
    (hsolo : s.power.solo = some m) (hrun : s.someRunning = false) :
    s.ladderInput k = ⟨k, s.colour.bound, 0, (g.soloAllowance : Int)⟩ := by
  unfold State.ladderInput State.requestFloor State.headroom
  rw [hrun, fig_eq hg, show s.soloOn = true by simp [State.soloOn, hsolo]]
  rfl

theorem someRunning_single {s : State} {r : CallRecord} (h : s.store.calls = [r]) (hr : r.carriedOut = false) :
    s.someRunning = false := by simp [State.someRunning, h, hr]

/-! ### The next call is planned (R50) -/

theorem withdrawOthers_single {s : State} {r : CallRecord} (h : s.store.calls = [r]) : withdrawOthers r.callId s = s := by
  simp [withdrawOthers, h, CallRecord.outOfTurn]

/-- A PENDING call that can be planned, alone in the table with its plan point reached, is planned (R50). -/
theorem review_plans_single {s : State} {r : CallRecord} (h : s.store.calls = [r]) (hmode : s.station.mode.makesTests = true)
    (hstate : r.state = .pending) (hkind : r.mode ≠ .follow) (hheld : r.mode ≠ .colour → r.chain ≠ [])
    (hpoint : atOrAfter s.clock.linkClock (r.goTime - 50) = true) : review s = planCall r.callId s := by
  have hnext : s.nextCall = some r := by
    have hcan : r.canBeNext s.clock.linkClock = true := by
      unfold CallRecord.canBeNext CallRecord.carriedOut
      rw [hstate, Bool.and_eq_true, Bool.and_eq_true]
      exact ⟨⟨bne_iff_ne.2 hkind, hpoint⟩, rfl⟩
    rw [State.nextCall, h, List.find?_cons_of_pos hcan]
  have hplannable : r.plannable = true := by
    unfold CallRecord.plannable
    rw [hstate, Bool.and_eq_true, Bool.or_eq_true]
    refine ⟨rfl, ?_⟩
    by_cases hc : r.mode = .colour
    · exact .inl (by rw [hc]; rfl)
    · exact .inr (by simpa using hheld hc)
  unfold review
  rw [if_neg (by rw [hmode]; decide), hnext]
  dsimp only
  rw [withdrawOthers_single h, if_pos hplannable]

end Sys2Proof.Machine
end


section
/-! SUPPORT. The settled obligation about the plan point, and those about the timers. -/

namespace Sys2Proof.Machine

/-! ### A plan recorded (R91, R103, R121) -/

/-- Outside solo mode a recorded plan has its round OPEN and its CLAIM offered (R91, R103). -/
theorem recordPlan_offered {s : State} {r : CallRecord} (h : s.store.calls = [r]) (pl : Plan) (cap : Nat)
    (hsolo : s.power.solo = none) (hsettle : s.power.settle = none) (hroom : s.link.queue.length < 12) :
    ∃ q, recordPlan r.callId pl cap s =
        { withPlan r pl cap s with
          power := { s.power with
            round := some ⟨false, pl.request, .move, .move r.callId, false⟩
            reclaim := none
            deferred := deferFor s.power.round (.move r.callId) s.power.deferred
            abandoned := false }
          link := { s.link with queue := q } }
      ∧ Offered (.claim (claimFrame s.fig pl.request .move)) q := by
  rw [recordPlan_single h]
  exact request_offered (s := withPlan r pl cap s) _ _ _ hsolo (.inl (settling_of_none hsettle)) hroom

/-- In solo mode a recorded plan is decided at once by the solo allowance (R121). -/
theorem recordPlan_solo {s : State} {r : CallRecord} {m : Nat} (h : s.store.calls = [r]) (pl : Plan) (cap : Nat)
    (hsolo : s.power.solo = some m) (hround : s.power.round = none) (hdef : s.power.deferred = [])
    (hab : s.power.abandoned = false) :
    recordPlan r.callId pl cap s =
      if pl.request ≤ s.fig.soloAllowance then
        closeGranted pl.request (.move r.callId) { withPlan r pl cap s with power := { s.power with granted := pl.request } }
      else
        { withPlan r pl cap s with power := { s.power with
          round := some ⟨true, pl.request, .move, .move r.callId, false⟩
          reclaim := some 200
          counters := { s.power.counters with ownRefused := satInc s.power.counters.ownRefused } } } := by
  have hdefer : deferFor s.power.round (.move r.callId) s.power.deferred = [] := by
    rw [hround, hdef]
    rfl
  have hsame : ({ withPlan r pl cap s with power := { s.power with
      deferred := deferFor s.power.round (.move r.callId) s.power.deferred, abandoned := false } } : State) = withPlan r pl cap s := by
    rw [hdefer, ← hdef, ← hab]
    rfl
  have hon : (withPlan r pl cap s).soloOn = true := by simp [State.soloOn, withPlan, hsolo]
  have hdecide : request pl.request .move (.move r.callId) (withPlan r pl cap s)
      = decideLocally pl.request .move (.move r.callId) (withPlan r pl cap s) := by
    unfold request
    dsimp only
    rw [if_pos hon]
    exact congrArg (decideLocally _ _ _) hsame
  rw [recordPlan_single h, hdecide]
  unfold decideLocally
  by_cases hfit : pl.request ≤ s.fig.soloAllowance
  · rw [if_pos (.inr (by exact hfit)), if_pos hfit]
    rfl
  · rw [if_neg (not_or.2 ⟨by simp, by exact hfit⟩), if_neg hfit]
    rfl

theorem power_of_no_round {p : PowerState} (h : p.round = none) (w : Nat) :
    ({ p with granted := w, round := none, reclaim := none } : PowerState) = { p with granted := w, reclaim := none } := by
  cases p
  cases h
  rfl

theorem planFor_taken {s : State} {g : Figures} {r : CallRecord} {h : Int} (hg : s.station.figures = some g)
    (hinp : s.ladderInput r.colour = ⟨r.colour, s.colour.bound, 0, h⟩) :
    TakenOf (ladderPlans g ⟨r.colour, s.colour.bound, 0, h⟩ s.planner.pan s.planner.tilt
      (baseSegs g s.planner.pan s.planner.tilt
        ((endsOf g s.aim.pose r.mode s.planner.pan s.planner.tilt r.chain s.aim.counters).1.zip r.chain)).1 r.stretch) h
      (s.planFor r) := by
  have htaken := ladder_taken g ⟨r.colour, s.colour.bound, 0, h⟩ s.planner.pan s.planner.tilt (s.segsFor r) r.stretch
  have hplan : s.planFor r = (ladder g ⟨r.colour, s.colour.bound, 0, h⟩ s.planner.pan s.planner.tilt (s.segsFor r) r.stretch).1 := by
    rw [State.planFor, hinp, fig_eq hg]
  rw [← hplan, State.segsFor, fig_eq hg] at htaken
  exact htaken

/-- Settles O37: the ladder's plan against the headroom, its round OPEN; in solo mode decided at once. -/
theorem planPointOpensRound : Obligations.PlanPointOpensRound := by
  refine ⟨fun s r hquiet hmode hcalls hstate hkind hheld hpoint hsolo hsettle hround hroom => ?_,
    fun s g r m hquiet hmode hg hsolo hcalls hstate hkind hheld hpoint hround hdef hland => ?_⟩
  · have htests : s.station.mode.makesTests = true := by rw [hmode]; rfl
    obtain ⟨k, cap, hplan⟩ := planCall_single hcalls
    obtain ⟨q, hrecord, hoffered⟩ := recordPlan_offered (s := { s with aim := { s.aim with counters := k } }) hcalls (s.planFor r) cap
      hsolo hsettle hroom
    have hmade := planFor_madeFrom s r
    have hexec : exec .planPoint s = .next (closeEvent s) := congrArg Host.Outcome.next (if_pos htests)
    rw [closeEvent, review_plans_single hcalls htests hstate hkind hheld hpoint, hplan, hrecord,
      conclude_of_quiet (by exact ⟨hquiet.1, rfl⟩)] at hexec
    refine ⟨_, s.planFor r, hexec, ?_, hmade.refPan, hmade.refTilt, hmade.segs, hmade.claim, fun g hg => ⟨?_, ?_⟩, rfl, rfl, rfl, rfl,
      rfl, rfl, rfl, rfl, rfl, rfl, rfl, rfl, rfl⟩
    · show [{ r with plan := some (s.planFor r), state := r.state.onPlan }] = _
      rw [hstate]
      rfl
    · exact planFor_taken hg (ladderInput_eq _ hg hsolo (someRunning_single hcalls (by rw [CallRecord.carriedOut, hstate]; rfl)))
    · have hframe : claimFrame s.fig (s.planFor r).request .move
        = ⟨BitVec.ofNat 8 g.circuit, BitVec.ofNat 16 (s.planFor r).request, 1⟩ := by
        rw [fig_eq hg]
        rfl
      rw [← hframe]
      exact hoffered
  · have htests : s.station.mode.makesTests = true := by rw [hmode]; rfl
    obtain ⟨k, cap, hplan⟩ := planCall_single hcalls
    obtain ⟨u, hu⟩ : ∃ u : State, u = { s with aim := { s.aim with counters := k } } := ⟨_, rfl⟩
    have hsolo' := recordPlan_solo (s := u) (r := r) (m := m) (by rw [hu]; exact hcalls) (s.planFor r) cap (by rw [hu]; exact hsolo)
      (by rw [hu]; exact hround) (by rw [hu]; exact hdef) (by rw [hu]; exact hquiet.2)
    have hexec : exec .planPoint s = .next (conclude (planCall r.callId s)) :=
      congrArg Host.Outcome.next ((if_pos htests).trans (congrArg conclude
        (review_plans_single hcalls htests hstate hkind hheld hpoint)))
    have htaken := planFor_taken hg (ladderInput_solo r.colour hg hsolo
      (someRunning_single hcalls (by rw [CallRecord.carriedOut, hstate]; rfl)))
    obtain ⟨v, hv⟩ : ∃ v : State, v = withPlan r (s.planFor r) cap u := ⟨_, rfl⟩
    have hland' : v.landing = s.landing := by
      rw [hv, hu]
      show ({ s.landing with records := s.landing.records.map _ } : LandingState) = s.landing
      rw [hland, List.map_nil, ← hland]
    have hrecords : v.landing.records = [] := by rw [hland']; exact hland
    have hcalls' : v.store.calls = [{ r with plan := some (s.planFor r), state := .claiming }] := by
      rw [hv]
      show [{ r with plan := some (s.planFor r), state := r.state.onPlan }] = _
      rw [hstate]
      rfl
    have hstore : v.store = { s.store with calls := [{ r with plan := some (s.planFor r), state := .claiming }] } := by
      rw [← hcalls', hv, hu]
      rfl
    have hquiet' : Quiet v := by rw [hv, hu]; exact hquiet
    have hvu := hv.trans (congrArg (withPlan r (s.planFor r) cap) hu)
    have hpower : v.power = s.power := (congrArg State.power hvu :)
    rw [hplan, ← hu, hsolo', show u.fig = g by rw [hu]; exact fig_eq hg, ← hv, show u.power = s.power by rw [hu]] at hexec
    by_cases hfit : (s.planFor r).request ≤ g.soloAllowance
    · have hgrant := grantCall_claiming (c := { r with plan := some (s.planFor r), state := .claiming })
        (s := { v with
          power := { s.power with granted := (s.planFor r).request, round := none, reclaim := none }, notices := [.rearm] })
        hcalls' rfl
      rw [offerLanding_none (by exact hrecords)] at hgrant
      have hconclude := conclude_granted (p := .move r.callId) (w := (s.planFor r).request)
        (u := { v with power := { s.power with granted := (s.planFor r).request } })
        (t := { v with
          store := { v.store with calls := [{ r with plan := some (s.planFor r), state := .planned }] }
          power := { s.power with granted := (s.planFor r).request, round := none, reclaim := none } })
        (by exact ⟨hquiet'.1, hquiet.2⟩) hgrant rfl hdef (by exact ⟨hquiet'.1, hquiet.2⟩)
        (by show 1 = v.store.calls.length; rw [hcalls']; rfl)
      rw [if_pos hfit, hconclude] at hexec
      refine ⟨_, s.planFor r, hexec, htaken, fun _ => ⟨?_, ?_⟩, fun habove => absurd hfit (Nat.not_le.2 habove),
        (congrArg State.link hvu :), (congrArg (fun x : State => x.planner.pan) hvu :), (congrArg (fun x : State => x.planner.tilt) hvu :),
        (congrArg (fun x : State => x.planner.motion) hvu :), hland', (congrArg State.colour hvu :), (congrArg State.clock hvu :),
        (congrArg State.drive hvu :), (congrArg State.cover hvu :), (congrArg State.station hvu :), (congrArg State.pending hvu :)⟩
      · exact congrArg (fun k : StoreState => { k with calls := [{ r with plan := some (s.planFor r), state := .planned }] }) hstore
      · exact power_of_no_round hround _
    · rw [if_neg hfit, conclude_of_quiet (by exact ⟨hquiet'.1, hquiet.2⟩)] at hexec
      refine ⟨_, s.planFor r, hexec, htaken, fun h => absurd h hfit, fun _ => ⟨hstore, rfl⟩,
        (congrArg State.link hvu :), (congrArg (fun x : State => x.planner.pan) hvu :), (congrArg (fun x : State => x.planner.tilt) hvu :),
        (congrArg (fun x : State => x.planner.motion) hvu :), hland', (congrArg State.colour hvu :), (congrArg State.clock hvu :),
        (congrArg State.drive hvu :), (congrArg State.cover hvu :), (congrArg State.station hvu :), (congrArg State.pending hvu :)⟩

end Sys2Proof.Machine
end


section
/-! SUPPORT. The settled obligation about the timers, and the entry to READY with no call held. -/

namespace Sys2Proof.Machine

/-- A request with no round before it and nothing deferred, outside solo mode, whose frame finds room (R103). -/
theorem request_first {w : Nat} {r : Reason} {p : Purpose} {s : State} (hround : s.power.round = none)
    (hsolo : s.power.solo = none) (hdef : s.power.deferred = []) (hab : s.power.abandoned = false)
    (hheld : s.settling = false ∨ p = .lowering) (hroom : HasRoom (.claim (claimFrame s.fig w r)) s.link.queue) :
    request w r p s =
      { s with
        power := { s.power with round := some ⟨false, w, r, p, false⟩, reclaim := none }
        link := { s.link with queue := queued (.claim (claimFrame s.fig w r)) s.link.queue } } := by
  have hd : deferFor s.power.round p s.power.deferred = s.power.deferred := by rw [hround, hdef]; rfl
  rw [request_room hsolo hheld hroom, hd, ← hab]

/-! ### The entry to READY with no call held (R113, R184, R188) -/

theorem hasRoom_beacon_queued {f : ClaimFields} {q : List TxEntry} (h : HasRoom .beacon q) (hlen : q.length < 11) :
    HasRoom .beacon (queued (.claim f) q) := by
  obtain ⟨_, hnone⟩ := h
  refine ⟨?_, fun e he => ?_⟩
  · show (q ++ [_]).length < 12
    rw [List.length_append]
    exact Nat.succ_lt_succ hlen
  · rcases List.mem_append.1 he with h | h
    · exact hnone e h
    · rw [List.mem_singleton.1 h]
      rfl

/-- A change of mode on a line in use, its BEACON finding room (R38, R184, R192). -/
theorem setMode_offered {m : StationMode} {s : State} (hm : m.linkOff = false) (hline : s.link.lineState ≠ .off)
    (hroom : HasRoom .beacon s.link.queue) :
    setMode m s =
      { s with
        station := { s.station with mode := m, statusAsserted := m.asserts }
        link := { s.link with queue := queued .beacon s.link.queue }
        clock := { s.clock with beaconTimer := some 200 } } := by
  have hkeep : enterLine m s.link = s.link := by
    unfold enterLine
    rw [hm]
    exact if_neg (by simpa using hline)
  unfold setMode beaconNow
  dsimp only
  rw [hm, hkeep, if_neg Bool.false_ne_true]
  exact offer_room (by exact hroom)

/-- READY entered with no call held, solo mode OFF and the link not lost: the lowering to the idle claim, then the BEACON. -/
theorem enterReady_idle {s : State} {g : Figures} (hquiet : Quiet s) (hg : s.station.figures = some g) (hcalls : s.store.calls = [])
    (hround : s.power.round = none) (hdef : s.power.deferred = []) (hsolo : s.power.solo = none) (hlost : s.link.linkLost = false)
    (hline : s.link.lineState ≠ .off)
    (hclaim : HasRoom (.claim ⟨BitVec.ofNat 8 g.circuit, BitVec.ofNat 16 (g.baseClaim + (g.pan.hold + g.tilt.hold)
      + emitterClaim g.emitterWatts s.colour.levels), 3⟩) s.link.queue)
    (hbeacon : HasRoom .beacon s.link.queue) (hlen : s.link.queue.length < 11) :
    enterReady s =
      { s with
        power := { s.power with
          reclaim := none
          round := some ⟨false, g.baseClaim + (g.pan.hold + g.tilt.hold) + emitterClaim g.emitterWatts s.colour.levels, .idle, .lowering,
            false⟩ }
        link := { s.link with
          queue := queued .beacon (queued (.claim ⟨BitVec.ofNat 8 g.circuit, BitVec.ofNat 16 (g.baseClaim
            + (g.pan.hold + g.tilt.hold) + emitterClaim g.emitterWatts s.colour.levels), 3⟩) s.link.queue) }
        clock := { s.clock with beaconTimer := some 200 }
        drive := { s.drive with homing := none }
        station := { s.station with mode := .ready, statusAsserted := false } } := by
  obtain ⟨w, hw⟩ : ∃ w : Nat, w = g.baseClaim + (g.pan.hold + g.tilt.hold) + emitterClaim g.emitterWatts s.colour.levels := ⟨_, rfl⟩
  rw [← hw] at hclaim ⊢
  obtain ⟨u, hu⟩ : ∃ u : State, u = { s with drive := { s.drive with homing := none } } := ⟨_, rfl⟩
  have hidle : u.idleClaim = w := by
    rw [hw, hu, State.idleClaim, fig_eq (by exact hg)]
    rfl
  have hframe : claimFrame u.fig w .idle = ⟨BitVec.ofNat 8 g.circuit, BitVec.ofNat 16 w, 3⟩ := by
    rw [hu, fig_eq (by exact hg)]
    rfl
  have hlower : requestLowering w u = { u with
      power := { s.power with round := some ⟨false, w, .idle, .lowering, false⟩, reclaim := none }
      link := { s.link with queue := queued (.claim ⟨BitVec.ofNat 8 g.circuit, BitVec.ofNat 16 w, 3⟩) s.link.queue } } := by
    refine (request_first (s := u) (by rw [hu]; exact hround) (by rw [hu]; exact hsolo) (by rw [hu]; exact hdef)
      (by rw [hu]; exact hquiet.2) (.inr rfl) (by rw [hframe, hu]; exact hclaim)).trans ?_
    rw [hframe, hu]
  have hready := setMode_offered (m := .ready) (s := requestLowering w u) rfl (by rw [hlower]; exact hline)
    (by rw [hlower]; exact hasRoom_beacon_queued hbeacon hlen)
  have hnodue : (setMode .ready (requestLowering w u)).dueCalls = [] := by
    rw [hready, hlower, hu, State.dueCalls]
    show (s.store.calls.filter _).map _ = []
    rw [hcalls]
    rfl
  have hentered : readyEntered s = setMode .ready (requestLowering w u) := by
    have hnext : (setMode .ready (requestLowering w u)).nextCall = none :=
      nextCall_of_nil (by rw [hready, hlower, hu]; exact hcalls)
    have hquiet' : Quiet (setMode .ready (requestLowering w u)) := by rw [hready, hlower, hu]; exact hquiet
    unfold readyEntered
    rw [← hu, hidle, goTests_of_none hnodue, closeEvent_of_none hquiet' hnext]
  rw [enterReady_eq, if_neg (by rw [hentered, hready, hlower, hu]; simp [hlost]), hentered, hready, hlower, hu]
  rfl

/-! ### Frames offered by timers (R15, R38, R150) -/

theorem same_beacon_iff (b : TxBody) : b.same .beacon = true ↔ b = .beacon := by
  cases b <;> simp [TxBody.same, TxBody.kind, TxBody.subject]

/-- A BEACON offered where one is queued already takes its place, or is held behind it on the line (R15). -/
theorem queueOffer_beacon {before after : List TxEntry} {e : TxEntry} (he : e.body = .beacon)
    (hother : ∀ x ∈ before ++ after, x.body ≠ .beacon) :
    queueOffer (before ++ e :: after) .beacon =
      some (before ++ (if e.inFlight then { e with next := some .beacon } else { e with attempts := 0 }) :: after) := by
  have hkeep (l : List TxEntry) (hl : ∀ x ∈ l, x.body ≠ .beacon) :
      l.map (fun x => if x.body.same .beacon then x.replaceBy .beacon else x) = l := by
    refine (List.map_congr_left fun x hx => ?_).trans (List.map_id l)
    exact if_neg fun h => hl x hx ((same_beacon_iff _).1 h)
  have hsame : e.body.same .beacon = true := (same_beacon_iff _).2 he
  have hreplaced : e.replaceBy .beacon = if e.inFlight then { e with next := some .beacon } else { e with attempts := 0 } := by
    unfold TxEntry.replaceBy
    rw [← he]
  unfold queueOffer
  rw [if_pos (List.any_eq_true.2 ⟨e, List.mem_append_right _ List.mem_cons_self, hsame⟩), List.map_append, List.map_cons,
    hkeep before fun x hx => hother x (List.mem_append_left _ hx), hkeep after fun x hx => hother x (List.mem_append_right _ hx),
    if_pos hsame, hreplaced]

/-- A HOLD that finds room in the queue restarts the restate timer (R150). -/
theorem offerHold_room {r : Role} {s : State}
    (h : HasRoom (.cover ⟨BitVec.ofNat 8 r.target, 1, BitVec.ofNat 16 s.cover.ownQ, BitVec.ofNat 8 r.count,
      if s.cover.onTarget then 1 else 0⟩) s.link.queue) :
    offerHold r s =
      { s with
        cover := { s.cover with restate := some 200 }
        link := { s.link with queue := queued (.cover ⟨BitVec.ofNat 8 r.target, 1, BitVec.ofNat 16 s.cover.ownQ,
          BitVec.ofNat 8 r.count, if s.cover.onTarget then 1 else 0⟩) s.link.queue } } := by
  have hframe : coverFrame s r.target 1 r.count s.cover.onTarget = ⟨BitVec.ofNat 8 r.target, 1, BitVec.ofNat 16 s.cover.ownQ,
      BitVec.ofNat 8 r.count, if s.cover.onTarget then 1 else 0⟩ := by
    unfold coverFrame
    cases s.cover.onTarget <;> rfl
  unfold offerHold
  rw [hframe]
  exact offer_room (s := { s with cover := { s.cover with restate := some 200 } }) h

/-- Settles O36: each timer's frame in the queue; the ladder again for an AWAITING call; READY where no homing is needed. -/
theorem timersOfferFrames : Obligations.TimersOfferFrames := by
  refine ⟨fun s n ht hdue => ?_, fun s r ht hrole hphase hroom => ?_,
    fun s g r hquiet ht hround hwait hp hsolo hset hdef hg hroom => ?_,
    fun s g r c old hquiet ht hround hwait hp hcalls hstate hplan hsolo hset hdef hg hlen => ?_,
    fun s g hquiet ht hmode hneed hg hround hdef hsolo hlost hline hcalls hclaim hbeacon hlen => ?_,
    fun s g r ht hmode hneed hg hround hheld hroom => ?_⟩
  · have hexec : exec .beaconTimer s = .next
      (offer .beacon { s with clock := { s.clock with beaconTimer := some 200, beaconDue := false } }) :=
      congrArg Host.Outcome.next (if_pos (by rw [ht, hdue]; rfl))
    refine ⟨fun hroom => ?_, fun before after e hqueue he hother => ?_⟩
    · rw [hexec]
      exact congrArg Host.Outcome.next (offer_room (by exact hroom))
    · rw [hexec]
      refine congrArg Host.Outcome.next ?_
      unfold offer
      rw [hqueue, queueOffer_beacon he hother]
  · have hexec : exec .restateTimer s = .next (offerHold r s) := by
      refine congrArg Host.Outcome.next ((if_pos ht).trans ?_)
      unfold restate
      rw [hrole]
      exact if_pos hphase
    rw [hexec, offerHold_room hroom]
  · have hexec : exec .reclaimTimer s = .next (conclude (endWait { s with power := { s.power with reclaim := none } })) :=
      congrArg Host.Outcome.next (if_pos ht)
    obtain ⟨u, hu⟩ : ∃ u : State, u = countReclaim { s with power := { s.power with reclaim := none } } := ⟨_, rfl⟩
    have hask : endWait { s with power := { s.power with reclaim := none } } = askHoming u := by
      unfold endWait
      rw [hu]
      simp [hround, hwait, hp]
    obtain ⟨w, hw⟩ : ∃ w : Nat, w = g.baseClaim + (g.pan.hold + g.tilt.hold) + g.homingAllowance := ⟨_, rfl⟩
    rw [← hw] at hroom ⊢
    have hasked : u.homingClaim = w := by
      rw [hw, hu, State.homingClaim, fig_eq (by exact hg)]
      rfl
    have hframe : claimFrame u.fig w .homing = ⟨BitVec.ofNat 8 g.circuit, BitVec.ofNat 16 w, 0⟩ := by
      rw [hu, fig_eq (by exact hg)]
      rfl
    have hagain := request_again (w := w) (q := r) (r := .homing) (s := u) (by rw [hu]; exact hround) (by rw [hu]; exact hsolo)
      (by rw [hu]; exact hdef) (by rw [hu]; exact hquiet) (.inl (settling_of_none (by rw [hu]; exact hset)))
      (by rw [hframe, hu]; exact hroom)
    rw [hp, hframe] at hagain
    rw [hexec, hask, askHoming, hasked, hagain, conclude_of_quiet (by rw [hu]; exact hquiet), hu]
    rfl
  · have hexec : exec .reclaimTimer s = .next (conclude (endWait { s with power := { s.power with reclaim := none } })) :=
      congrArg Host.Outcome.next (if_pos ht)
    obtain ⟨u, hu⟩ : ∃ u : State, u = countReclaim { s with power := { s.power with reclaim := none } } := ⟨_, rfl⟩
    have hask : endWait { s with power := { s.power with reclaim := none } } = replanCall c.callId u := by
      unfold endWait
      rw [hu]
      simp [hround, hwait, hp]
    have hsame : c.state.onPlan = c.state := by rcases hstate with h | h <;> rw [h] <;> rfl
    have hrun : c.carriedOut = false := by rcases hstate with h | h <;> rw [CallRecord.carriedOut, h] <;> rfl
    have hcalls' : u.store.calls = [c] := by rw [hu]; exact hcalls
    have hg' : u.station.figures = some g := by rw [hu]; exact hg
    have hsolo' : u.power.solo = none := by rw [hu]; exact hsolo
    obtain ⟨cap, hreplan⟩ := replanCall_single hcalls' hplan
    have hinp := ladderInput_eq c.colour hg' hsolo' (someRunning_single hcalls' hrun)
    rw [hinp, fig_eq hg', show u.colour.bound = s.colour.bound by rw [hu]; rfl, show u.clock.peers = s.clock.peers by rw [hu]; rfl]
      at hreplan
    obtain ⟨h, hh⟩ : ∃ h : Int, h = (g.budget : Int) - ((s.clock.peers.filter (fun p => p.circuit == g.circuit)).map Peer.granted).sum :=
      ⟨_, rfl⟩
    rw [← hh] at hreplan ⊢
    have htaken := ladder_taken g ⟨c.colour, s.colour.bound, 0, h⟩ old.refPan old.refTilt old.segs c.stretch
    obtain ⟨pl, hpl⟩ : ∃ pl : Plan,
        pl = (ladder g ⟨c.colour, s.colour.bound, 0, h⟩ old.refPan old.refTilt old.segs c.stretch).1 := ⟨_, rfl⟩
    rw [← hpl] at hreplan htaken
    obtain ⟨q, hrecord, hoffered⟩ := recordPlan_offered hcalls' pl cap hsolo' (by rw [hu]; exact hset) (by rw [hu]; exact hlen)
    have hdefer : deferFor u.power.round (.move c.callId) u.power.deferred = [] := by
      rw [hu]
      show deferFor s.power.round (.move c.callId) s.power.deferred = []
      rw [hround, hdef]
      simp [deferFor, hp]
    rw [hdefer] at hrecord
    have hframe : claimFrame u.fig pl.request .move = ⟨BitVec.ofNat 8 g.circuit, BitVec.ofNat 16 pl.request, 1⟩ := by
      rw [fig_eq hg']
      rfl
    rw [hframe] at hoffered
    rw [hask, hreplan, hrecord, conclude_of_quiet (by rw [hu]; exact ⟨hquiet.1, rfl⟩), hu] at hexec
    refine ⟨_, pl, hexec, htaken, ?_, ?_, hoffered, rfl, rfl, rfl, rfl, rfl, rfl, rfl, rfl, rfl, rfl, rfl, rfl⟩
    · show ({ s.store with calls := [{ c with plan := some pl, state := c.state.onPlan }] } : StoreState) = _
      rw [hsame]
    · show ({ s.power with
          round := some ⟨false, pl.request, .move, .move c.callId, false⟩
          reclaim := none
          deferred := []
          abandoned := false
          counters := { s.power.counters with reclaims := satInc s.power.counters.reclaims } } : PowerState) = _
      rw [← hdef, ← hquiet.2]
  · have hset : settleOver s = enterReady { s with power := { s.power with settle := none } } := by
      unfold settleOver offerHeld
      simp [hround, hmode, hneed]
    have hexec : exec .viewSettleEnd s = .next (settleOver s) := congrArg Host.Outcome.next (if_pos ht)
    rw [hexec, hset, enterReady_idle (s := { s with power := { s.power with settle := none } }) hquiet hg hcalls hround hdef hsolo hlost
      hline hclaim hbeacon hlen]
  · have hexec : exec .viewSettleEnd s = .next (settleOver s) := congrArg Host.Outcome.next (if_pos ht)
    have hframe : claimFrame s.fig r.request r.reason
        = ⟨BitVec.ofNat 8 g.circuit, BitVec.ofNat 16 r.request, BitVec.ofNat 8 r.reason.code⟩ := by
      rw [fig_eq hg]
      rfl
    rw [← hframe] at hroom ⊢
    have hoffer : offerHeld { s with power := { s.power with settle := none } } =
        { s with
          power := { s.power with settle := none, round := some { r with held := false } }
          link := { s.link with queue := queued (.claim (claimFrame s.fig r.request r.reason)) s.link.queue } } := by
      unfold offerHeld
      dsimp only
      rw [hround]
      dsimp only
      rw [if_pos hheld]
      exact offer_room (by exact hroom)
    rw [hexec]
    refine congrArg Host.Outcome.next ?_
    unfold settleOver
    rw [hoffer]
    exact if_neg (by simp [hneed])

end Sys2Proof.Machine
end


section
/-! SUPPORT. Go for the one call held, and the settled obligation about a go with no grant. -/

namespace Sys2Proof.Machine

/-! ### A call passes go (R51, R52, R53) -/

/-- The late-start count after a call goes (R51). -/
def lateCount (s : State) (r : CallRecord) : Nat :=
  if 2 < (s.clock.linkClock - r.goTime).toNat then satInc s.store.counters.lateStart else s.store.counters.lateStart

/-- The one call held, marked as having reached go (R51). -/
def gone (r : CallRecord) (s : State) : State :=
  { s with store := { s.store with
      calls := [{ r with reachedGo := true }]
      counters := { s.store.counters with lateStart := lateCount s r } } }

theorem satIf_decide (p : Prop) [Decidable p] (n : Nat) : satIf (decide p) n = if p then satInc n else n := by
  unfold satIf
  by_cases h : p <;> simp [h]

theorem satIf_lateAt (s : State) (r : CallRecord) :
    satIf (r.lateAt s.clock.linkClock) s.store.counters.lateStart = lateCount s r :=
  satIf_decide (2 < (s.clock.linkClock - r.goTime).toNat) _

theorem markGo_single {s : State} {r : CallRecord} (h : s.store.calls = [r]) : markGo r s = gone r s := by
  unfold markGo
  dsimp only
  rw [updateCall_single h]
  dsimp only
  rw [satIf_lateAt]
  rfl

/-- What the one call held does at its go, nothing preempted (R52, R132). -/
def goneOn (r : CallRecord) (s : State) : State :=
  goEffect r (landingGo r.callId (r.state == .planned) (gone r s))

theorem dueCalls_single {s : State} {r : CallRecord} (h : s.store.calls = [r]) (hgo : r.reachedGo = false)
    (hdue : atOrAfter s.clock.linkClock r.goTime = true) : s.dueCalls = [r.callId] := by
  simp [State.dueCalls, h, CallRecord.due, hgo, hdue]

theorem preempted_single {s : State} {r : CallRecord} (h : s.store.calls = [r]) : s.preempted r.callId = [] := by
  simp [State.preempted, h]

/-- The go of the one call held, with nothing told in the middle of it: the call stands, or has ended and the claim is lowered
(R51, R52, R59). -/
theorem goTests_single {s : State} {r : CallRecord} (h : s.store.calls = [r]) (hgo : r.reachedGo = false)
    (hdue : atOrAfter s.clock.linkClock r.goTime = true) (hn : (goneOn r s).notices = []) :
    goTests s = if ((goneOn r s).findCall r.callId).isNone then lowerAfterEnd (goneOn r s) else goneOn r s := by
  have hpreempt : preempt false r.callId (gone r s) = gone r s := by
    unfold preempt
    rw [preempted_single (r := { r with reachedGo := true }) rfl]
    rfl
  have hpass : passGo false r s = goneOn r s := by
    unfold passGo
    rw [markGo_single h, hpreempt]
    exact tellSoFar_of_none _ hn
  have hone : goOne [] r.callId s =
      if ((goneOn r s).findCall r.callId).isNone then lowerAfterEnd (goneOn r s) else goneOn r s := by
    unfold goOne
    rw [findCall_only h, preempted_single h]
    dsimp only
    rw [show (!([] : List Word16).isEmpty && !startsAmong [r.callId] s) = false from rfl, hpass]
    simp [startsAmong]
  unfold goTests
  rw [dueCalls_single h hgo hdue]
  exact hone

/-- GO of the one call held, which stands after it as the one call held. -/
theorem go_stands {s : State} {r c : CallRecord} (hmode : s.station.mode = .ready) (h : s.store.calls = [r])
    (hgo : r.reachedGo = false) (hdue : atOrAfter s.clock.linkClock r.goTime = true) (hquiet : Quiet (goneOn r s))
    (hc : (goneOn r s).store.calls = [c]) (hid : c.callId = r.callId) (hplan : c.plannable = false) :
    exec .go s = .next (goneOn r s) := by
  have hstands : ((goneOn r s).findCall r.callId).isNone = false := by rw [← hid, findCall_only hc]; rfl
  have htests := goTests_single h hgo hdue hquiet.1
  rw [hstands, if_neg Bool.false_ne_true] at htests
  refine congrArg Host.Outcome.next ((if_pos (by rw [hmode]; rfl)).trans ?_)
  rw [htests, closeEvent, review_single hc hplan, conclude_of_quiet hquiet]

/-! ### Landing records at a go (R132, R134) -/

theorem landingGo_none {s : State} (h : s.landing.records = []) (id : Word16) (planned : Bool) : landingGo id planned s = s := by
  unfold landingGo
  rw [findLanding_none h]

theorem landingGo_single {s : State} {l : LandingRecord} {id : Word16} (h : s.landing.records = [l]) (hid : l.callId = id)
    (planned : Bool) : landingGo id planned s =
      { s with landing :=
          ⟨[{ l with adoptedLead := adoptedOf l, phase := if planned then .adopted else .straggler }],
            { s.landing.counters with
              offerClamped := satIf (planAboveCap l) s.landing.counters.offerClamped
              stragglers := satIf (!planned) s.landing.counters.stragglers }⟩ } := by
  subst hid
  unfold landingGo
  rw [findLanding_single h, if_pos rfl]
  dsimp only
  unfold updateLanding
  rw [h]
  simp

/-! ### A call with no grant (R52) -/

theorem enterWaiting_single {s : State} {r : CallRecord} (h : s.store.calls = [r]) :
    enterWaiting r.callId s =
      { s with store := { s.store with calls := [{ r with state := .waiting, waitStart := some s.clock.tickCount }] } } := by
  unfold enterWaiting
  exact updateCall_single h _

/-- A CLAIMING call, and a PENDING move with no segment, waits from its go (R52). -/
theorem goEffect_waits {r : CallRecord} (h : r.state = .claiming ∨ r.state = .pending ∧ (r.mode = .angles ∨ r.mode = .point) ∧ r.chain = [])
    (s : State) : goEffect r s = enterWaiting r.callId s := by
  unfold goEffect
  rcases h with h | ⟨hs, hm, hc⟩
  · rw [h]
  · rw [hs, hc]
    rcases hm with hm | hm <;> rw [hm] <;> rfl

/-- Any other PENDING call but a FOLLOW one is planned at its go (R50, R52). -/
theorem goEffect_plans {r : CallRecord} (hs : r.state = .pending) (hf : r.mode ≠ .follow) (hh : r.mode ≠ .colour → r.chain ≠ [])
    (s : State) : goEffect r s = planAtGo r.callId s := by
  unfold goEffect
  rw [hs]
  cases hm : r.mode with
  | follow => exact absurd hm hf
  | colour => rfl
  | angles => exact if_neg (by simpa using hh (by rw [hm]; decide))
  | point => exact if_neg (by simpa using hh (by rw [hm]; decide))

/-- The one call held, waiting from its go. -/
def waits (r : CallRecord) (s : State) : CallRecord :=
  { r with reachedGo := true, state := .waiting, waitStart := some s.clock.tickCount }

theorem planAtGo_single {s : State} {r : CallRecord} (h : s.store.calls = [r]) :
    planAtGo r.callId s = planCall r.callId
      { s with store := { s.store with calls := [{ r with state := .waiting, waitStart := some s.clock.tickCount }] } } := by
  unfold planAtGo
  rw [enterWaiting_single h]
  exact congrArg (planCall r.callId)
    (withdrawOthers_single (r := { r with state := .waiting, waitStart := some s.clock.tickCount }) rfl)

/-- A FOLLOW call runs from its go, its role CLAIMING and the head dark, and the follow claim is asked for (R52, R140, R141). -/
theorem goEffect_follow {s : State} {g : Figures} {r : CallRecord} {k : ColourPart} (h : s.store.calls = [{ r with reachedGo := true }])
    (hs : r.state = .pending) (hm : r.mode = .follow) (hk : r.colour = some k) (hg : s.station.figures = some g)
    (hsolo : s.power.solo = none) (hset : s.power.settle = none) (hlen : s.link.queue.length < 12) :
    ∃ q, goEffect r s =
      { s with
        store := { s.store with calls := [{ r with reachedGo := true, state := .running }] }
        cover := { s.cover with
          role := some ⟨.claiming, r.target, r.callId, r.count, k, 0⟩
          ownQ := 0
          onTarget := false
          followEnd := none
          holdoff := none
          restate := none }
        colour := { s.colour with levels := [0, 0, 0, 0, 0, 0], fade := none }
        power := { s.power with
          round := some ⟨false, g.baseClaim + g.followAllowance
            + emitterClaim g.emitterWatts (maxLevels [0, 0, 0, 0, 0, 0] (colourTarget g k 65536)), .follow, .follow, false⟩
          reclaim := none
          deferred := deferFor s.power.round .follow s.power.deferred
          abandoned := false }
        link := { s.link with queue := q } } := by
  obtain ⟨u, hu⟩ : ∃ u : State, u = { s with
      store := { s.store with calls := [{ r with reachedGo := true, state := .running }] }
      cover := { s.cover with
        role := some ⟨.claiming, r.target, r.callId, r.count, k, 0⟩
        ownQ := 0
        onTarget := false
        followEnd := none
        holdoff := none
        restate := none }
      colour := { s.colour with levels := [0, 0, 0, 0, 0, 0], fade := none } } := ⟨_, rfl⟩
  have heffect : goEffect r s = request (u.followClaim ⟨.claiming, r.target, r.callId, r.count, k, 0⟩) .follow .follow u := by
    have hrun := updateCall_single (s := s) (r := { r with reachedGo := true }) h fun c => { c with state := .running }
    unfold goEffect startFollow
    rw [hs, hm, hk]
    dsimp only
    rw [show updateCall r.callId (fun c => { c with state := .running }) s = _ from hrun, hu]
    rfl
  have hclaim : u.followClaim ⟨.claiming, r.target, r.callId, r.count, k, 0⟩ = g.baseClaim + g.followAllowance
      + emitterClaim g.emitterWatts (maxLevels [0, 0, 0, 0, 0, 0] (colourTarget g k 65536)) := by
    rw [hu, State.followClaim, fig_eq (by exact hg)]
    rfl
  obtain ⟨q, hq, _⟩ := request_offered (g.baseClaim + g.followAllowance
      + emitterClaim g.emitterWatts (maxLevels [0, 0, 0, 0, 0, 0] (colourTarget g k 65536))) .follow .follow (s := u)
    (by rw [hu]; exact hsolo) (.inl (settling_of_none (by rw [hu]; exact hset))) (by rw [hu]; exact hlen)
  refine ⟨q, ?_⟩
  rw [heffect, hclaim, hq, hu]

/-! ### The end of a call beside others (R59, R98, R162) -/

/-- A call ends, the follow role NONE, with the fade under way its own, no round and nothing deferred for it, and no landing
record: its segments are free, its motion and its fade stop, and nothing else is touched (R59). -/
theorem endCall_clean {s : State} {r : CallRecord} (o : CallOutcome) (hfind : s.findCall r.callId = some r)
    (hrole : s.cover.role = none) (hfade : ∀ f, s.colour.fade = some f → f.owner = .call r.callId)
    (hround : ∀ rd, s.power.round = some rd → rd.purpose ≠ .move r.callId) (hdef : s.power.deferred = [])
    (hland : s.landing.records = []) :
    endCall r.callId o s =
      { s with
        store := { s.store with
          calls := s.store.calls.filter (fun c => c.callId != r.callId)
          poolFree := s.store.poolFree + r.chain.length
          counters := countOutcome o s.store.counters }
        planner := (stopMotionOf (.call r.callId) s).planner
        colour := { s.colour with fade := none } } := by
  have hnorole : endRoleOf r.callId s = s := by simp [endRoleOf, hrole]
  have hmotion : stopMotionOf (.call r.callId) s = { s with planner := (stopMotionOf (.call r.callId) s).planner } := by
    unfold stopMotionOf
    split
    · rfl
    · split <;> rfl
  have hdark : stopFadeOf (.call r.callId) { s with planner := (stopMotionOf (.call r.callId) s).planner } =
      { s with
        planner := (stopMotionOf (.call r.callId) s).planner
        colour := { s.colour with fade := none } } := by
    unfold stopFadeOf
    dsimp only
    split
    next hnone => rw [← hnone]
    next f hf => exact if_pos (hfade f hf)
  have hstands (u : State) (hr : u.power = s.power) : endPurpose (.move r.callId) u = u := by
    have hfilter : u.power.deferred.filter (fun p => p != .move r.callId) = u.power.deferred := by rw [hr, hdef]; rfl
    unfold endPurpose
    dsimp only
    rw [hfilter]
    split
    · rfl
    next rd hrd => exact if_neg (hround rd (hr ▸ hrd))
  unfold endCall
  rw [hfind]
  dsimp only
  rw [hnorole, hmotion, hdark]
  refine (hstands _ (by rfl)).trans ?_
  unfold removeLanding dropRecord
  rw [show s.landing.records.filter _ = s.landing.records by rw [hland]; rfl]

/-- The one call held waits from its go, whatever its landing record became (R52). -/
theorem go_waits {s : State} {r : CallRecord} {n : LandingState} (hquiet : Quiet s) (hmode : s.station.mode = .ready)
    (h : s.store.calls = [r]) (hgo : r.reachedGo = false) (hdue : atOrAfter s.clock.linkClock r.goTime = true)
    (hwho : r.state = .claiming ∨ r.state = .pending ∧ (r.mode = .angles ∨ r.mode = .point) ∧ r.chain = [])
    (hland : landingGo r.callId (r.state == .planned) (gone r s) = { gone r s with landing := n }) :
    exec .go s = .next { s with
      store := { s.store with calls := [waits r s], counters := { s.store.counters with lateStart := lateCount s r } }
      landing := n } := by
  have hgone : goneOn r s = { s with
      store := { s.store with calls := [waits r s], counters := { s.store.counters with lateStart := lateCount s r } }
      landing := n } := by
    unfold goneOn
    rw [hland, goEffect_waits hwho]
    exact enterWaiting_single (r := { r with reachedGo := true }) rfl
  rw [go_stands (c := waits r s) hmode h hgo hdue (by rw [hgone]; exact hquiet) (by rw [hgone]) rfl rfl, hgone]

/-! ### A call preempted by the next to go (R53, R59) -/

/-- A call `r` that has reached go stands before the call `w` that goes now and the calls `rest` that have not, their ids distinct;
nothing but its own motion and fade hangs on `r`. -/
structure Preempts (r w : CallRecord) (rest : List CallRecord) (s : State) : Prop where
  calls : s.store.calls = r :: w :: rest
  reached : r.reachedGo = true
  ne : r.callId ≠ w.callId
  others : ∀ x ∈ rest, x.reachedGo = false ∧ x.callId ≠ r.callId ∧ x.callId ≠ w.callId
  role : s.cover.role = none
  records : s.landing.records = []
  deferred : s.power.deferred = []
  round : ∀ rd, s.power.round = some rd → rd.purpose ≠ .move r.callId
  fade : ∀ f, s.colour.fade = some f → f.owner = .call r.callId

/-- The call that goes is marked and the one before it has ended CUT. -/
def cutBefore (r w : CallRecord) (rest : List CallRecord) (s : State) : State :=
  { s with
    store := { s.store with
      calls := { w with reachedGo := true } :: rest
      poolFree := s.store.poolFree + r.chain.length
      counters := { s.store.counters with cut := satInc s.store.counters.cut, lateStart := lateCount s w } }
    planner := (stopMotionOf (.call r.callId) s).planner
    colour := { s.colour with fade := none } }

theorem stopMotionOf_congr (o : MotionOwner) {s t : State} (h : t.planner = s.planner) :
    (stopMotionOf o t).planner = (stopMotionOf o s).planner := by
  unfold stopMotionOf
  rw [h]
  split
  · exact h
  · split
    · exact congrArg (fun p : PlannerState => { p with motion := none }) h
    · exact h

theorem findCall_second {s : State} {r w : CallRecord} {rest : List CallRecord} (h : s.store.calls = r :: w :: rest)
    (hne : r.callId ≠ w.callId) : s.findCall w.callId = some w := by
  simp [State.findCall, h, hne]

theorem Preempts.preempted {r w : CallRecord} {rest : List CallRecord} {s : State} (h : Preempts r w rest s) :
    s.preempted w.callId = [r.callId] := by
  have hrest : rest.filter (fun c => c.reachedGo && c.callId != w.callId) = [] :=
    List.filter_eq_nil_iff.2 fun x hx => by simp [(h.others x hx).1]
  simp [State.preempted, h.calls, h.reached, h.ne, hrest]

theorem Preempts.markGo {r w : CallRecord} {rest : List CallRecord} {s : State} (h : Preempts r w rest s) :
    markGo w s = { s with store := { s.store with
      calls := r :: { w with reachedGo := true } :: rest
      counters := { s.store.counters with lateStart := lateCount s w } } } := by
  have hrest : rest.map (fun c => if c.callId == w.callId then { c with reachedGo := true } else c) = rest := by
    refine (List.map_congr_left fun x hx => ?_).trans (List.map_id rest)
    exact if_neg (by simpa using (h.others x hx).2.2)
  have hcalls : s.store.calls.map (fun c => if c.callId == w.callId then { c with reachedGo := true } else c)
      = r :: { w with reachedGo := true } :: rest := by
    rw [h.calls, List.map_cons, List.map_cons, hrest, if_neg (by simpa using h.ne), if_pos (by simp)]
  unfold Sys2Proof.Machine.markGo updateCall
  rw [hcalls, ← satIf_lateAt]

theorem Preempts.preempt {r w : CallRecord} {rest : List CallRecord} {s : State} (h : Preempts r w rest s) (lowers : Bool) :
    preempt lowers w.callId (Sys2Proof.Machine.markGo w s)
      = if lowers then lowerAfterEnd (cutBefore r w rest s) else cutBefore r w rest s := by
  obtain ⟨m, hm⟩ : ∃ m : State, m = Sys2Proof.Machine.markGo w s := ⟨_, rfl⟩
  have hmark := hm.trans h.markGo
  have hids : m.preempted w.callId = [r.callId] := by
    have hrest : rest.filter (fun c => c.reachedGo && c.callId != w.callId) = [] :=
      List.filter_eq_nil_iff.2 fun x hx => by simp [(h.others x hx).1]
    simp [State.preempted, hmark, h.reached, h.ne, hrest]
  have hfind : m.findCall r.callId = some r := by simp [State.findCall, hmark]
  have hkeep : (r :: { w with reachedGo := true } :: rest).filter (fun c => c.callId != r.callId)
    = { w with reachedGo := true } :: rest := by
    have hrest : rest.filter (fun c => c.callId != r.callId) = rest :=
      List.filter_eq_self.2 fun x hx => by simpa using (h.others x hx).2.1
    simp [hrest, Ne.symm h.ne]
  have hend := endCall_clean .cut hfind (by rw [hmark]; exact h.role) (by rw [hmark]; exact h.fade) (by rw [hmark]; exact h.round)
    (by rw [hmark]; exact h.deferred) (by rw [hmark]; exact h.records)
  have hcut : endCall r.callId .cut m = cutBefore r w rest s := by
    rw [hend, stopMotionOf_congr _ (s := s) (by rw [hmark]), hmark, hkeep]
    rfl
  unfold Sys2Proof.Machine.preempt
  rw [← hm, hids]
  show (if lowers then lowerAfterEnd (endCall r.callId .cut m) else endCall r.callId .cut m) = _
  rw [hcut]

/-! ### A call that goes beside another and starts nothing (R53, R59) -/

/-- A move with no segment that goes, alone in the table and its landing unrecorded, waits from this tick (R52). -/
theorem goEffect_goes_waiting {u : State} {w : CallRecord} (hw : w.state = .pending ∧ (w.mode = .angles ∨ w.mode = .point) ∧ w.chain = [])
    (hcalls : u.store.calls = [{ w with reachedGo := true }]) (hland : u.landing.records = []) (hn : u.notices = []) :
    tellSoFar settleFuel (goEffect w (landingGo w.callId (w.state == .planned) u))
      = { u with store := { u.store with calls := [waits w u] } } := by
  rw [landingGo_none hland, goEffect_waits (.inr hw),
    show enterWaiting w.callId u = _ from enterWaiting_single (r := { w with reachedGo := true }) hcalls]
  exact tellSoFar_of_none _ hn

theorem startsAtGo_of_waiting {s : State} {r w : CallRecord} (hp : Preempts r w [] s) (hn : s.notices = [])
    (hw : w.state = .pending ∧ (w.mode = .angles ∨ w.mode = .point) ∧ w.chain = []) : s.startsAtGo w.callId = false := by
  have htry : tryGo w.callId s = { cutBefore r w [] s with store := { (cutBefore r w [] s).store with calls := [waits w s] } } := by
    unfold tryGo
    rw [findCall_second hp.calls hp.ne]
    unfold passGo
    dsimp only
    rw [hp.preempt]
    exact goEffect_goes_waiting hw rfl hp.records hn
  have hfound : State.findCall { cutBefore r w [] s with store := { (cutBefore r w [] s).store with calls := [waits w s] } } w.callId
      = some (waits w s) := findCall_only (r := waits w s) rfl
  unfold State.startsAtGo
  rw [findCall_second hp.calls hp.ne, htry]
  dsimp only
  rw [hfound]
  simp [waits, CallRecord.carriedOut]

/-- The call before ends CUT and, since no call starts in its place, the lowering is made for it (R53, R59). -/
theorem goTests_lowers {s : State} {r w : CallRecord} (hp : Preempts r w [] s)
    (hw : w.state = .pending ∧ (w.mode = .angles ∨ w.mode = .point) ∧ w.chain = []) (hwgo : w.reachedGo = false)
    (hdue : atOrAfter s.clock.linkClock w.goTime = true) (hn : s.notices = [])
    (hcalls : (lowerAfterEnd (cutBefore r w [] s)).store = (cutBefore r w [] s).store)
    (hland : (lowerAfterEnd (cutBefore r w [] s)).landing = s.landing) (hclock : (lowerAfterEnd (cutBefore r w [] s)).clock = s.clock)
    (hnotices : (lowerAfterEnd (cutBefore r w [] s)).notices = []) :
    goTests s = { lowerAfterEnd (cutBefore r w [] s) with store := { (cutBefore r w [] s).store with calls := [waits w s] } } := by
  have hpass : passGo true w s
      = { lowerAfterEnd (cutBefore r w [] s) with store := { (cutBefore r w [] s).store with calls := [waits w s] } } := by
    unfold passGo
    rw [hp.preempt]
    refine (goEffect_goes_waiting hw (by rw [if_pos rfl, hcalls]; rfl) (by rw [if_pos rfl, hland]; exact hp.records)
      (by rw [if_pos rfl]; exact hnotices)).trans ?_
    rw [if_pos rfl, hcalls, show waits w (lowerAfterEnd (cutBefore r w [] s)) = waits w s by unfold waits; rw [hclock]]
  have hdueCalls : s.dueCalls = [w.callId] := by
    simp [State.dueCalls, hp.calls, CallRecord.due, hp.reached, hwgo, hdue]
  have hstarts : startsAmong [w.callId] s = false := by simp [startsAmong, startsAtGo_of_waiting hp hn hw]
  have hfound : State.findCall
      { lowerAfterEnd (cutBefore r w [] s) with store := { (cutBefore r w [] s).store with calls := [waits w s] } } w.callId
      = some (waits w s) := findCall_only (r := waits w s) rfl
  unfold goTests
  rw [hdueCalls]
  show goOne [] w.callId s = _
  unfold goOne
  rw [findCall_second hp.calls hp.ne, hp.preempted, hstarts]
  dsimp only
  rw [show (!([r.callId] : List Word16).isEmpty && !false) = true from rfl, hpass, hfound]
  rfl

/-- The end of the last call that draws offers the lowering to the idle claim (R113, R115). -/
theorem lowerAfterEnd_offers {e : State} {g : Figures} (hg : e.station.figures = some g) (hrun : e.someRunning = false)
    (hrole : e.cover.role = none) (hplan : e.plannedCall = none) (hround : e.power.round = none) (hsolo : e.power.solo = none)
    (hdef : e.power.deferred = []) (hab : e.power.abandoned = false)
    (hroom : HasRoom (.claim ⟨BitVec.ofNat 8 g.circuit, BitVec.ofNat 16 e.idleClaim, 3⟩) e.link.queue) :
    lowerAfterEnd e = { e with
      power := { e.power with round := some ⟨false, e.idleClaim, .idle, .lowering, false⟩, reclaim := none }
      link := { e.link with
        queue := queued (.claim ⟨BitVec.ofNat 8 g.circuit, BitVec.ofNat 16 e.idleClaim, 3⟩) e.link.queue } } := by
  have hframe : claimFrame e.fig e.idleClaim .idle = ⟨BitVec.ofNat 8 g.circuit, BitVec.ofNat 16 e.idleClaim, 3⟩ := by
    rw [fig_eq hg]
    rfl
  have hnone : (e.someRunning || e.roleGranted) = false := by simp [hrun, State.roleGranted, hrole]
  unfold lowerAfterEnd
  rw [hnone, hplan]
  show (if e.power.abandoned then e else requestLowering e.idleClaim e) = _
  rw [hab]
  refine (request_first (w := e.idleClaim) (r := .idle) (p := .lowering) (s := e) hround hsolo hdef hab (.inr rfl)
    (by rw [hframe]; exact hroom)).trans ?_
  rw [hframe]

/-- The one motion under way, the call's own, stops where it stands (R98). -/
theorem stopMotionOf_owned {o : MotionOwner} {s : State} (h : ∀ m, s.planner.motion = some m → m.owner = o) :
    (stopMotionOf o s).planner = { s.planner with motion := none } := by
  unfold stopMotionOf
  split
  next hnone => rw [← hnone]
  next m hm =>
    rw [if_pos (h m hm)]
    rfl

/-- Settles O39: waiting, planned or following from go by state and mode; and the call preempted by a go that starts nothing. -/
theorem goByState : Obligations.GoByState := by
  refine ⟨fun s r hquiet hmode hcalls hgo hdue => ⟨fun hwho => ⟨fun hland => ?_, fun l hrec hid => ⟨fun hreq => ?_, fun d hreq => ?_⟩⟩,
    fun hs hf hh hland hsolo hset hround hlen => ?_, fun g k hs hm hk hland hg hsolo hset hround hlen => ?_⟩,
    fun s g r w hquiet hmode hg hcalls hrgo hrun hne hw hwm hwc hwp hwgo hdue hland hrole hsolo hround hdef hfade hmotion hroom => ?_⟩
  · exact go_waits (n := s.landing) hquiet hmode hcalls hgo hdue hwho (landingGo_none (s := gone r s) hland _ _)
  · have hplanned : (r.state == CallState.planned) = false := by rcases hwho with h | ⟨h, _⟩ <;> rw [h] <;> rfl
    have hadopted : adoptedOf l = none := by rw [adoptedOf, hreq]
    have habove : planAboveCap l = false := by rw [planAboveCap, hreq]
    have hgone := landingGo_single (s := gone r s) hrec hid false
    rw [hadopted, habove] at hgone
    exact go_waits hquiet hmode hcalls hgo hdue hwho (by rw [hplanned]; exact hgone)
  · have hplanned : (r.state == CallState.planned) = false := by rcases hwho with h | ⟨h, _⟩ <;> rw [h] <;> rfl
    have hadopted : adoptedOf l = some (min (5 * d) (max d (max (l.plannedLead.getD 0) l.offeredLead))) := by rw [adoptedOf, hreq]; rfl
    have habove : planAboveCap l = decide (5 * d < l.plannedLead.getD 0) := by rw [planAboveCap, hreq]; rfl
    have hgone := landingGo_single (s := gone r s) hrec hid false
    rw [hadopted, habove, satIf_decide] at hgone
    exact go_waits hquiet hmode hcalls hgo hdue hwho (by rw [hplanned]; exact hgone)
  · have hplan : goneOn r s = planCall r.callId { gone r s with store := { (gone r s).store with calls := [waits r s] } } := by
      unfold goneOn
      rw [landingGo_none (by exact hland), goEffect_plans hs hf hh]
      exact planAtGo_single (r := { r with reachedGo := true }) rfl
    obtain ⟨u, hu⟩ : ∃ u : State, u = { gone r s with store := { (gone r s).store with calls := [waits r s] } } := ⟨_, rfl⟩
    have hcalls' : u.store.calls = [waits r s] := by rw [hu]
    obtain ⟨k, cap, hcall⟩ := planCall_single hcalls'
    obtain ⟨q, hrecord, _⟩ := recordPlan_offered (s := { u with aim := { u.aim with counters := k } }) hcalls' (u.planFor (waits r s)) cap
      (by rw [hu]; exact hsolo) (by rw [hu]; exact hset) (by rw [hu]; exact hlen)
    have hmade := planFor_madeFrom u (waits r s)
    have hgone := hplan.trans ((congrArg _ hu.symm).trans (hcall.trans hrecord))
    have hexec := go_stands (c := { waits r s with plan := some (u.planFor (waits r s)) }) hmode hcalls hgo hdue
      (by rw [hgone, hu]; exact ⟨hquiet.1, rfl⟩) (by rw [hgone]; rfl) rfl rfl
    rw [hgone] at hexec
    refine ⟨_, u.planFor (waits r s), hexec, ?_, hmade.refPan.trans ?_, hmade.refTilt.trans ?_, hmade.segs, rfl, ?_, ?_, ?_, ?_, ?_, ?_, ?_,
      ?_, ?_, ?_⟩
    all_goals rw [hu]; rfl
  · obtain ⟨q, hq⟩ := goEffect_follow (s := gone r s) rfl hs hm hk hg hsolo hset hlen
    have hgone : goneOn r s = _ := (congrArg (goEffect r) (landingGo_none (s := gone r s) hland _ _)).trans hq
    have hexec := go_stands (c := { r with reachedGo := true, state := .running }) hmode hcalls hgo hdue
      (by rw [hgone]; exact ⟨hquiet.1, rfl⟩) (by rw [hgone]) rfl rfl
    rw [hgone] at hexec
    exact ⟨_, hexec, rfl, rfl, rfl, rfl, rfl, rfl, rfl, rfl, rfl, rfl⟩
  · have hbeside : Preempts r w [] s :=
      ⟨hcalls, hrgo, hne, fun x hx => (nomatch hx), hrole, hland, hdef, fun rd hrd => (nomatch hround.symm.trans hrd), hfade⟩
    have hcut : cutBefore r w [] s = { s with
        store := { s.store with
          calls := [{ w with reachedGo := true }]
          poolFree := s.store.poolFree + r.chain.length
          counters := { s.store.counters with cut := satInc s.store.counters.cut, lateStart := lateCount s w } }
        planner := { s.planner with motion := none }
        colour := { s.colour with fade := none } } := by
      rw [cutBefore, stopMotionOf_owned hmotion]
    have hidle : (cutBefore r w [] s).idleClaim
        = g.baseClaim + (g.pan.hold + g.tilt.hold) + emitterClaim g.emitterWatts s.colour.levels := by
      rw [State.idleClaim, fig_eq (by exact hg)]
      rfl
    have hlower := lowerAfterEnd_offers (e := cutBefore r w [] s) (by exact hg)
      (by simp [cutBefore, State.someRunning, CallRecord.carriedOut, hw]) hrole (by simp [cutBefore, State.plannedCall, hwp])
      hround hsolo hdef hquiet.2 (by rw [hidle]; exact hroom)
    have htests := goTests_lowers hbeside ⟨hw, hwm, hwc⟩ hwgo hdue hquiet.1 (by rw [hlower]) (by rw [hlower]; rfl) (by rw [hlower]; rfl)
      (by rw [hlower]; exact hquiet.1)
    refine congrArg Host.Outcome.next ((if_pos (by rw [hmode]; rfl)).trans ?_)
    rw [htests, closeEvent, review_single (c := waits w s) rfl rfl, conclude_of_quiet (by rw [hlower]; exact hquiet), hlower, hidle, hcut]
    exact rfl

end Sys2Proof.Machine
end


section
/-! SUPPORT. The settled obligation about the go of a PLANNED call. -/

namespace Sys2Proof.Machine

/-! ### The start of a planned call (R95, R133) -/

/-- A move of one QUEUED segment and no colour starts by running that segment (R52, R95). -/
theorem startCall_runs {s x : State} {r : CallRecord} {seg : PoolSegment} (h : s.store.calls = [r]) (hmode : r.mode = .angles)
    (hcolour : r.colour = none) (hchain : r.chain = [seg]) (hqueued : seg.state = .queued)
    (hrun : runSegment { r with state := .running, waitStart := none } seg { s with store := { s.store with
      calls := [{ r with state := .running, waitStart := none, chain := [{ seg with state := .active }] }] } } = x)
    (hx : x.store.calls = [{ r with state := .running, waitStart := none, chain := [{ seg with state := .active }] }]) :
    startCall r.callId s = x := by
  let r1 : CallRecord := { r with state := .running, waitStart := none }
  let s1 : State := { s with store := { s.store with calls := [r1] } }
  have hfirst : firstQueued r1.chain = some seg := by simp [firstQueued, r1, hchain, hqueued]
  have hlive : liveSegments (consumeActive r1.chain) = [seg] := by simp [liveSegments, consumeActive, r1, hchain, hqueued]
  have hactive : activate seg.index [seg] = [{ seg with state := .active }] := by simp [activate]
  have hbegin := beginNext_single (s := s1) rfl hfirst
  rw [hlive, hactive, show r1.chain.length = 1 by simp [r1, hchain]] at hbegin
  have hbegin' : beginNext r1.callId s1 = x := hbegin.trans hrun
  have hfade : startCallFade r s1 = s1 := by
    unfold startCallFade
    rw [hcolour]
  unfold startCall
  rw [findCall_only h]
  dsimp only
  rw [updateCall_single h]
  show endIfComplete r.callId (beginNext r1.callId (startCallFade r s1)) = _
  rw [hfade, hbegin']
  refine endIfComplete_stays (r := { r1 with chain := [{ seg with state := .active }] }) hx ?_
  simp [CallRecord.motionDone, r1, hmode]

theorem capped_of_le {d r : Nat} (h : d ≤ 65535) : capped d r = ⟨d, r, 0⟩ := if_neg (Nat.not_lt.2 h)

/-- A sync call that adopted a lead runs its planned segment to it when it is above the planned lead (R133). -/
theorem segmentAsk_adopted {s : State} {r : CallRecord} {seg : PoolSegment} {pl : Plan} {sp : SegPlan} {l : LandingRecord} {a p : Nat}
    (hplan : r.plan = some pl) (hseg : pl.segs[seg.index]? = some sp) (hrec : s.landing.records = [l]) (hid : l.callId = r.callId)
    (hphase : l.phase = .adopted) (hlead : l.adoptedLead = some a) (hp : l.plannedLead = some p) (ha : a ≤ 65535) :
    segmentAsk s r seg = ⟨sp.endPan, sp.endTilt, .solved,
        ⟨if p < a then a else sp.d, if p < a then a / 2 else sp.r, 0⟩⟩
      ∧ (s.landingTiming r.callId).isSome = decide (p < a) := by
  have htiming : s.landingTiming r.callId = if p < a then some ⟨a, a / 2, 0⟩ else none := by
    unfold State.landingTiming
    rw [findLanding_single hrec, if_pos hid]
    dsimp only
    rw [hphase, hlead, hp]
    dsimp only
    rw [capped_of_le ha]
    exact rfl
  rw [segmentAsk_planned hplan hseg, htiming]
  by_cases h : p < a
  · rw [if_pos h, if_pos h, if_pos h]
    exact ⟨rfl, (decide_eq_true h).symm⟩
  · rw [if_neg h, if_neg h, if_neg h]
    exact ⟨rfl, (decide_eq_false h).symm⟩

/-- A COLOUR call with a fade of 0 starts and ends DONE at once, its levels at the target (R52, R58, R95, R160). -/
theorem startCall_flash {s : State} {g : Figures} {r : CallRecord} {k : ColourPart} {pl : Plan}
    (h : s.store.calls = [r]) (hg : s.station.figures = some g) (hmode : r.mode = .colour) (hcolour : r.colour = some k)
    (hfade : k.fade = 0) (hplan : r.plan = some pl) (hchain : r.chain = []) :
    startCall r.callId s = endCall r.callId .done
      { s with
        store := { s.store with calls := [{ r with state := .running, waitStart := none }] }
        colour := { s.colour with levels := colourTarget g k pl.scale, fade := none } } := by
  let r1 : CallRecord := { r with state := .running, waitStart := none }
  let s1 : State := { s with store := { s.store with calls := [r1] } }
  have hf : s1.fig = g := fig_eq hg
  have hlit : startCallFade r s1 = { s1 with colour := { s.colour with levels := colourTarget g k pl.scale, fade := none } } := by
    unfold startCallFade
    rw [hcolour]
    show startColour k ((r.plan.map Plan.scale).getD Config.fullScale) (.call r.callId) s1 = _
    rw [hplan, startColour, hf]
    exact if_pos hfade
  unfold startCall
  rw [findCall_only h]
  dsimp only
  rw [updateCall_single h]
  show endIfComplete r1.callId (beginNext r1.callId (startCallFade r s1)) = _
  rw [hlit, beginNext_none (r := r1) rfl (by simp [firstQueued, r1, hchain])]
  unfold endIfComplete
  rw [findCall_only (r := r1) rfl]
  exact if_pos (by simp [CallRecord.motionDone, State.fadingFor, r1, hmode])

/-! ### A call that holds its grant starts at its go (R52, R53) -/

/-- A PLANNED call starts at its go (R52). -/
theorem goEffect_starts {r : CallRecord} (h : r.state = .planned) (s : State) : goEffect r s = startCall r.callId s := by
  unfold goEffect
  rw [h]

/-- The call `c` holds a plan of one segment for its one QUEUED segment, which fits that plan and the grant from where the head
stands. -/
structure Fits (g : Figures) (c : CallRecord) (seg : PoolSegment) (pl : Plan) (sp : SegPlan) (s : State) : Prop where
  state : c.state = .planned
  reached : c.reachedGo = false
  mode : c.mode = .angles
  colour : c.colour = none
  chain : c.chain = [seg]
  queued : seg.state = .queued
  index : seg.index = 0
  plan : c.plan = some pl
  segs : pl.segs = [sp]
  due : atOrAfter s.clock.linkClock c.goTime = true
  notices : s.notices = []
  figures : s.station.figures = some g
  checks : checksOk g (travel s.planner.pan s.planner.tilt sp.endPan sp.endTilt) sp.d sp.r = true
  claim : g.baseClaim + segmentClaim g (travel s.planner.pan s.planner.tilt sp.endPan sp.endTilt) sp.d sp.r + pl.emitterTerm
    ≤ s.power.granted
  ceiling : s.planner.counters.ceiling ≤ 65535

/-- The call `c` on its one segment. -/
def onSegment (c : CallRecord) (seg : PoolSegment) : CallRecord :=
  { c with state := .running, reachedGo := true, waitStart := none, chain := [{ seg with state := .active }] }

/-- The motion of the call's one segment from where the head stands. -/
def motionOn (g : Figures) (c : CallRecord) (sp : SegPlan) (s : State) : Motion :=
  ⟨s.planner.pan, s.planner.tilt, sp.endPan, sp.endTilt, sp.d, sp.r, 0,
    segmentClaim g (travel s.planner.pan s.planner.tilt sp.endPan sp.endTilt) sp.d sp.r, .call c.callId⟩

/-- The call `c` has started in the place of `r`, which ended CUT. -/
def launched (g : Figures) (r c : CallRecord) (seg : PoolSegment) (sp : SegPlan) (s : State) : State :=
  { s with
    store := { s.store with
      calls := [onSegment c seg]
      poolFree := s.store.poolFree + r.chain.length
      counters := { s.store.counters with cut := satInc s.store.counters.cut, lateStart := lateCount s c } }
    planner := { s.planner with motion := some (motionOn g c sp s) }
    colour := { s.colour with fade := none } }

/-- Stopping a motion leaves the position and the counters. -/
theorem stopMotionOf_planner (o : MotionOwner) (s : State) (m : Option Motion) :
    { (stopMotionOf o s).planner with motion := m } = { s.planner with motion := m } := by
  unfold stopMotionOf
  split
  · rfl
  · split <;> rfl

/-- The go of a planned call preempts the call before it and starts it (R52, R53). -/
theorem passGo_launched {s : State} {g : Figures} {r c : CallRecord} {seg : PoolSegment} {pl : Plan} {sp : SegPlan}
    (hf : Fits g c seg pl sp s) (hp : Preempts r c [] s) : passGo false c s = launched g r c seg sp s := by
  have hpan : (cutBefore r c [] s).planner.pan = s.planner.pan :=
    (congrArg PlannerState.pan (stopMotionOf_planner (.call r.callId) s none) :)
  have htilt : (cutBefore r c [] s).planner.tilt = s.planner.tilt :=
    (congrArg PlannerState.tilt (stopMotionOf_planner (.call r.callId) s none) :)
  have hcounters : (cutBefore r c [] s).planner.counters = s.planner.counters :=
    (congrArg PlannerState.counters (stopMotionOf_planner (.call r.callId) s none) :)
  have hstart := startCall_move (s := cutBefore r c [] s) (r := { c with reachedGo := true }) rfl hf.figures hp.records hf.mode hf.colour
    hf.chain hf.queued hf.index hf.plan hf.segs (by rw [hpan, htilt]; exact hf.checks) (by rw [hpan, htilt]; exact hf.claim)
    (by rw [hcounters]; exact hf.ceiling)
  rw [hpan, htilt] at hstart
  have hlaunched : startCall c.callId (cutBefore r c [] s) = launched g r c seg sp s := by
    refine hstart.trans ?_
    unfold cutBefore
    rw [stopMotionOf_planner]
    rfl
  have hpreempt := hp.preempt false
  unfold passGo
  rw [hpreempt, if_neg Bool.false_ne_true, landingGo_none (by exact hp.records), goEffect_starts hf.state, hlaunched]
  exact tellSoFar_of_none _ hf.notices

theorem findCall_launched (g : Figures) (r c : CallRecord) (seg : PoolSegment) (sp : SegPlan) (s : State) :
    (launched g r c seg sp s).findCall c.callId = some (onSegment c seg) :=
  findCall_only (r := onSegment c seg) rfl

theorem startsAtGo_launched {s : State} {g : Figures} {r c : CallRecord} {seg : PoolSegment} {pl : Plan} {sp : SegPlan}
    (hf : Fits g c seg pl sp s) (hp : Preempts r c [] s) : s.startsAtGo c.callId = true := by
  have htry : tryGo c.callId s = launched g r c seg sp s := by
    unfold tryGo
    rw [findCall_second hp.calls hp.ne]
    exact passGo_launched hf hp
  unfold State.startsAtGo
  rw [findCall_second hp.calls hp.ne, htry, findCall_launched]
  simp [CallRecord.carriedOut, onSegment, hf.state]

theorem goOne_launched {s : State} {g : Figures} {r c : CallRecord} {seg : PoolSegment} {pl : Plan} {sp : SegPlan}
    (hf : Fits g c seg pl sp s) (hp : Preempts r c [] s) : goOne [] c.callId s = launched g r c seg sp s := by
  have hstarts : startsAmong [c.callId] s = true := by simp [startsAmong, startsAtGo_launched hf hp]
  unfold goOne
  rw [findCall_second hp.calls hp.ne, hp.preempted, hstarts]
  dsimp only
  rw [show (!([r.callId] : List Word16).isEmpty && !true) = false from rfl, passGo_launched hf hp, findCall_launched]
  rfl

/-- GO where the calls before it leave one planned call to start in the place of the last. -/
theorem go_launched {s u : State} {g : Figures} {r c : CallRecord} {seg : PoolSegment} {pl : Plan} {sp : SegPlan}
    (hmode : s.station.mode = .ready) (hquiet : Quiet u) (hf : Fits g c seg pl sp u) (hp : Preempts r c [] u)
    (hgo : goTests s = goOne [] c.callId u) : exec .go s = .next (launched g r c seg sp u) := by
  refine congrArg Host.Outcome.next ((if_pos (by rw [hmode]; rfl)).trans ?_)
  rw [hgo, goOne_launched hf hp, closeEvent, review_single (c := onSegment c seg) rfl rfl]
  exact conclude_of_quiet (by exact hquiet)

/-- A move with no segment goes beside the calls `r` and `c`: `r` ends CUT, and the move waits (R52, R53). -/
theorem passGo_waits {s : State} {r w : CallRecord} {rest : List CallRecord} (hp : Preempts r w rest s) (hn : s.notices = [])
    (hw : w.state = .pending ∧ (w.mode = .angles ∨ w.mode = .point) ∧ w.chain = []) :
    passGo false w s =
      { cutBefore r w rest s with store := { (cutBefore r w rest s).store with calls := waits w s :: rest } } := by
  have hpreempt := hp.preempt false
  have hcalls : (cutBefore r w rest s).store.calls.map
      (fun c => if c.callId == w.callId then { c with state := .waiting, waitStart := some s.clock.tickCount } else c)
      = waits w s :: rest := by
    have hrest : rest.map (fun c => if c.callId == w.callId then { c with state := .waiting, waitStart := some s.clock.tickCount } else c)
        = rest := by
      refine (List.map_congr_left fun x hx => ?_).trans (List.map_id rest)
      exact if_neg (by simpa using (hp.others x hx).2.2)
    rw [show (cutBefore r w rest s).store.calls = { w with reachedGo := true } :: rest from rfl, List.map_cons, hrest, if_pos (by simp)]
    exact rfl
  have hwait : enterWaiting w.callId (cutBefore r w rest s) =
      { cutBefore r w rest s with store := { (cutBefore r w rest s).store with calls := waits w s :: rest } } :=
    congrArg (fun l => { cutBefore r w rest s with store := { (cutBefore r w rest s).store with calls := l } }) hcalls
  unfold passGo
  rw [hpreempt, if_neg Bool.false_ne_true, landingGo_none (by exact hp.records), goEffect_waits (.inr hw), hwait]
  exact tellSoFar_of_none _ hn

/-- The move `w` waits in the place of `r`, which ended CUT, and the call `c` has yet to go. -/
def waitingBefore (r w c : CallRecord) (s : State) : State :=
  { cutBefore r w [c] s with store := { (cutBefore r w [c] s).store with calls := [waits w s, c] } }

theorem waitingBefore_planner (r w c : CallRecord) (s : State) (m : Option Motion) :
    { (waitingBefore r w c s).planner with motion := m } = { s.planner with motion := m } :=
  stopMotionOf_planner _ s m

theorem Fits.waitingBefore {s : State} {g : Figures} {r w c : CallRecord} {seg : PoolSegment} {pl : Plan} {sp : SegPlan}
    (hf : Fits g c seg pl sp s) : Fits g c seg pl sp (waitingBefore r w c s) := by
  have hpan : (Machine.waitingBefore r w c s).planner.pan = s.planner.pan :=
    (congrArg PlannerState.pan (waitingBefore_planner r w c s none) :)
  have htilt : (Machine.waitingBefore r w c s).planner.tilt = s.planner.tilt :=
    (congrArg PlannerState.tilt (waitingBefore_planner r w c s none) :)
  have hcounters : (Machine.waitingBefore r w c s).planner.counters = s.planner.counters :=
    (congrArg PlannerState.counters (waitingBefore_planner r w c s none) :)
  exact { hf with
    checks := by rw [hpan, htilt]; exact hf.checks
    claim := by rw [hpan, htilt]; exact hf.claim
    ceiling := by rw [hcounters]; exact hf.ceiling }

theorem Preempts.waitingBefore {s : State} {r w c : CallRecord} (hp : Preempts r w [c] s)
    (hround : ∀ rd, s.power.round = some rd → rd.purpose ≠ .move w.callId) : Preempts (waits w s) c [] (waitingBefore r w c s) :=
  { calls := rfl, reached := rfl, ne := Ne.symm (hp.others c List.mem_cons_self).2.2, others := fun _ hx => (nomatch hx)
    role := hp.role, records := hp.records, deferred := hp.deferred, round := hround, fade := fun _ hf => (nomatch hf) }

/-- A move with no segment goes in the same event between the call preempted and the planned call: it waits (R52, R53). -/
theorem goOne_waits {s : State} {g : Figures} {r w c : CallRecord} {seg : PoolSegment} {pl : Plan} {sp : SegPlan}
    (hf : Fits g c seg pl sp s) (hp : Preempts r w [c] s) (hround : ∀ rd, s.power.round = some rd → rd.purpose ≠ .move w.callId)
    (hw : w.state = .pending ∧ (w.mode = .angles ∨ w.mode = .point) ∧ w.chain = []) :
    goOne [c.callId] w.callId s = waitingBefore r w c s := by
  have hfind : s.findCall w.callId = some w := findCall_second hp.calls hp.ne
  have hpass : passGo false w s = waitingBefore r w c s := passGo_waits hp hf.notices hw
  have htry : tryGo w.callId s = waitingBefore r w c s := by
    unfold tryGo
    rw [hfind]
    exact hpass
  have hlater : startsAmong [c.callId] (waitingBefore r w c s) = true := by
    simp [startsAmong, startsAtGo_launched hf.waitingBefore (hp.waitingBefore hround)]
  have hstarts : startsAmong [w.callId, c.callId] s = true := by
    unfold startsAmong
    rw [htry, hlater, Bool.or_true]
  have hfound : (waitingBefore r w c s).findCall w.callId = some (waits w s) := by simp [State.findCall, waitingBefore, waits]
  unfold goOne
  rw [hfind, hp.preempted, hstarts]
  dsimp only
  rw [show (!([r.callId] : List Word16).isEmpty && !true) = false from rfl, hpass, hfound]
  rfl

theorem launched_waitingBefore {s : State} {g : Figures} {r w c : CallRecord} {seg : PoolSegment} {sp : SegPlan} (hchain : w.chain = []) :
    launched g (waits w s) c seg sp (waitingBefore r w c s) = { s with
      store := { s.store with
        calls := [onSegment c seg]
        poolFree := s.store.poolFree + r.chain.length
        counters := { s.store.counters with
          cut := satInc (satInc s.store.counters.cut)
          lateStart := if 2 < (s.clock.linkClock - c.goTime).toNat then satInc (lateCount s w) else lateCount s w } }
      planner := { s.planner with motion := some (motionOn g c sp s) }
      colour := { s.colour with fade := none } } := by
  have hpan : (waitingBefore r w c s).planner.pan = s.planner.pan :=
    (congrArg PlannerState.pan (waitingBefore_planner r w c s none) :)
  have htilt : (waitingBefore r w c s).planner.tilt = s.planner.tilt :=
    (congrArg PlannerState.tilt (waitingBefore_planner r w c s none) :)
  have hmotion : motionOn g c sp (waitingBefore r w c s) = motionOn g c sp s := by
    unfold motionOn
    rw [hpan, htilt]
  unfold launched
  rw [waitingBefore_planner, hmotion, show (waits w s).chain.length = 0 from congrArg List.length hchain]
  rfl

theorem go_launched_after {s : State} {g : Figures} {r w c : CallRecord} {seg : PoolSegment} {pl : Plan} {sp : SegPlan}
    (hmode : s.station.mode = .ready) (hquiet : Quiet s) (hf : Fits g c seg pl sp s) (hp : Preempts r w [c] s)
    (hround : ∀ rd, s.power.round = some rd → rd.purpose ≠ .move w.callId)
    (hw : w.state = .pending ∧ (w.mode = .angles ∨ w.mode = .point) ∧ w.chain = [] ∧ w.reachedGo = false
      ∧ atOrAfter s.clock.linkClock w.goTime = true) :
    exec .go s = .next (launched g (waits w s) c seg sp (waitingBefore r w c s)) := by
  obtain ⟨hstate, hkind, hchain, hwgo, hwdue⟩ := hw
  have hdues : s.dueCalls = [w.callId, c.callId] := by
    simp [State.dueCalls, hp.calls, CallRecord.due, hp.reached, hf.reached, hf.due, hwgo, hwdue]
  exact go_launched hmode (by exact hquiet) hf.waitingBefore (hp.waitingBefore hround)
    (by unfold goTests; rw [hdues]; exact congrArg (goOne [] c.callId) (goOne_waits hf hp hround ⟨hstate, hkind, hchain⟩))

/-- GO of the one planned call, nothing told: what its start makes of it (R52, R132). -/
theorem goneOn_planned {s : State} {r : CallRecord} (h : r.state = .planned) {n : LandingState}
    (hland : landingGo r.callId true (gone r s) = { gone r s with landing := n }) :
    goneOn r s = startCall r.callId { gone r s with landing := n } := by
  unfold goneOn
  rw [h, show (CallState.planned == CallState.planned) = true from rfl, hland, goEffect_starts h]

/-- Settles O38: a planned call starts its segment, its adopted landing or its fade, in the place of the calls it preempts. -/
theorem goStartsPlannedCall : Obligations.GoStartsPlannedCall := by
  refine ⟨fun s g r pl hquiet hmode hg hcalls hstate hgo hplan hdue =>
    ⟨fun seg sp hland hm hcolour hchain hqueued hindex hsegs hok hfit hceiling => ?_,
      fun seg sp l d p hrec hid hreq hlead hm hcolour hchain hqueued hindex hsegs ha hok hfit hceiling => ?_,
      fun k hland hm hcolour hchain hrole hsolo => ⟨fun hfade => ?_, fun hfade hmotion => ?_⟩⟩,
    fun s g r ws c pl seg sp hquiet hmode hg hcalls hrgo hrun hne hlen hws hstate hgo hplan hdue hm hcolour hchain hqueued hindex
      hsegs hland hrole hdef hround hfade hok hfit hceiling => ?_⟩
  · have hstart := startCall_move (s := gone r s) (r := { r with reachedGo := true }) rfl hg hland hm hcolour hchain hqueued hindex hplan
      hsegs hok hfit hceiling
    have hgone := (goneOn_planned hstate (n := s.landing) (landingGo_none (s := gone r s) hland _ _)).trans hstart
    have hexec := go_stands (c := onSegment r seg) hmode hcalls hgo hdue (by rw [hgone]; exact hquiet) (by rw [hgone]; exact rfl) rfl rfl
    rw [hgone] at hexec
    exact hexec
  · have hadopted : adoptedOf l = some (min (5 * d) (max d (max p l.offeredLead))) := by rw [adoptedOf, hreq, hlead]; rfl
    have hrecord := landingGo_single (s := gone r s) hrec hid true
    rw [hadopted] at hrecord
    obtain ⟨a, hadef⟩ : ∃ a : Nat, a = min (5 * d) (max d (max p l.offeredLead)) := ⟨_, rfl⟩
    rw [← hadef] at ha hok hfit hrecord ⊢
    obtain ⟨n, hn⟩ : ∃ n : LandingState, n = ⟨[{ l with adoptedLead := some a, phase := .adopted }],
      { s.landing.counters with
        offerClamped := satIf (planAboveCap l) s.landing.counters.offerClamped
        stragglers := satIf (!true) s.landing.counters.stragglers }⟩ := ⟨_, rfl⟩
    obtain ⟨u, hu⟩ : ∃ u : State, u = { gone r s with
        landing := n
        store := { (gone r s).store with calls := [onSegment r seg] } } := ⟨_, rfl⟩
    have hask := segmentAsk_adopted (s := u) (r := { r with state := .running, reachedGo := true, waitStart := none }) (seg := seg)
      (sp := sp) (a := a) (p := p) hplan (by rw [hsegs, hindex]; rfl) (l := { l with adoptedLead := some a, phase := .adopted })
      (by rw [hu, hn]) hid rfl rfl hlead ha
    have hruns := runSegment_fits (s := u) (r := { r with state := .running, reachedGo := true, waitStart := none }) (g := g)
      (by rw [hu]; exact hg) hplan hask.1 rfl (by rw [hu]; exact hok) (by rw [hu]; exact hfit) (by rw [hu]; exact hceiling)
    have hstart := startCall_runs (s := { gone r s with landing := n }) (r := { r with reachedGo := true }) rfl hm hcolour hchain hqueued
      ((congrArg (runSegment _ seg) hu.symm).trans hruns) (by rw [hu]; rfl)
    have hgone := (goneOn_planned hstate (hrecord.trans (by rw [hn]; rfl))).trans hstart
    have hexec := go_stands (c := onSegment r seg) hmode hcalls hgo hdue (by rw [hgone, hu]; exact hquiet)
      (by rw [hgone, hu]) rfl rfl
    rw [hgone] at hexec
    refine ⟨_, hexec, ?_, ?_, ?_, ?_, ?_, ?_, ?_, ?_, ?_, ?_, ?_, ?_, ?_⟩
    · rw [hu, hn]
    · refine (congrArg (fun b => satIf b u.landing.counters.stretchedToLand) hask.2).trans ?_
      rw [satIf_decide, hu, hn]
    all_goals rw [hu, hn]; rfl
  · have hstart := startCall_colour (s := gone r s) (r := { r with reachedGo := true }) rfl hg hcolour hfade hplan hchain
    have hgone := (goneOn_planned hstate (n := s.landing) (landingGo_none (s := gone r s) hland _ _)).trans hstart
    have hexec := go_stands (c := { r with state := .running, reachedGo := true, waitStart := none }) hmode hcalls hgo hdue
      (by rw [hgone]; exact hquiet) (by rw [hgone]) rfl rfl
    rw [hgone] at hexec
    exact hexec
  · obtain ⟨u, hu⟩ : ∃ u : State, u = { gone r s with
        store := { (gone r s).store with calls := [{ r with state := .running, reachedGo := true, waitStart := none }] }
        colour := { s.colour with levels := colourTarget g k pl.scale, fade := none } } := ⟨_, rfl⟩
    have hstart := startCall_flash (s := gone r s) (r := { r with reachedGo := true }) rfl hg hm hcolour hfade hplan hchain
    have hgone : goneOn r s = endCall r.callId .done u :=
      (goneOn_planned hstate (n := s.landing) (landingGo_none (s := gone r s) hland _ _)).trans (hstart.trans (congrArg _ hu.symm))
    have hend := endCall_single (r := { r with state := .running, reachedGo := true, waitStart := none }) .done
      (s := u) (by rw [hu]) (by rw [hu]; exact hrole)
    have htests := goTests_single hcalls hgo hdue (by rw [hgone, endCall_notices, hu]; exact hquiet.1)
    have hnone : ((goneOn r s).findCall r.callId).isNone = true := by
      rw [hgone]
      unfold State.findCall
      rw [show (endCall r.callId .done u).store.calls = [] from congrArg (fun v : State => v.store.calls) hend]
      rfl
    rw [if_pos hnone, hgone] at htests
    have hexec : exec .go s = .next (closeEvent (lowerAfterEnd (endCall r.callId .done u))) :=
      congrArg Host.Outcome.next ((if_pos (by rw [hmode]; rfl)).trans (congrArg closeEvent htests))
    have h := closeEvent_endCall_single (r := { r with state := .running, reachedGo := true, waitStart := none }) .done
      (s := u) (by rw [hu]; exact hquiet.1) (by rw [hu]) (by rw [hu]; exact hrole) (by rw [hu]; exact hsolo)
    have hstill : (stopMotionOf (.call r.callId) u).planner = s.planner := by
      unfold stopMotionOf
      split
      next hnone => rw [hu]; rfl
      next m hmo => rw [if_neg (hmotion m (by rw [hu] at hmo; exact hmo)), hu]; rfl
    refine ⟨_, hexec, h.store.trans ?_, h.colour.trans ?_, h.granted.trans ?_, h.purpose, h.figure.trans ?_, h.planner.trans hstill,
      h.clock.trans ?_, h.drive.trans ?_, h.cover.trans ?_, h.station.trans ?_, h.pending.trans ?_⟩
    · rw [hu, hchain]
      exact rfl
    · simp [stopFadeOf, hu]
    · rw [hu]; rfl
    · rw [hu, State.idleClaim, fig_eq (by exact hg)]
      rfl
    all_goals rw [hu]; rfl
  · have hfits : Fits g c seg pl sp s :=
      { state := hstate, reached := hgo, mode := hm, colour := hcolour, chain := hchain, queued := hqueued, index := hindex, plan := hplan,
        segs := hsegs, due := hdue, notices := hquiet.1, figures := hg, checks := hok, claim := hfit, ceiling := hceiling }
    match ws with
    | [] =>
      have hbeside : Preempts r c [] s :=
        { calls := hcalls, reached := hrgo, ne := hne, others := fun x hx => (nomatch hx), role := hrole, records := hland,
          deferred := hdef, round := fun rd hrd => hround rd hrd r List.mem_cons_self, fade := hfade }
      have hdues : s.dueCalls = [c.callId] := by simp [State.dueCalls, hcalls, CallRecord.due, hrgo, hgo, hdue]
      exact go_launched hmode hquiet hfits hbeside (by unfold goTests; rw [hdues]; rfl)
    | [w] =>
      obtain ⟨hwp, hwm, hwc, hwgo, hwdue, hwr, hwcid⟩ := hws w List.mem_cons_self
      have hbeside : Preempts r w [c] s :=
        { calls := hcalls, reached := hrgo, ne := Ne.symm hwr,
          others := fun x hx => by
            obtain rfl := List.mem_singleton.1 hx
            exact ⟨hgo, Ne.symm hne, Ne.symm hwcid⟩
          role := hrole, records := hland, deferred := hdef, round := fun rd hrd => hround rd hrd r List.mem_cons_self, fade := hfade }
      have hexec := go_launched_after hmode hquiet hfits hbeside
        (fun rd hrd => hround rd hrd w (List.mem_cons_of_mem _ List.mem_cons_self)) ⟨hwp, hwm, hwc, hwgo, hwdue⟩
      exact hexec.trans (congrArg Host.Outcome.next (launched_waitingBefore hwc))
    | w :: w' :: rest => exact absurd hlen (by simp)

end Sys2Proof.Machine
end


section
/-! SUPPORT. The settled obligation about the CALL that supersedes and the SEGMENT that wakes a call. -/

namespace Sys2Proof.Machine

/-! ### The lowering with no call running or planned (R59, R113, R115) -/

/-- With no call that runs or is PLANNED, no role, solo mode OFF and no next call, the close of an event asks once for the idle
claim. -/
theorem closeEvent_lowered {s : State} (hrun : s.someRunning = false) (hplanned : s.plannedCall = none) (hrole : s.cover.role = none)
    (hsolo : s.power.solo = none) (hn : s.notices = []) (hnext : s.nextCall = none) :
    closeEvent (lowerAfterEnd s) = requestLowering s.idleClaim s := by
  have hplans := lowerAfterEnd_plans s
  have hreview : review (lowerAfterEnd s) = lowerAfterEnd s := by
    have hnext' : (lowerAfterEnd s).nextCall = none := by
      rw [State.nextCall, lowerAfterEnd_store, lowerAfterEnd_clock]
      exact hnext
    unfold review
    rw [hnext']
    exact ite_self _
  rw [closeEvent, hreview, conclude_of_silent ((hplans.silent hsolo).1.trans hn) (hplans.solo.trans hsolo),
    freshen_lowered hrun hplanned hrole]

theorem stopFadeOf_owned {o : FadeOwner} {s : State} (h : ∀ d, s.colour.fade = some d → d.owner = o) :
    (stopFadeOf o s).colour = { s.colour with fade := none } := by
  unfold stopFadeOf
  split
  next hnone => rw [← hnone]
  next d hd => rw [if_pos (h d hd)]

/-- The new call stands in the place of the one whose id it takes, which ended CUT (R42). -/
def superseding (f : CallFields) (old : CallRecord) (s : State) : State :=
  { endedAlone old .cut s with
    store := { s.store with
      calls := [newCall f old.arrival]
      poolFree := s.store.poolFree + old.chain.length
      counters := { s.store.counters with superseded := satInc s.store.counters.superseded, cut := satInc s.store.counters.cut } }
    landing := { s.landing with
      records := s.landing.records.filter (fun l => l.callId != old.callId)
        ++ if f.sync then [newLanding (newCall f old.arrival)] else [] } }

/-- A CALL of the id of the one call held, its plan point and go ahead: the old call ends CUT, and the claim is lowered (R42, R59). -/
theorem supersedeCall_early {s : State} {f : CallFields} {old : CallRecord} (h : s.store.calls = [old]) (hid : old.callId = f.callId)
    (hrole : s.cover.role = none) (hsolo : s.power.solo = none) (hn : s.notices = []) (hlate : s.isLate f = false)
    (hplan : atOrAfter s.clock.linkClock (f.goTime - 50) = false) :
    supersedeCall f old s = requestLowering s.idleClaim (superseding f old s) := by
  have hend : endCall f.callId .cut s = endedAlone old .cut s := hid ▸ endCall_single .cut h hrole
  have hadd : addCall f old.arrival { endedAlone old .cut s with store := { (endedAlone old .cut s).store with
      counters := { (endedAlone old .cut s).store.counters with superseded := satInc (endedAlone old .cut s).store.counters.superseded } } }
      = superseding f old s := addCall_early (by exact hlate) old.arrival
  have hlower : (lowerAfterEnd (superseding f old s)).isLate f = false := by
    rw [State.isLate, lowerAfterEnd_clock]
    exact hlate
  have htests : lateTests f (lowerAfterEnd (superseding f old s)) = lowerAfterEnd (superseding f old s) := by
    unfold lateTests
    rw [hlower]
    exact rfl
  have hstart : (superseding f old s).startsOnArrival f = false := by
    unfold State.startsOnArrival
    rw [show (superseding f old s).isLate f = false from hlate]
    rfl
  have hahead : (newCall f old.arrival).canBeNext s.clock.linkClock = false := by
    rw [CallRecord.canBeNext, show atOrAfter s.clock.linkClock ((newCall f old.arrival).goTime - BitVec.ofNat 32 Config.planLead) = false
      from hplan, Bool.and_false]
    rfl
  have hnext : (superseding f old s).nextCall = none := List.find?_cons_of_neg fun hc => Bool.false_ne_true (hahead.symm.trans hc)
  have hclose := closeEvent_lowered (s := superseding f old s) rfl rfl hrole ((endPurpose_power_solo _ s).trans hsolo) hn hnext
  rw [idleClaim_congr (t := superseding f old s) (s := s) rfl (stopFadeOf_colour_levels _ s)] at hclose
  unfold supersedeCall
  dsimp only
  rw [hend, hadd, hstart, if_neg Bool.false_ne_true, htests, hclose]

/-! ### A segment that is taken (R46) -/

/-- The next segment of a call's open chain is taken (R46). -/
theorem judgeSegment_next {s : State} {f : SegmentFields} {r : CallRecord} (hm : s.station.mode.takesIntake = true)
    (h : s.store.calls = [r]) (hid : r.callId = f.callId) (hreceived : r.received = f.index.toNat) (hexpected : r.received < r.expected)
    (hclosed : r.closed = false) (hfree : 0 < s.store.poolFree) : judgeSegment f s = .taken r := by
  have hopen : ¬(r.closed = true ∨ r.expected ≤ f.index.toNat) := by
    rw [hclosed, ← hreceived]
    exact fun h => h.elim Bool.false_ne_true (Nat.not_le.2 hexpected)
  rw [judgeSegment_single hm h, if_neg (not_not.2 hid), if_neg (Nat.not_lt.2 hreceived.le), if_neg hopen,
    if_neg (Nat.not_lt.2 hreceived.ge), if_neg (Nat.ne_of_gt hfree)]

/-- The one call held, the segment chained. -/
def withNext (f : SegmentFields) (r : CallRecord) (s : State) : State :=
  { s with store := { s.store with poolFree := s.store.poolFree - 1, calls := [r.withSegment f] } }

/-- A taken segment for the one call held, which cannot be planned after it, has its effect alone. -/
theorem segment_taken {s v : State} {st : Byte} {f : SegmentFields} {r c : CallRecord} (h : Arrives ⟨st, .segment f⟩ s)
    (hm : s.station.mode.takesIntake = true) (hcalls : s.store.calls = [r]) (hid : r.callId = f.callId)
    (hreceived : r.received = f.index.toNat) (hexpected : r.received < r.expected) (hclosed : r.closed = false)
    (hfree : 0 < s.store.poolFree) (hland : s.landing.records = [])
    (hv : segmentEffect r (withNext f r (arrived ⟨st, .segment f⟩ s)) = v) (hquiet : Quiet v) (hc : v.store.calls = [c])
    (hp : c.plannable = false) : exec (.segment st f) s = .next v := by
  have hj := judgeSegment_next (s := arrived ⟨st, .segment f⟩ s) hm hcalls hid hreceived hexpected hclosed hfree
  have hchain : chainSegment f (arrived ⟨st, .segment f⟩ s) = withNext f r (arrived ⟨st, .segment f⟩ s) :=
    chainSegment_single (by exact hcalls) hid (by exact hland)
  rw [segment_of_arrives h, applySegment, hj]
  dsimp only
  rw [hchain, hv, closeEvent, review_single hc hp, conclude_of_quiet hquiet, conclude_of_quiet hquiet]

/-- A segment past the plan asks for its own end, held within the soft limits, and its own timing (R97). -/
theorem segmentAsk_late {s : State} {g : Figures} {r : CallRecord} {seg : PoolSegment} {pl : Plan} (hg : s.station.figures = some g)
    (hplan : r.plan = some pl) (hlen : pl.segs.length ≤ seg.index) (hmode : r.mode = .angles) :
    ∃ cls, segmentAsk s r seg = ⟨(limitEnd g seg.end1 seg.end2).1.1, (limitEnd g seg.end1 seg.end2).1.2, cls,
      ⟨clampD seg.duration, clampR g (clampD seg.duration) seg.ramp, 0⟩⟩ := by
  unfold segmentAsk
  rw [hplan]
  dsimp only
  rw [List.getElem?_eq_none hlen]
  dsimp only
  rw [lateAsk, hmode, fig_eq hg]
  exact ⟨_, rfl⟩

/-- The chain of a HOLD_OPEN call that the segment wakes: the CONSUMED segment is free, the new one runs (R56, R57). -/
theorem resumeCall_single {s : State} {r : CallRecord} {c q : PoolSegment} (h : s.store.calls = [r]) (hchain : r.chain = [c, q])
    (hc : c.state = .consumed) (hq : q.state = .queued) :
    resumeCall r.callId s = runSegment { r with state := .running, holdStart := none } q { s with store := { s.store with
      calls := [{ r with state := .running, holdStart := none, chain := [{ q with state := .active }] }]
      poolFree := s.store.poolFree + 1 } } := by
  have hlive : liveSegments (consumeActive r.chain) = [q] := by simp [liveSegments, consumeActive, hchain, hc, hq]
  have hactive : activate q.index [q] = [{ q with state := .active }] := by simp [activate]
  have hbegin := beginNext_single (s := { s with store := { s.store with calls := [{ r with state := .running, holdStart := none }] } })
    (r := { r with state := .running, holdStart := none }) (seg := q) rfl (by simp [firstQueued, hchain, hc, hq])
  dsimp only at hbegin
  rw [hlive, hactive, show r.chain.length = 2 by rw [hchain]; rfl] at hbegin
  unfold resumeCall
  rw [updateCall_single h]
  exact hbegin

/-- The record with its next segment chained, by its fields (R46). -/
theorem withSegment_eq {f : SegmentFields} {r : CallRecord} (hclosed : r.closed = false) :
    r.withSegment f = { r with
      chain := r.chain ++ [⟨f.index.toNat, f.flags.getLsbD 0, f.duration.toNat, f.ramp.toNat, f.end1.toInt, f.end2.toInt,
        f.end3.toInt, .queued⟩]
      received := r.received + 1
      closed := f.flags.getLsbD 0 || decide (f.index.toNat + 1 = r.expected) } := by
  rw [CallRecord.withSegment, hclosed, Bool.false_or, Bool.beq_eq_decide_eq]
  exact rfl

/-- Settles O40: the CALL that takes the place of another, the SEGMENT that lets a waiting call be planned, and the one that wakes a
call in HOLD_OPEN. -/
theorem supersedeAndWakeCalls : Obligations.SupersedeAndWakeCalls := by
  refine ⟨fun s g st f old h hmode hg hscope hopen hcount hsync hcalls hid _ hrole hsolo hmotion hfade hplan hgo => ?_,
    fun s st f r h hm hcalls hid hstate hchain hreceived hexpected hclosed hfree hland hsolo hsettle _ hroom => ?_,
    fun s g st f r c pl h hm hg hcalls hid hstate hmode hchain hc _ hreceived hexpected hclosed hplan hlen hfree hland hok hfit
      hceiling => ?_⟩
  · have hj : judgeCall f (arrived ⟨st, .call f⟩ s) = .supersedes old := by
      rw [judgeCall_addressed (by rw [show (arrived ⟨st, .call f⟩ s).station.mode = .ready from hmode]; rfl) (by exact hscope),
        if_neg (by rw [show (arrived ⟨st, .call f⟩ s).store.intake = .opened from hopen]; decide), if_neg (by simp [hcount]),
        if_neg (by simpa using hsync), ← hid, findCall_only (by exact hcalls)]
    obtain ⟨u, hu⟩ : ∃ u : State, u = superseding f old (arrived ⟨st, .call f⟩ s) := ⟨_, rfl⟩
    have hsolo' : u.power.solo = none := hu ▸ (endPurpose_power_solo _ _).trans hsolo
    have hquiet : u.notices = [] := hu ▸ h.1.1
    have hplans := request_plans (arrived ⟨st, .call f⟩ s).idleClaim .idle .lowering u
    have hround := request_round (arrived ⟨st, .call f⟩ s).idleClaim .idle .lowering hsolo'
    have hexec : exec (.call st f) s = .next (requestLowering (arrived ⟨st, .call f⟩ s).idleClaim u) := by
      rw [call_of_arrives h, applyCall, hj]
      dsimp only
      rw [supersedeCall_early (by exact hcalls) hid (by exact hrole) (by exact hsolo) (by exact h.1.1) (by exact hgo)
        (by exact hplan), ← hu]
      exact congrArg Host.Outcome.next (conclude_of_quiet (by exact ⟨(hplans.silent hsolo').1.trans hquiet, request_abandoned _ _ _ _⟩))
    have hidle : (arrived ⟨st, .call f⟩ s).idleClaim = g.baseClaim + (g.pan.hold + g.tilt.hold)
        + emitterClaim g.emitterWatts s.colour.levels := by
      rw [State.idleClaim, fig_eq (by exact hg)]
      exact rfl
    refine ⟨_, newCall f old.arrival, hexec, (requestLowering_store _ _).trans ?_, rfl, rfl, rfl, rfl, rfl, rfl, rfl, rfl,
      (requestLowering_planner _ _).trans ?_, hplans.colour.trans ?_, (requestLowering_landing_records _ _).trans ?_,
      (hplans.silent hsolo').2.trans ?_, hround.1, hround.2.trans (congrArg some hidle), hplans.cover.trans ?_, hplans.drive.trans ?_,
      hplans.station.trans ?_, hplans.pending.trans ?_⟩
    · exact (congrArg State.store hu :)
    · exact (congrArg State.planner hu :).trans (stopMotionOf_owned (by rw [hid]; exact hmotion))
    · exact (congrArg State.colour hu :).trans (stopFadeOf_owned (by rw [hid]; exact hfade))
    · exact (congrArg (fun v : State => v.landing.records) hu :).trans (congrArg₂ (· ++ ·) (by rw [hid]; rfl) rfl)
    · exact (congrArg (fun v : State => v.power.granted) hu :).trans (endPurpose_power_granted _ _)
    · exact (congrArg State.cover hu :)
    · exact (congrArg State.drive hu :)
    · exact (congrArg State.station hu :)
    · exact (congrArg State.pending hu :)
  · obtain ⟨u, hu⟩ : ∃ u : State, u = withNext f r (arrived ⟨st, .segment f⟩ s) := ⟨_, rfl⟩
    have hcalls' : u.store.calls = [r.withSegment f] := (congrArg (fun v : State => v.store.calls) hu :)
    have hsolo' : u.power.solo = none := (congrArg (fun v : State => v.power.solo) hu :).trans hsolo
    have hsettle' : u.power.settle = none := (congrArg (fun v : State => v.power.settle) hu :).trans hsettle
    have hroom' : u.link.queue.length < 12 := by rw [hu]; exact hroom
    obtain ⟨k, cap, hcall⟩ := planCall_single hcalls'
    obtain ⟨q, hrecord, _⟩ := recordPlan_offered (s := { u with aim := { u.aim with counters := k } }) hcalls'
      (u.planFor (r.withSegment f)) cap hsolo' hsettle' hroom'
    have hmade := planFor_madeFrom u (r.withSegment f)
    obtain ⟨pl, hpl⟩ : ∃ pl : Plan, pl = u.planFor (r.withSegment f) := ⟨_, rfl⟩
    rw [← hpl] at hcall hrecord hmade
    obtain ⟨v, hv⟩ : ∃ v : State, v = planCall (r.withSegment f).callId u := ⟨_, rfl⟩
    have hveq := hv.trans (hcall.trans hrecord)
    have heffect : segmentEffect r u = v := by
      rw [hv]
      unfold segmentEffect
      rw [hstate, hchain]
      exact rfl
    have hrecorded : { r.withSegment f with plan := some pl, state := (r.withSegment f).state.onPlan } = { r with
        plan := some pl
        chain := [⟨f.index.toNat, f.flags.getLsbD 0, f.duration.toNat, f.ramp.toNat, f.end1.toInt, f.end2.toInt, f.end3.toInt, .queued⟩]
        received := r.received + 1
        closed := f.flags.getLsbD 0 || decide (f.index.toNat + 1 = r.expected) } := by
      rw [withSegment_eq hclosed, hchain, hstate]
      exact rfl
    have hcallsv := (congrArg (fun v : State => v.store.calls) hveq).trans (congrArg (fun x => [x]) hrecorded)
    refine ⟨v, pl, segment_taken h hm hcalls hid hreceived hexpected hclosed hfree hland (hu ▸ heffect) ?_ hcallsv ?_, ?_, ?_, ?_, ?_,
      ?_, ?_, ?_, ?_, ?_, ?_, ?_⟩
    · rw [hveq]
      exact ⟨hu ▸ h.1.1, rfl⟩
    · simp [CallRecord.plannable, hstate]
    · exact (congrArg State.store hveq :).trans
        (by rw [hu]; exact congrArg (fun x => { s.store with poolFree := s.store.poolFree - 1, calls := [x] }) hrecorded)
    · rw [hmade.segs, withSegment_eq hclosed, hchain]
      rfl
    · exact (congrArg (fun v : State => v.power.round) hveq :)
    · exact (congrArg (fun v : State => v.power.granted) hveq :).trans (congrArg (fun v : State => v.power.granted) hu :)
    · exact (congrArg (fun v : State => v.planner.motion) hveq :).trans (congrArg (fun v : State => v.planner.motion) hu :)
    · exact (congrArg (fun v : State => v.planner.pan) hveq :).trans (congrArg (fun v : State => v.planner.pan) hu :)
    · exact (congrArg State.colour hveq :).trans (congrArg State.colour hu :)
    · exact (congrArg State.drive hveq :).trans (congrArg State.drive hu :)
    · exact (congrArg State.cover hveq :).trans (congrArg State.cover hu :)
    · exact (congrArg State.station hveq :).trans (congrArg State.station hu :)
    · exact (congrArg State.pending hveq :).trans (congrArg State.pending hu :)
  · obtain ⟨r1, hr1⟩ : ∃ r1 : CallRecord, r1 = r.withSegment f := ⟨_, rfl⟩
    have hstays := hr1.trans (withSegment_eq hclosed)
    obtain ⟨u, hu⟩ : ∃ u : State, u = withNext f r (arrived ⟨st, .segment f⟩ s) := ⟨_, rfl⟩
    have hcalls' : u.store.calls = [r1] := hr1 ▸ (congrArg (fun v : State => v.store.calls) hu :)
    obtain ⟨q, hq⟩ : ∃ q : PoolSegment, q = ⟨f.index.toNat, f.flags.getLsbD 0, f.duration.toNat, f.ramp.toNat, f.end1.toInt, f.end2.toInt,
      f.end3.toInt, .queued⟩ := ⟨_, rfl⟩
    have hchain' : r1.chain = [c, q] := by rw [hstays, hchain, hq]; rfl
    have hresume := resumeCall_single hcalls' hchain' hc (by rw [hq])
    obtain ⟨v, hv⟩ : ∃ v : State, v = { u with store := { u.store with
      calls := [{ r1 with state := .running, holdStart := none, chain := [{ q with state := .active }] }]
      poolFree := u.store.poolFree + 1 } } := ⟨_, rfl⟩
    rw [← hv] at hresume
    have hvu : v = { arrived ⟨st, .segment f⟩ s with store := v.store } := by rw [hv, hu]; rfl
    have hplan' : r1.plan = some pl := by rw [hr1]; exact hplan
    obtain ⟨cls, hask⟩ := segmentAsk_late (s := v) (r := { r1 with state := .running, holdStart := none }) (seg := q)
      (by rw [hvu]; exact hg) hplan' (by rw [hq]; exact hlen) (by rw [hr1]; exact hmode)
    have hruns := runSegment_fits (s := v) (r := { r1 with state := .running, holdStart := none }) (seg := q) (g := g)
      (by rw [hvu]; exact hg) hplan' hask rfl (by rw [hvu, hq]; exact hok) (by rw [hvu, hq]; exact hfit)
      (by rw [hvu]; exact hceiling)
    obtain ⟨x, hx⟩ : ∃ x : State, x = resumeCall r1.callId u := ⟨_, rfl⟩
    have hxeq := hx.trans (hresume.trans hruns)
    have heffect : segmentEffect r u = x := by
      rw [hx, hr1]
      unfold segmentEffect
      rw [hstate]
      exact rfl
    refine ⟨x, segment_taken h hm hcalls hid hreceived hexpected hclosed hfree hland (hu ▸ heffect) ?_
      ((congrArg (fun v : State => v.store.calls) hxeq).trans (congrArg (fun v : State => v.store.calls) hv)) rfl, ?_, ?_, ?_,
        ?_, ?_, ?_, ?_, ?_⟩
    · rw [hxeq, hvu]
      exact h.1
    · have hpool : u.store.poolFree + 1 = s.store.poolFree :=
        (congrArg (fun v : State => v.store.poolFree + 1) hu).trans (Nat.sub_add_cancel hfree)
      refine (congrArg State.store hxeq :).trans ((congrArg State.store hv :).trans ?_)
      rw [hpool, hu, hstays, hq]
      exact rfl
    · refine (congrArg State.planner hxeq :).trans ?_
      rw [hvu, hq, hr1]
      exact rfl
    · exact (congrArg State.power hxeq :).trans (congrArg State.power hvu :)
    · exact (congrArg State.colour hxeq :).trans (congrArg State.colour hvu :)
    · exact (congrArg State.drive hxeq :).trans (congrArg State.drive hvu :)
    · exact (congrArg State.cover hxeq :).trans (congrArg State.cover hvu :)
    · exact (congrArg State.station hxeq :).trans (congrArg State.station hvu :)
    · exact (congrArg State.pending hxeq :).trans (congrArg State.pending hvu :)

end Sys2Proof.Machine
end


section
/-! SUPPORT. The equations of an in-frame that finds no fault, and the settled obligation about in-frames. -/

namespace Sys2Proof.Machine

/-! ### The words of an in-frame (R166, R167, R175, R178) -/

/-- An absent in-frame before the tenth in a row is counted, the run of them in a monitored mode alone (R175). -/
theorem absentFrame_early {s : State} (h : s.drive.absentCount + 1 < 10) :
    absentFrame s =
      { s with drive := { s.drive with
          absentCount := if s.station.mode.monitored then s.drive.absentCount + 1 else 0
          counters := { s.drive.counters with absentFrames := satInc s.drive.counters.absentFrames } } } := by
  unfold absentFrame
  dsimp only
  by_cases hm : s.station.mode.monitored = true
  · rw [if_pos hm, if_neg (show ¬ Config.absentLimit ≤ s.drive.absentCount + 1 from Nat.not_le.2 h), if_pos hm]
  · rw [if_neg hm, if_neg hm]

/-- The colour engine after a temperature word that enters no thermal shutdown (R166). -/
def warmed (g : Figures) (tau : Int) (s : State) : State :=
  { s with colour := { s.colour with
      lastTemp := some tau
      thermal := thermalNext g.derate g.shutdown s.colour.thermal tau
      counters := { s.colour.counters with
        derates := satIf (s.colour.thermal == .normal && thermalNext g.derate g.shutdown s.colour.thermal tau == .derated)
          s.colour.counters.derates } } }

theorem handTemperature_warmed {s : State} {g : Figures} {tau : Int} (hg : s.station.figures = some g)
    (h : (s.colour.thermal != .shutdown && thermalNext g.derate g.shutdown s.colour.thermal tau == .shutdown) = false) :
    handTemperature tau s = warmed g tau s := by
  have hreports : reportsShutdown tau s = false := by
    unfold reportsShutdown
    rw [hg]
    exact h
  unfold handTemperature
  rw [hreports, if_neg Bool.false_ne_true]
  unfold takeTemperature
  rw [hg]
  dsimp only
  rw [h]
  exact rfl

/-- A NORMAL engine below its derating temperature stays NORMAL (R166). -/
theorem thermalNext_cool {g : Figures} {tau : Int} (h : tau < 2 * g.derate) (hle : g.derate ≤ g.shutdown) :
    thermalNext g.derate g.shutdown .normal tau = .normal := by
  unfold thermalNext
  dsimp only
  rw [if_neg (not_le.2 (h.trans_le (mul_le_mul_of_nonneg_left (Int.ofNat_le.2 hle) two_pos.le))), if_neg (not_le.2 h)]

/-- An engine that is shut down, or a temperature below the shutdown temperature, enters no thermal shutdown (R166). -/
theorem thermalNext_unshut {g : Figures} {st : ThermalState} {tau : Int} (h : st = .shutdown ∨ tau < 2 * g.shutdown) :
    (st != .shutdown && thermalNext g.derate g.shutdown st tau == .shutdown) = false := by
  cases st with
  | shutdown => rfl
  | normal =>
    have hlt : tau < 2 * g.shutdown := h.resolve_left (by decide)
    unfold thermalNext
    dsimp only
    rw [if_neg (Int.not_le.2 hlt)]
    split <;> rfl
  | derated =>
    have hlt : tau < 2 * g.shutdown := h.resolve_left (by decide)
    unfold thermalNext
    dsimp only
    rw [if_neg (Int.not_le.2 hlt)]
    split <;> rfl

/-- The derating is counted as a NORMAL engine reaches its derating temperature (R166). -/
theorem satIf_derated {g : Figures} {st : ThermalState} {tau : Int} (h : st = .shutdown ∨ tau < 2 * g.shutdown) (n : Nat) :
    satIf (st == .normal && thermalNext g.derate g.shutdown st tau == .derated) n
      = if st = .normal ∧ 2 * (g.derate : Int) ≤ tau then satInc n else n := by
  cases st with
  | shutdown => exact (if_neg (fun h => nomatch h.1)).symm
  | derated => exact (if_neg (fun h => nomatch h.1)).symm
  | normal =>
    have hlt : tau < 2 * g.shutdown := h.resolve_left (by decide)
    unfold thermalNext
    dsimp only
    rw [if_neg (Int.not_le.2 hlt)]
    by_cases hwarm : 2 * (g.derate : Int) ≤ tau
    · rw [if_pos hwarm, if_pos ⟨rfl, hwarm⟩]
      exact rfl
    · rw [if_neg hwarm, if_neg fun h => hwarm h.2]
      exact rfl

theorem handTemperature_cool {s : State} {g : Figures} {tau : Int} (hg : s.station.figures = some g)
    (hnormal : s.colour.thermal = .normal) (h : tau < 2 * g.derate) (hle : g.derate ≤ g.shutdown) :
    handTemperature tau s = { s with colour := { s.colour with lastTemp := some tau } } := by
  have hnext : thermalNext g.derate g.shutdown s.colour.thermal tau = .normal := by rw [hnormal, thermalNext_cool h hle]
  have hstays : (s.colour.thermal == .normal && ThermalState.normal == .derated) = false := by rw [hnormal]; rfl
  rw [handTemperature_warmed hg (by rw [hnext, hnormal]; rfl), warmed, hnext, hstays, ← hnormal]
  exact rfl

/-- The checks of an in-frame that find no fault write the two follow-error runs (R177, R178). -/
theorem driveChecks_sound {s : State} {m : StationMode} {status : Slot} {enc : Int × Int} {p q : Nat} (hm : s.station.mode.monitored = true)
    (hstatus : statusAnyFault status = false)
    (hp : runNext (s.monitorRuns m) s.fig.followErrorLimit s.drive.outFrame.pan enc.1 s.drive.panRun = p)
    (hq : runNext (s.monitorRuns m) s.fig.followErrorLimit s.drive.outFrame.tilt enc.2 s.drive.tiltRun = q)
    (hplt : p < 20) (hqlt : q < 20) :
    driveChecks m status enc s = { s with drive := { s.drive with panRun := p, tiltRun := q } } := by
  have hpan : ¬ Config.runLimit ≤ p := Nat.not_le.2 hplt
  have htilt : ¬ Config.runLimit ≤ q := Nat.not_le.2 hqlt
  have hnone : firstFault status p q = none := by
    unfold firstFault
    rw [hstatus, if_neg Bool.false_ne_true, if_neg hpan, if_neg htilt]
  have hcounted : driveCounted m status enc s = { s with drive := { s.drive with panRun := p, tiltRun := q } } := by
    unfold driveCounted
    dsimp only
    rw [hp, hq, hstatus, decide_eq_false hpan, decide_eq_false htilt]
    exact rfl
  rw [driveChecks_of_monitored hm, hcounted, hnone]

/-- Outside HOMING an in-frame with no thermal shutdown drives no homing (R81, R175, R179). -/
theorem presentFrame_settled {s u : State} {status : Slot} {enc : Int × Int} {tau : Int}
    (hu : handTemperature tau (recordFrame status enc s) = u)
    (hm : u.station.mode ≠ .homing) :
    presentFrame status enc tau s = driveChecks s.station.mode status enc (onTargetTest enc u) := by
  unfold presentFrame
  dsimp only
  rw [hu, followEncoders, if_neg hm, homingCheck, if_neg (fun h => hm ((onTargetTest_mode enc u).symm.trans h.1))]

theorem onTargetTest_of_no_role {s : State} (h : s.cover.role = none) (enc : Int × Int) : onTargetTest enc s = s := by
  unfold onTargetTest
  rw [h]

/-- The follow-error run of an axis below 19 stays below 20 (R178). -/
theorem runNext_of_lt {running : Bool} {limit run : Nat} {command enc : Int} (h : run < 19) :
    runNext running limit command enc run = (if running = true ∧ limit < (command - enc).natAbs then run + 1 else 0) := by
  unfold runNext
  have hmin : min Config.runLimit (run + 1) = run + 1 := Nat.min_eq_right (by show run + 1 ≤ 20; omega)
  rw [hmin]
  simp

/-- The words of a present in-frame, the fall of a homed bit counted for each axis in READY and ISOLATED (R175, R181). -/
theorem recordFrame_tested {s : State} (h : s.station.mode.makesTests = true) (status : Slot) (enc : Int × Int) :
    recordFrame status enc s = { s with drive := { s.drive with
      absentCount := 0
      lastStatus := some (status &&& 0x3F)
      lastEncoders := some enc
      panHomed := status.getLsbD 1
      tiltHomed := status.getLsbD 2
      counters := { s.drive.counters with
        homingLost := if s.drive.tiltHomed = true ∧ status.getLsbD 2 = false then
            satInc (if s.drive.panHomed = true ∧ status.getLsbD 1 = false then satInc s.drive.counters.homingLost
              else s.drive.counters.homingLost)
          else if s.drive.panHomed = true ∧ status.getLsbD 1 = false then satInc s.drive.counters.homingLost
          else s.drive.counters.homingLost } } } := by
  have hfell (was now : Bool) (n : Nat) :
      satIf (homedFell s.station.mode was now) n = if was = true ∧ now = false then satInc n else n := by
    unfold homedFell satIf
    rw [h]
    cases was <;> cases now <;> rfl
  unfold recordFrame
  rw [hfell, hfell]
  exact rfl

/-- In any other mode no fall of a homed bit is counted (R181). -/
theorem recordFrame_untested {s : State} (h : s.station.mode.makesTests = false) (status : Slot) (enc : Int × Int) :
    recordFrame status enc s = { s with drive := { s.drive with
      absentCount := 0
      lastStatus := some (status &&& 0x3F)
      lastEncoders := some enc
      panHomed := status.getLsbD 1
      tiltHomed := status.getLsbD 2 } } := by
  unfold recordFrame homedFell
  rw [h]
  exact rfl

theorem runNext_lt {running : Bool} {limit run : Nat} {command enc : Int} (h : run < 19) : runNext running limit command enc run < 20 := by
  rw [runNext_of_lt h]
  split
  · exact Nat.succ_lt_succ h
  · exact Nat.succ_pos _

/-- A frame of READY or ISOLATED whose temperature enters no shutdown and whose checks find no fault (R175, R177, R178). -/
theorem presentFrame_sound {s u v : State} {status : Slot} {enc : Int × Int} {tau : Int} {p q : Nat}
    (hmode : s.station.mode = .ready ∨ s.station.mode = .isolated) (hstatus : statusAnyFault status = false)
    (hu : handTemperature tau (recordFrame status enc s) = u) (hustation : u.station = s.station) (hv : onTargetTest enc u = v)
    (hvstation : v.station = s.station)
    (hp : runNext (v.monitorRuns s.station.mode) v.fig.followErrorLimit v.drive.outFrame.pan enc.1 v.drive.panRun = p)
    (hq : runNext (v.monitorRuns s.station.mode) v.fig.followErrorLimit v.drive.outFrame.tilt enc.2 v.drive.tiltRun = q)
    (hplt : v.drive.panRun < 19) (hqlt : v.drive.tiltRun < 19) :
    presentFrame status enc tau s = { v with drive := { v.drive with panRun := p, tiltRun := q } } := by
  have hmon : v.station.mode.monitored = true := by
    rw [hvstation]
    rcases hmode with h | h <;> rw [h] <;> rfl
  have hne : u.station.mode ≠ .homing := by
    rw [hustation]
    rcases hmode with h | h <;> rw [h] <;> decide
  rw [presentFrame_settled hu hne, hv]
  exact driveChecks_sound hmon hstatus hp hq (hp ▸ runNext_lt hplt) (hq ▸ runNext_lt hqlt)

/-- The run of an axis below 19 in READY or ISOLATED with the axis enabled (R178). -/
theorem runNext_tested {v : State} {g : Figures} {m : StationMode} (hm : m = .ready ∨ m = .isolated) (hg : v.station.figures = some g)
    (haxis : v.drive.outFrame.axisEnable = true) (command enc : Int) {run : Nat} (h : run < 19) :
    runNext (v.monitorRuns m) v.fig.followErrorLimit command enc run
      = if g.followErrorLimit < (command - enc).natAbs then run + 1 else 0 := by
  have hruns : v.monitorRuns m = true := by
    unfold State.monitorRuns
    rw [haxis]
    rcases hm with h | h <;> rw [h] <;> rfl
  rw [runNext_of_lt h, hruns, fig_eq hg]
  simp only [true_and]

/-- The thermal states but for the entry to SHUTDOWN (R166). -/
theorem thermalNext_eq (g : Figures) (st : ThermalState) (tau : Int) : (st = .shutdown ∨ tau < 2 * g.shutdown) →
    thermalNext g.derate g.shutdown st tau = match st with
      | .normal => if 2 * (g.derate : Int) ≤ tau then .derated else .normal
      | .derated => if tau ≤ 2 * (g.derate : Int) - 10 then .normal else .derated
      | .shutdown =>
        if 2 * (g.shutdown : Int) - 10 < tau then .shutdown else if tau ≤ 2 * (g.derate : Int) - 10 then .normal else .derated := by
  intro h
  cases st with
  | normal => exact if_neg (Int.not_le.2 (h.resolve_left (by decide)))
  | derated => exact if_neg (Int.not_le.2 (h.resolve_left (by decide)))
  | shutdown => exact rfl

theorem monitored_iff (m : StationMode) : m.monitored = true ↔ m = .starting ∨ m = .homing ∨ m = .ready ∨ m = .isolated := by
  cases m <;> decide

/-- Settles O46: an absent frame, the frame that completes homing, and the frames of READY and ISOLATED. -/
theorem inFramesRecorded : Obligations.InFramesRecorded := by
  refine ⟨fun s status pan tilt temp habsent hmode hcount => ?_,
    fun s g status pan tilt temp hquiet hmode hg hpresent hpan htilt h3 h4 h5 hnormal hcool hle hlost hline hcalls hrole hround hdef hsolo
      hclaim hbeacon hlen => ?_,
    fun s g status pan tilt temp hmode hg hpresent h3 h4 h5 haxis hrole hprun htrun hmargin hshut => ?_⟩
  · refine congrArg Host.Outcome.next ((if_neg hmode).trans ((if_neg (by rw [statusPresent, habsent]; exact Bool.false_ne_true)).trans ?_))
    rw [absentFrame_early hcount, if_congr (monitored_iff _) rfl rfl]
  · obtain ⟨u, hu⟩ : ∃ u : State, u = { s with
        drive := { s.drive with
          absentCount := 0
          lastStatus := some (status &&& 0x3F)
          lastEncoders := some (pan.toInt, tilt.toInt)
          panHomed := status.getLsbD 1
          tiltHomed := status.getLsbD 2 }
        colour := { s.colour with lastTemp := some temp.toInt }
        planner := { s.planner with
          pan := clampInt g.panMin g.panMax pan.toInt
          tilt := clampInt g.tiltMin g.tiltMax tilt.toInt } } := ⟨_, rfl⟩
    have hfollowed : onTargetTest (pan.toInt, tilt.toInt) (followEncoders (pan.toInt, tilt.toInt)
        (handTemperature temp.toInt (recordFrame status (pan.toInt, tilt.toInt) s))) = u := by
      rw [recordFrame_untested (by rw [hmode]; rfl), handTemperature_cool (by exact hg) (by exact hnormal) hcool hle,
        followEncoders, if_pos (by exact hmode), commandWithin, fig_eq (by exact hg),
        onTargetTest_of_no_role (by exact hrole), hu]
    rw [hpan, htilt] at hu
    have hready := enterReady_idle (s := u) (by rw [hu]; exact hquiet) (by rw [hu]; exact hg) (by rw [hu]; exact hcalls)
      (by rw [hu]; exact hround) (by rw [hu]; exact hdef) (by rw [hu]; exact hsolo) (by rw [hu]; exact hlost) (by rw [hu]; exact hline)
      (by rw [hu]; exact hclaim) (by rw [hu]; exact hbeacon) (by rw [hu]; exact hlen)
    have hhomed : homingCheck u = enterReady u := if_pos (by rw [hu]; exact ⟨hmode, rfl, rfl⟩)
    have hnoRun (v : State) (limit : Nat) (command enc : Int) (run : Nat) :
        runNext (v.monitorRuns s.station.mode) limit command enc run = 0 := by
      rw [State.monitorRuns, hmode]
      exact rfl
    refine congrArg Host.Outcome.next ((if_neg (by rw [hmode]; decide)).trans ((if_pos hpresent).trans ?_))
    refine (congrArg (fun v => driveChecks s.station.mode status (pan.toInt, tilt.toInt) (homingCheck v)) hfollowed).trans ?_
    refine (congrArg (driveChecks s.station.mode status (pan.toInt, tilt.toInt)) (hhomed.trans hready)).trans ?_
    refine (driveChecks_sound (p := 0) (q := 0) rfl (by rw [statusAnyFault, h3, h4, h5]; rfl) (hnoRun _ _ _ _ _) (hnoRun _ _ _ _ _)
      (by decide) (by decide)).trans ?_
    subst hu
    exact rfl
  · have htests : s.station.mode.makesTests = true := by rcases hmode with h | h <;> rw [h] <;> rfl
    have hwarm := handTemperature_warmed (s := recordFrame status (pan.toInt, tilt.toInt) s) hg (thermalNext_unshut hshut)
    have hrun := runNext_tested (v := warmed g temp.toInt (recordFrame status (pan.toInt, tilt.toInt) s)) hmode hg haxis
    have hframe := presentFrame_sound hmode (by rw [statusAnyFault, h3, h4, h5]; rfl) hwarm rfl
      (onTargetTest_of_no_role (by exact hrole) _) rfl
      (hrun _ _ hprun) (hrun _ _ htrun) hprun htrun
    have hstays : s.station.mode ≠ .reset := by rcases hmode with h | h <;> rw [h] <;> decide
    refine congrArg Host.Outcome.next ((if_neg hstays).trans ((if_pos hpresent).trans (hframe.trans ?_)))
    rw [recordFrame_tested htests]
    unfold warmed
    dsimp only
    rw [satIf_derated hshut]
    have hnext := thermalNext_eq g s.colour.thermal temp.toInt hshut
    generalize thermalNext g.derate g.shutdown s.colour.thermal temp.toInt = th at hnext ⊢
    subst hnext
    exact rfl

end Sys2Proof.Machine
end


section
/-! SUPPORT. The entry to FAULTED, and the settled obligation about the faults of the drive port and the thermal shutdown. -/

namespace Sys2Proof.Machine

/-! ### A head that is dark and stands still (R190) -/

/-- No segment is under way, no fade runs and every level is 0. -/
structure Still (s : State) : Prop where
  motion : s.planner.motion = none
  levels : s.colour.levels = darkLevels
  fade : s.colour.fade = none

theorem Still.congr {s t : State} (h : Still s) (hplanner : t.planner = s.planner) (hcolour : t.colour = s.colour) : Still t where
  motion := (congrArg PlannerState.motion hplanner).trans h.motion
  levels := (congrArg ColourState.levels hcolour).trans h.levels
  fade := (congrArg ColourState.fade hcolour).trans h.fade

theorem stopMotionOf_still (o : MotionOwner) {s : State} (h : Still s) : Still (stopMotionOf o s) := by
  unfold stopMotionOf
  rw [h.motion]
  exact h

theorem stopFadeOf_still (o : FadeOwner) {s : State} (h : Still s) : Still (stopFadeOf o s) := by
  unfold stopFadeOf
  rw [h.fade]
  exact h

theorem endRoleOf_still (id : Word16) {s : State} (h : Still s) : Still (endRoleOf id s) := by
  unfold endRoleOf
  split
  · exact h
  · split
    · unfold endRole
      split
      · exact h
      next r _ =>
        have hdark : Still (clearRole (dark (giveUpEntry r s))) :=
          ⟨(congrArg PlannerState.motion (giveUpEntry_planner r s)).trans h.motion, rfl, rfl⟩
        exact (stopMotionOf_still .follow hdark).congr (endPurpose_planner _ _) (endPurpose_colour _ _)
    · exact h

theorem endCall_still (id : Word16) (o : CallOutcome) {s : State} (h : Still s) : Still (endCall id o s) := by
  unfold endCall
  split
  · exact h
  · have hstopped := stopFadeOf_still (.call id) (stopMotionOf_still (.call id) (endRoleOf_still id h))
    exact (Still.mk hstopped.motion hstopped.levels hstopped.fade).congr (endPurpose_planner _ _) (endPurpose_colour _ _)

/-- Ending every call held leaves none (R59). -/
theorem endCalls_all (o : CallOutcome) (s : State) : (endCalls o (s.callIds (fun _ => true)) s).store.calls = [] := by
  rw [endCalls_calls]
  refine List.filter_eq_nil_iff.2 fun c hc => ?_
  have hmem : c.callId ∈ s.callIds (fun _ => true) := List.mem_map.2 ⟨c, List.mem_filter.2 ⟨hc, rfl⟩, rfl⟩
  simp [hmem]

/-! ### The entry to FAULTED (R113, R122, R190) -/

/-- What a frame writes before its fault is found: the words, counts and runs of the drive port, the colour engine's temperature,
and the cover unit's HOLD. -/
structure Recorded (s u : State) : Prop where
  station : u.station = s.station := by exact rfl
  store : u.store = s.store := by exact rfl
  planner : u.planner = s.planner := by exact rfl
  power : u.power = s.power := by exact rfl
  clock : u.clock = s.clock := by exact rfl
  pending : u.pending = s.pending := by exact rfl
  notices : u.notices = s.notices := by exact rfl
  axesOn : u.drive.axesOn = s.drive.axesOn := by exact rfl

theorem Recorded.trans {s t u : State} (h : Recorded s t) (k : Recorded t u) : Recorded s u where
  station := k.station.trans h.station
  store := k.store.trans h.store
  planner := k.planner.trans h.planner
  power := k.power.trans h.power
  clock := k.clock.trans h.clock
  pending := k.pending.trans h.pending
  notices := k.notices.trans h.notices
  axesOn := k.axesOn.trans h.axesOn

/-- The station is FAULTED with the fault code: dark, still, with no call held, and its claim sought down to the hold figure. -/
structure Faulted (g : Figures) (code : Nat) (s t : State) : Prop extends Still t where
  mode : t.station.mode = .faulted
  faultCode : t.station.faultCode = code
  asserted : t.station.statusAsserted = true
  shut : code = 7 → t.colour.thermal = .shutdown
  pan : t.planner.pan = s.planner.pan
  tilt : t.planner.tilt = s.planner.tilt
  calls : t.store.calls = []
  pool : t.store.poolFree = 64
  request : t.power.round.map Round.request = some g.still
  purpose : t.power.round.map Round.purpose = some .lowering
  solo : t.power.solo = none
  granted : t.power.granted = if s.power.solo.isSome then g.still else s.power.granted
  axesOn : t.drive.axesOn = s.drive.axesOn
  absent : t.drive.absentCount = 0
  panRun : t.drive.panRun = 0
  tiltRun : t.drive.tiltRun = 0
  homing : t.drive.homing = none
  clock : t.clock.linkClock = s.clock.linkClock
  pending : t.pending = s.pending

/-- A fault found in a monitored mode enters FAULTED (R190). -/
theorem enterFault_faulted {s u : State} {g : Figures} {code : Nat} (hquiet : Quiet s) (hstore : StoreInv s)
    (hg : s.station.figures = some g) (hm : s.station.mode.monitored = true) (h : Recorded s u)
    (hshut : code = 7 → u.colour.thermal = .shutdown) : Faulted g code s (enterFault code u) := by
  obtain ⟨a, ha⟩ : ∃ a : State, a = haltMotion (dark (setMode .faulted { u with station.faultCode := code })) := ⟨_, rfl⟩
  obtain ⟨v, hv⟩ : ∃ v : State, v = stoppedByFault code u := ⟨_, rfl⟩
  have hva : v = endCalls .cut (a.callIds (fun _ => true)) a := hv.trans (by rw [ha]; rfl)
  have hends : Ends a v := hva ▸ endCalls_ends _ _ _
  have hcalls : v.store.calls = [] := hva ▸ endCalls_all _ _
  have hstill : Still v := hva ▸ endCalls_induction (P := Still) _ (fun id _ k => endCall_still id _ k) _ _ (ha ▸ ⟨rfl, rfl, rfl⟩)
  have hpool : StoreInv v := hv ▸ (stoppedByFault_within code u).store (by
    show StoreInv _
    rw [storeInv_iff, setMode_store, h.store]
    exact (storeInv_iff s).1 hstore)
  obtain ⟨_, _, hfree⟩ := hpool
  rw [hcalls] at hfree
  have hstation : v.station = { s.station with mode := .faulted, faultCode := code, statusAsserted := true } :=
    hends.station.trans (by rw [ha, ← h.station]; exact setMode_station _ _)
  have hpower : a.power = s.power := ha ▸ (setMode_power _ _).trans h.power
  have hplanner : a.planner = { s.planner with motion := none } := by
    rw [ha, ← h.planner]
    exact congrArg (fun k : PlannerState => { k with motion := none }) (setMode_planner _ _)
  have hdrive : a.drive = u.drive := ha ▸ setMode_drive _ _
  have hcolour : a.colour.thermal = u.colour.thermal := by
    rw [ha]
    exact (congrArg ColourState.thermal (setMode_colour _ _) :)
  have hclock : a.clock.linkClock = u.clock.linkClock := by
    rw [ha]
    exact setMode_clock_linkClock _ _
  have hfig : v.fig = g := fig_eq (by rw [hstation]; exact hg)
  have hsolo : (soloCleared v).power.solo = none := rfl
  have hplans := request_plans g.still .idle .lowering (soloCleared v)
  have hround := request_round g.still .idle .lowering hsolo
  obtain ⟨hnotices, hgranted⟩ := hplans.silent hsolo
  have hsilent : v.notices = [] := hends.notices.trans ((ha ▸ setMode_notices _ _ : a.notices = u.notices).trans (h.notices.trans hquiet.1))
  have hmon : u.station.mode.monitored = true := by rw [h.station]; exact hm
  have hlowered : faultPower v = request g.still .idle .lowering (soloCleared v) := by rw [← hfig]; rfl
  have hrest : Quiet (faultDrive (request g.still .idle .lowering (soloCleared v))) :=
    ⟨hnotices.trans hsilent, request_abandoned _ _ _ _⟩
  rw [enterFault_of_monitored hmon, ← hv, hlowered, conclude_of_quiet hrest]
  have hstationed := hplans.station.trans hstation
  have hclaim : (soloCleared v).power.granted = if s.power.solo.isSome then g.still else s.power.granted := by
    rw [← hpower, ← hends.solo, ← hends.granted, ← hfig]
    rfl
  exact {
    motion := hplans.motion.trans hstill.motion
    levels := (congrArg ColourState.levels hplans.colour).trans hstill.levels
    fade := (congrArg ColourState.fade hplans.colour).trans hstill.fade
    mode := (congrArg StationState.mode hstationed :)
    faultCode := (congrArg StationState.faultCode hstationed :)
    asserted := (congrArg StationState.statusAsserted hstationed :)
    shut := fun h7 => (congrArg ColourState.thermal hplans.colour).trans (hends.thermal.trans (hcolour.trans (hshut h7)))
    pan := hplans.pan.trans (hends.pan.trans (congrArg PlannerState.pan hplanner :))
    tilt := hplans.tilt.trans (hends.tilt.trans (congrArg PlannerState.tilt hplanner :))
    calls := (congrArg StoreState.calls (request_store _ _ _ _)).trans hcalls
    pool := hplans.poolFree.trans hfree
    request := hround.2
    purpose := hround.1
    solo := hplans.solo.trans hsolo
    granted := hgranted.trans hclaim
    axesOn := (congrArg DriveState.axesOn (hplans.drive.trans (hends.drive.trans hdrive))).trans h.axesOn
    absent := rfl
    panRun := rfl
    tiltRun := rfl
    homing := rfl
    clock := (congrArg ClockState.linkClock (hplans.clock.trans hends.clock)).trans (hclock.trans (congrArg ClockState.linkClock h.clock))
    pending := hplans.pending.trans (hends.pending.trans ((ha ▸ setMode_pending _ _ : a.pending = u.pending).trans h.pending)) }

/-! ### The frames and the timeout that find a fault (R166, R175, R177, R178, R180) -/

theorem onTargetTest_cases (enc : Int × Int) (s : State) :
    onTargetTest enc s = s ∨ ∃ r : Role, onTargetTest enc s = offerHold r { s with cover.onTarget := true } := by
  unfold onTargetTest
  split
  · split
    · exact .inr ⟨_, rfl⟩
    · exact .inl rfl
  · exact .inl rfl
  · exact .inl rfl

theorem offerHold_recorded (r : Role) (s : State) : Recorded s (offerHold r s) := by
  unfold offerHold offer toldDrop
  split <;> exact {}

theorem onTargetTest_recorded (enc : Int × Int) (s : State) :
    Recorded s (onTargetTest enc s) ∧ (onTargetTest enc s).colour = s.colour ∧ (onTargetTest enc s).drive = s.drive := by
  rcases onTargetTest_cases enc s with h | ⟨r, h⟩
  · rw [h]
    exact ⟨{}, rfl, rfl⟩
  · rw [h]
    exact ⟨(show Recorded s { s with cover.onTarget := true } from {}).trans (offerHold_recorded _ _), offerHold_colour _ _,
      offerHold_drive _ _⟩

/-- The rest of a frame whose temperature has FAULTED the station finds nothing more (R81, R175, R179). -/
theorem Faulted.restOfFrame {g : Figures} {code : Nat} {s t : State} (h : Faulted g code s t) (m : StationMode) (status : Slot)
    (enc : Int × Int) : Faulted g code s (driveChecks m status enc (homingCheck (onTargetTest enc (followEncoders enc t)))) := by
  have hne : t.station.mode ≠ .homing := by rw [h.mode]; decide
  obtain ⟨hrec, hcolour, hdrive⟩ := onTargetTest_recorded enc t
  have hmode : (onTargetTest enc t).station.mode = .faulted := (congrArg StationState.mode hrec.station).trans h.mode
  rw [followEncoders, if_neg hne, homingCheck, if_neg (fun k => absurd (hmode.symm.trans k.1) (by decide)),
    driveChecks_of_not_monitored (by rw [hmode]; rfl)]
  exact {
    h.toStill.congr (t := { onTargetTest enc t with drive :=
      { (onTargetTest enc t).drive with absentCount := 0, panRun := 0, tiltRun := 0 } })
      hrec.planner hcolour with
    mode := hmode
    faultCode := (congrArg StationState.faultCode hrec.station).trans h.faultCode
    asserted := (congrArg StationState.statusAsserted hrec.station).trans h.asserted
    shut := fun h7 => (congrArg ColourState.thermal hcolour).trans (h.shut h7)
    pan := (congrArg PlannerState.pan hrec.planner).trans h.pan
    tilt := (congrArg PlannerState.tilt hrec.planner).trans h.tilt
    calls := (congrArg StoreState.calls hrec.store).trans h.calls
    pool := (congrArg StoreState.poolFree hrec.store).trans h.pool
    request := (congrArg (fun p : PowerState => p.round.map Round.request) hrec.power).trans h.request
    purpose := (congrArg (fun p : PowerState => p.round.map Round.purpose) hrec.power).trans h.purpose
    solo := (congrArg PowerState.solo hrec.power).trans h.solo
    granted := (congrArg PowerState.granted hrec.power).trans h.granted
    axesOn := hrec.axesOn.trans h.axesOn
    absent := rfl
    panRun := rfl
    tiltRun := rfl
    homing := (congrArg DriveState.homing hdrive).trans h.homing
    clock := (congrArg ClockState.linkClock hrec.clock).trans h.clock
    pending := hrec.pending.trans h.pending }

/-- The temperature reaches the shutdown temperature: thermal SHUTDOWN, fault code 7 (R166, R177). -/
theorem handTemperature_shuts {s : State} {g : Figures} {tau : Int} (hg : s.station.figures = some g)
    (hnot : s.colour.thermal ≠ .shutdown) (h : 2 * (g.shutdown : Int) ≤ tau) :
    handTemperature tau s = enterFault 7 (takeTemperature tau s) ∧ (takeTemperature tau s).colour.thermal = .shutdown := by
  have hnext : thermalNext g.derate g.shutdown s.colour.thermal tau = .shutdown := by
    cases hst : s.colour.thermal with
    | shutdown => exact absurd hst hnot
    | normal => exact if_pos h
    | derated => exact if_pos h
  have hreports : reportsShutdown tau s = true := by
    unfold reportsShutdown
    rw [hg]
    exact Bool.and_eq_true_iff.2 ⟨bne_iff_ne.2 hnot, by rw [hnext]; rfl⟩
  refine ⟨if_pos hreports, ?_⟩
  unfold takeTemperature
  rw [hg]
  exact hnext

theorem takeTemperature_recorded (tau : Int) (s : State) : Recorded s (takeTemperature tau s) := by
  unfold takeTemperature
  split <;> exact {}

/-- An axis in its twentieth frame beyond the follow-error limit has a run of 20, one within it a run of 0 (R178). -/
theorem runNext_beyond {limit : Nat} {command enc : Int} (h : limit < (command - enc).natAbs) : runNext true limit command enc 19 = 20 := by
  unfold runNext
  rw [decide_eq_true h]
  rfl

theorem runNext_within {limit : Nat} {command enc : Int} (h : (command - enc).natAbs ≤ limit) (running : Bool) (run : Nat) :
    runNext running limit command enc run = 0 := by
  unfold runNext
  rw [decide_eq_false (Nat.not_lt.2 h), Bool.and_false]
  exact rfl

/-- The checks of an in-frame report the first fault they find (R177, R178). -/
theorem driveChecks_fault {s : State} {m : StationMode} {status : Slot} {enc : Int × Int} {code : Nat}
    (hm : s.station.mode.monitored = true)
    (h : firstFault status (runNext (s.monitorRuns m) s.fig.followErrorLimit s.drive.outFrame.pan enc.1 s.drive.panRun)
      (runNext (s.monitorRuns m) s.fig.followErrorLimit s.drive.outFrame.tilt enc.2 s.drive.tiltRun) = some code) :
    driveChecks m status enc s = enterFault code (driveCounted m status enc s) := by
  have hfirst : firstFault status (driveCounted m status enc s).drive.panRun (driveCounted m status enc s).drive.tiltRun = some code := h
  rw [driveChecks_of_monitored hm, hfirst]

/-- A frame of READY or ISOLATED at a temperature that moves no state, whose checks find a fault (R177, R178). -/
theorem presentFrame_faulted {s : State} {g : Figures} {status : Slot} {enc : Int × Int} {tau : Int} {code : Nat} (hquiet : Quiet s)
    (hstore : StoreInv s) (hg : s.station.figures = some g) (hmode : s.station.mode = .ready ∨ s.station.mode = .isolated)
    (hnormal : s.colour.thermal = .normal) (hcool : tau < 2 * g.derate) (hle : g.derate ≤ g.shutdown) (hcode : code ≠ 7)
    (h : firstFault status (runNext s.drive.outFrame.axisEnable g.followErrorLimit s.drive.outFrame.pan enc.1 s.drive.panRun)
      (runNext s.drive.outFrame.axisEnable g.followErrorLimit s.drive.outFrame.tilt enc.2 s.drive.tiltRun) = some code) :
    Faulted g code s (presentFrame status enc tau s) := by
  have hmon : s.station.mode.monitored = true := by rcases hmode with h | h <;> rw [h] <;> rfl
  have hfollows : s.station.mode.followsError = true := by rcases hmode with h | h <;> rw [h] <;> rfl
  have hne : s.station.mode ≠ .homing := by rcases hmode with h | h <;> rw [h] <;> decide
  have hwarm := handTemperature_cool (s := recordFrame status enc s) hg hnormal hcool hle
  obtain ⟨w, hw⟩ : ∃ w : State, w = { recordFrame status enc s with
      colour := { (recordFrame status enc s).colour with lastTemp := some tau } } := ⟨_, rfl⟩
  rw [← hw] at hwarm
  have hrecorded : Recorded s w := hw ▸ {}
  obtain ⟨htested, _, hdrive⟩ := onTargetTest_recorded enc w
  have hall := hrecorded.trans htested
  have hfig : (onTargetTest enc w).fig = g := fig_eq (by rw [hall.station]; exact hg)
  have hout : (onTargetTest enc w).drive.outFrame = s.drive.outFrame := (congrArg DriveState.outFrame hdrive).trans (hw ▸ rfl)
  have hpan : (onTargetTest enc w).drive.panRun = s.drive.panRun := (congrArg DriveState.panRun hdrive).trans (hw ▸ rfl)
  have htilt : (onTargetTest enc w).drive.tiltRun = s.drive.tiltRun := (congrArg DriveState.tiltRun hdrive).trans (hw ▸ rfl)
  rw [presentFrame_settled hwarm (by rw [hrecorded.station]; exact hne), driveChecks_fault (code := code)
    (by rw [hall.station]; exact hmon) (by rw [State.monitorRuns, hfollows, hfig, hout, hpan, htilt]; exact h)]
  exact enterFault_faulted hquiet hstore hg hmon (hall.trans {}) fun h7 => absurd h7 hcode

/-- Settles O47: whatever finds the fault, the entry to FAULTED is one. -/
theorem driveFaultsEnterFaulted : Obligations.DriveFaultsEnterFaulted := by
  intro s g c status pan tilt temp code hquiet hstore hg hfault
  have hin (hpresent : status.getLsbD 0 = true) (hmode : s.station.mode.monitored = true) :
      exec (.inFrame status pan tilt temp) s = .next (presentFrame status (pan.toInt, tilt.toInt) temp.toInt s) :=
    congrArg Host.Outcome.next ((if_neg (not_reset_of_monitored hmode)).trans (if_pos hpresent))
  have hentered : ∃ t : State, exec c s = .next t ∧ Faulted g code s t := by
    rcases hfault with ⟨rfl, habsent, hmode, hcount, rfl⟩ | ⟨rfl, hmode, hhoming, rfl⟩ | ⟨rfl, hpresent, hmode, hnot, hhot, rfl⟩
      | ⟨rfl, hpresent, hmode, hnormal, hcool, hle, hfound⟩
    · refine ⟨_, congrArg Host.Outcome.next ((if_neg (not_reset_of_monitored hmode)).trans
        ((if_neg (by rw [statusPresent, habsent]; decide)).trans ((if_pos hmode).trans (if_pos (by rw [hcount]; decide))))), ?_⟩
      exact enterFault_faulted hquiet hstore hg hmode {} (fun h7 => absurd h7 (by decide))
    · refine ⟨_, congrArg Host.Outcome.next (if_pos ⟨hmode, hhoming⟩), ?_⟩
      exact enterFault_faulted hquiet hstore hg (by rw [hmode]; rfl) {} (fun h7 => absurd h7 (by decide))
    · obtain ⟨hhand, hthermal⟩ := handTemperature_shuts (s := recordFrame status (pan.toInt, tilt.toInt) s) hg hnot hhot
      refine ⟨_, hin hpresent hmode, ?_⟩
      unfold presentFrame
      rw [hhand]
      exact (enterFault_faulted hquiet hstore hg hmode ((show Recorded s (recordFrame _ _ s) from {}).trans (takeTemperature_recorded _ _))
        fun _ => hthermal).restOfFrame _ _ _
    · have hmon : s.station.mode.monitored = true := by rcases hmode with h | h <;> rw [h] <;> rfl
      refine ⟨_, hin hpresent hmon, ?_⟩
      rcases hfound with ⟨hbits, rfl⟩ | ⟨h3, h4, h5, haxis, hruns⟩
      · have hany : statusAnyFault status = true := by
          unfold statusAnyFault
          rcases hbits with h | h | h <;> rw [h] <;> simp
        exact presentFrame_faulted hquiet hstore hg hmode hnormal hcool hle (by decide) (if_pos hany)
      · have hnone : statusAnyFault status = false := by rw [statusAnyFault, h3, h4, h5]; rfl
        rcases hruns with ⟨hrun, hfar, rfl⟩ | ⟨hnear, hrun, hfar, rfl⟩
        · refine presentFrame_faulted hquiet hstore hg hmode hnormal hcool hle (by decide) ?_
          rw [haxis, hrun, runNext_beyond hfar, firstFault, hnone]
          exact rfl
        · refine presentFrame_faulted hquiet hstore hg hmode hnormal hcool hle (by decide) ?_
          rw [haxis, hrun, runNext_within hnear, runNext_beyond hfar, firstFault, hnone]
          exact rfl
  obtain ⟨t, hexec, h⟩ := hentered
  refine ⟨t, hexec, h.mode, h.faultCode, h.asserted, h.levels, h.fade, h.shut, h.motion, h.pan, h.tilt, h.calls, h.pool, h.request,
    h.purpose, h.solo, h.granted.trans ?_, h.axesOn, h.absent, h.panRun, h.tiltRun, h.homing, h.clock, h.pending⟩
  cases s.power.solo <;> exact rfl

end Sys2Proof.Machine
end


section
/-! SUPPORT. The equations of a holder list with the own station in it, and the settled obligation about the own role. -/

namespace Sys2Proof.Machine

/-! ### One entry of a station, one RELIEVED entry (R144) -/

theorem HolderListOk.eq_of_station {l : List Holder} (h : HolderListOk l) {x y : Holder} (hx : x ∈ l) (hy : y ∈ l)
    (he : x.station = y.station) : x = y := by
  obtain ⟨-, hdistinct, -⟩ := (holderListOk_iff l).1 h
  exact List.inj_on_of_nodup_map hdistinct hx hy he

theorem HolderListOk.eq_of_relieved {l : List Holder} (h : HolderListOk l) {x y : Holder} (hx : x ∈ l) (hy : y ∈ l)
    (hxr : x.isHolder = false) (hyr : y.isHolder = false) : x = y := by
  obtain ⟨-, -, hone⟩ := h
  have hin {z : Holder} (hz : z ∈ l) (hzr : z.isHolder = false) : z ∈ l.filter (fun h => !h.isHolder) :=
    List.mem_filter.2 ⟨hz, by rw [hzr]; rfl⟩
  obtain ⟨a, ha⟩ := List.length_eq_one_iff.1 (le_antisymm hone (List.length_pos_of_mem (hin hx hxr)))
  exact (List.mem_singleton.1 (ha ▸ hin hx hxr)).trans (List.mem_singleton.1 (ha ▸ hin hy hyr)).symm

theorem isHolder_of_state {h : Holder} (hs : h.state = .holder) : h.isHolder = true := by rw [Holder.isHolder, hs]

theorem not_isHolder_of_state {h : Holder} {st : Byte} {d : Word32} (hs : h.state = .relieved st d) : h.isHolder = false := by
  rw [Holder.isHolder, hs]

theorem relievedBy_of_state {h : Holder} {st : Byte} {d : Word32} (hs : h.state = .relieved st d) : h.relievedBy st = true := by
  rw [Holder.relievedBy, hs]
  exact beq_self_eq_true st

/-- The one RELIEVED entry is the one that its taker relieved. -/
theorem HolderListOk.relievedBy_iff {l : List Holder} (h : HolderListOk l) {o : Holder} {st : Byte} {d : Word32} (ho : o ∈ l)
    (hs : o.state = .relieved st d) {x : Holder} (hx : x ∈ l) : x.relievedBy st = true ↔ x = o := by
  refine ⟨fun hr => h.eq_of_relieved hx ho ?_ (not_isHolder_of_state hs), fun he => he ▸ relievedBy_of_state hs⟩
  cases hxs : x.state with
  | holder => rw [Holder.relievedBy, hxs] at hr; cases hr
  | relieved k d => exact not_isHolder_of_state hxs

theorem HolderListOk.find?_station {l : List Holder} (h : HolderListOk l) {o : Holder} (ho : o ∈ l) :
    l.find? (fun x => x.station == o.station) = some o := by
  cases hf : l.find? (fun x => x.station == o.station) with
  | none => exact absurd (List.find?_eq_none.1 hf o ho) (by simp)
  | some x => rw [h.eq_of_station (List.mem_of_find?_eq_some hf) ho (by simpa using List.find?_some hf)]

/-- The own entry of a list that holds one of the own station (R144). -/
theorem HolderListOk.ownEntryIn {l : List Holder} (h : HolderListOk l) {o : Holder} (ho : o ∈ l) :
    Machine.ownEntryIn o.station l = if o.isHolder then .holder else .relieved := by
  rw [Machine.ownEntryIn, h.find?_station ho]

/-- A station that leaves the list, and the return of the entry it relieved (R147, R148). -/
theorem HolderListOk.removeHolder_eq {l : List Holder} (h : HolderListOk l) {k o : Holder} {st : Byte} {d : Word32} (now : Word32)
    (hk : k ∈ l) (hst : k.station = st) (ho : o ∈ l) (hs : o.state = .relieved st d) :
    removeHolder now st l = (l.filter (fun x => x.station != st)).map
      (fun x => if x = o then { o with state := .holder, lastStated := now } else x) := by
  rw [removeHolder, if_pos (List.any_eq_true.2 ⟨k, hk, by rw [hst]; exact beq_self_eq_true st⟩)]
  refine List.map_congr_left fun x hx => ?_
  have hiff := h.relievedBy_iff ho hs (List.mem_filter.1 hx).1
  by_cases hxo : x = o
  · rw [if_pos (hiff.2 hxo), if_pos hxo, hxo]
  · rw [if_neg fun hr => hxo (hiff.1 hr), if_neg hxo]

theorem HolderListOk.filter_station {l : List Holder} (h : HolderListOk l) {o : Holder} (ho : o ∈ l) :
    l.filter (fun x => x.station != o.station) = l.filter (fun x => x != o) := by
  refine List.filter_congr fun x hx => ?_
  by_cases hxo : x = o
  · rw [hxo]
    exact (bne_self_eq_false _).trans (bne_self_eq_false _).symm
  · have hne : x.station ≠ o.station := fun he => hxo (h.eq_of_station hx ho he)
    exact (bne_iff_ne.2 hne).trans (bne_iff_ne.2 hxo).symm

theorem HolderListOk.station_iff {l : List Holder} (h : HolderListOk l) {x o : Holder} (hx : x ∈ l) (ho : o ∈ l) :
    (x.station == o.station) = true ↔ x = o :=
  ⟨fun he => h.eq_of_station hx ho (beq_iff_eq.1 he), fun he => beq_iff_eq.2 (congrArg Holder.station he)⟩

/-- The weakest holder is RELIEVED, and the sender of the TAKE is in the list (R145). -/
theorem applyTake_relieving {l : List Holder} (h : HolderListOk l) {w : Holder} (hw : w ∈ l) (now : Word32) (st : Byte)
    (q : Nat) : applyTake now st q (.relieving w.station) l =
      l.map (fun x => if x = w then { w with state := .relieved st (now + 1000) } else x) ++ [⟨st, q, .holder, now⟩] := by
  refine congrArg (· ++ [(⟨st, q, .holder, now⟩ : Holder)]) (List.map_congr_left fun x hx => ?_)
  have hiff := h.station_iff hx hw
  by_cases hxw : x = w
  · rw [if_pos (hiff.2 hxw), if_pos hxw, hxw]
    exact rfl
  · rw [if_neg fun he => hxw (hiff.1 he), if_neg hxw]

/-- The on-target HOLD of a HOLDER states its quality and removes the entry that it relieved (R146). -/
theorem applyHold_completes {l : List Holder} (h : HolderListOk l) {o k : Holder} {d : Word32} (now : Word32) (q : Nat)
    (ho : o ∈ l) (hs : o.state = .relieved k.station d) (hk : k ∈ l) (hks : k.state = .holder) :
    completesRelief k.station true (statedHold now k.station q l) = true
      ∧ applyHold now k.station q true l =
        (l.filter (fun x => x != o)).map (fun x => if x = k then { k with q := q, lastStated := now } else x) := by
  have hkh := isHolder_of_state hks
  have hko : k ≠ o := fun he => by rw [he, hs] at hks; cases hks
  have hstated : statedHold now k.station q l = l.map (fun x => if x = k then { k with q := q, lastStated := now } else x) := by
    rw [statedHold, if_pos (List.any_eq_true.2 ⟨k, hk, (h.station_iff hk hk).2 rfl⟩)]
    refine List.map_congr_left fun x hx => ?_
    have hiff := h.station_iff hx hk
    by_cases hxk : x = k
    · rw [if_pos (hiff.2 hxk), if_pos hxk, hxk, hkh]
      exact rfl
    · rw [if_neg fun he => hxk (hiff.1 he), if_neg hxk]
  have hcompletes : completesRelief k.station true (statedHold now k.station q l) = true := by
    rw [hstated, completesRelief, Bool.and_eq_true, Bool.and_eq_true]
    refine ⟨⟨rfl, List.any_eq_true.2 ⟨_, List.mem_map.2 ⟨k, hk, if_pos rfl⟩, ?_⟩⟩,
      List.any_eq_true.2 ⟨o, List.mem_map.2 ⟨o, ho, if_neg hko.symm⟩, relievedBy_of_state hs⟩⟩
    exact Bool.and_eq_true_iff.2 ⟨beq_self_eq_true _, hkh⟩
  refine ⟨hcompletes, ?_⟩
  rw [applyHold, if_pos hcompletes, hstated, List.filter_map]
  refine congrArg (List.map _) (List.filter_congr fun x hx => ?_)
  have hiff := h.relievedBy_iff ho hs hx
  by_cases hxk : x = k
  · rw [Function.comp_apply, if_pos hxk, hxk, bne_iff_ne.2 hko]
    exact congrArg not (Bool.eq_false_iff.2 fun hr => hko ((h.relievedBy_iff ho hs hk).1 hr))
  · rw [Function.comp_apply, if_neg hxk]
    by_cases hxo : x = o
    · rw [hiff.2 hxo, hxo]
      exact (bne_self_eq_false _).symm
    · rw [Bool.eq_false_iff.2 fun hr => hxo (hiff.1 hr)]
      exact (bne_iff_ne.2 hxo).symm

/-! ### The moves of the own role (R149, R150, R151, R152) -/

/-- No TAKE follows for the target at once: the quality is 0, the holdoff runs, or it is not TRACKED. -/
def NoTake (s : State) (target : Nat) : Prop :=
  s.cover.ownQ = 0 ∨ (∃ h, s.cover.holdoff = some h ∧ (s.clock.tickCount - h).toNat < 200)
    ∨ (s.cover.tracks[target]?).map TrackRecord.state ≠ some .tracked

theorem takeTest_of_noTake {s : State} {r : Role} (hrole : s.cover.role = some r) (h : NoTake s r.target) : takeTest s = s := by
  unfold takeTest
  rw [hrole]
  refine if_neg ?_
  simp only [Bool.and_eq_true, decide_eq_true_eq, beq_iff_eq]
  rintro ⟨⟨⟨⟨-, htracked⟩, hq⟩, hover⟩, -⟩
  rcases h with hzero | ⟨k, hk, hruns⟩ | hnot
  · exact absurd hzero hq.ne'
  · rw [State.holdoffOver, hk] at hover
    exact absurd (of_decide_eq_true hover) (Nat.not_le.2 hruns)
  · rw [State.trackState, List.getD_eq_getElem?_getD] at htracked
    cases ht : s.cover.tracks[r.target]? with
    | none => rw [ht] at htracked; cases htracked
    | some t => rw [ht] at htracked hnot; exact hnot (congrArg some htracked)

theorem takeTest_of_phase {s : State} {r : Role} (hrole : s.cover.role = some r) (h : r.phase ≠ .candidate) : takeTest s = s := by
  unfold takeTest
  rw [hrole]
  exact if_neg (by simp [h])

theorem selfYield_of_phase {s : State} {r : Role} (hrole : s.cover.role = some r) (h : r.phase ≠ .holder) : selfYield s = s := by
  unfold selfYield
  rw [hrole]
  exact if_neg (by simp [h])

theorem coverTests_of_relieved {s : State} {r : Role} (hrole : s.cover.role = some r) (h : r.phase = .relieved) : coverTests s = s := by
  rw [coverTests, selfYield_of_phase hrole (by rw [h]; decide), takeTest_of_phase hrole (by rw [h]; decide)]

theorem coverTests_of_candidate {s : State} {r : Role} (hrole : s.cover.role = some r) (h : r.phase = .candidate)
    (hno : NoTake s r.target) : coverTests s = s := by
  rw [coverTests, selfYield_of_phase hrole (by rw [h]; decide), takeTest_of_noTake hrole hno]

/-- The role is CANDIDATE again, the head dark (R151, R152). -/
theorem becomeCandidate_eq {s : State} {r : Role} (hrole : s.cover.role = some r) :
    becomeCandidate s =
      { s with
        cover := { s.cover with role := some { r with phase := .candidate }, restate := none, onTarget := false }
        colour := { s.colour with levels := darkLevels, fade := none } } := by
  unfold becomeCandidate setPhase
  rw [show (dark s).cover.role = some r from hrole]
  exact rfl

theorem offerYield_room {t c : Nat} {s : State}
    (h : HasRoom (.cover ⟨BitVec.ofNat 8 t, 2, BitVec.ofNat 16 s.cover.ownQ, BitVec.ofNat 8 c, 0⟩) s.link.queue) :
    offerYield t c s = { s with link := { s.link with
      queue := queued (.cover ⟨BitVec.ofNat 8 t, 2, BitVec.ofNat 16 s.cover.ownQ, BitVec.ofNat 8 c, 0⟩) s.link.queue } } :=
  offer_room h

theorem holders_setHolders {s : State} {t : Nat} (h : t < s.cover.lists.length) (l : List Holder) : (setHolders t l s).holders t = l := by
  unfold State.holders setHolders
  rw [List.getD_eq_getElem?_getD]
  exact congrArg (fun o : Option (List Holder) => o.getD []) (List.getElem?_set_self h)

/-- The own entry of the role's list, once that list is `l`. -/
theorem ownEntry_setHolders {s : State} {r : Role} (hrole : s.cover.role = some r) (h : r.target < s.cover.lists.length)
    (l : List Holder) : (setHolders r.target l s).ownEntry = ownEntryIn s.station.ownStation l := by
  unfold State.ownEntry
  rw [show (setHolders r.target l s).cover.role = some r from hrole]
  exact congrArg (ownEntryIn s.station.ownStation) (holders_setHolders h l)

/-- A change of the list of the role's target (R149 to R152). -/
theorem changeHolders_own {s : State} {r : Role} {l l' : List Holder} (hrole : s.cover.role = some r) (hg : r.phase.granted = true)
    (hl : s.cover.lists[r.target]? = some l) (hne : l' ≠ l) :
    changeHolders r.target l' s
      = coverTests (ownReact (ownEntryIn s.station.ownStation l) (setHolders r.target l' s)) := by
  have hon : s.roleOn r.target = true := by
    unfold State.roleOn
    rw [hrole]
    exact Bool.and_eq_true_iff.2 ⟨beq_self_eq_true _, hg⟩
  have hown : s.ownEntry = ownEntryIn s.station.ownStation l := by
    unfold State.ownEntry
    rw [hrole]
    exact congrArg (ownEntryIn s.station.ownStation) (holders_eq hl)
  unfold changeHolders
  rw [if_pos hon, hown, holders_eq hl]
  exact if_neg (by simpa using hne)

theorem ownReact_eq {s : State} {r : Role} (hrole : s.cover.role = some r) (hg : r.phase.granted = true) {a : OwnEntry}
    (ha : s.ownEntry = a) :
    (a = .relieved → ownReact .holder s = { setPhase .relieved s with cover.restate := none })
      ∧ (a = .holder → ownReact .relieved s = offerHold r (setPhase .holder s))
      ∧ (a = .absent → ownReact .relieved s = offerYield r.target r.count (becomeCandidate s)
          ∧ ownReact .holder s = becomeCandidate s)
      ∧ (a = .holder → ownReact .holder s = s) := by
  unfold ownReact
  rw [hrole]
  dsimp only
  rw [hg, ha]
  refine ⟨?_, ?_, ?_, ?_⟩ <;> rintro rfl
  · exact rfl
  · exact rfl
  · exact ⟨rfl, rfl⟩
  · exact rfl

theorem setPhase_eq {s : State} {r : Role} (hrole : s.cover.role = some r) (p : RolePhase) :
    setPhase p s = { s with cover := { s.cover with role := some { r with phase := p } } } := by
  unfold setPhase
  rw [hrole]

/-- Another station's COVER for the role's target (R145, R146, R147). -/
theorem applyCover_own {s : State} {st : Byte} {f : CoverFields} {r : Role} {l : List Holder}
    (hm : s.station.mode.appliesCover = true) (ht : r.target = f.target.toNat) (hl : s.cover.lists[r.target]? = some l) :
    applyCover false st f s =
      changeHolders r.target (applyAction s.clock.tickCount st f (takeResult l st f.q.toNat f.count.toNat s.fig.handoffMargin) l)
        { s with cover := { s.cover with
          counters := countCover false f (takeResult l st f.q.toNat f.count.toNat s.fig.handoffMargin) (holdFull l st)
            (completesRelief st f.onTarget (statedHold s.clock.tickCount st f.q.toNat l)) s.cover.counters } } := by
  rw [ht] at hl ⊢
  unfold applyCover
  rw [if_neg (by simp [hm]), if_neg (by simp), holders_eq hl]

/-! ### What a change of the list makes of the own role -/

section
variable {s : State} {r : Role} {l l' : List Holder} {own : Byte} (hrole : s.cover.role = some r)
  (hl : s.cover.lists[r.target]? = some l) (hne : l' ≠ l) (hown : own = s.station.ownStation)
include hrole hl hne hown

/-- A HOLDER whose entry is relieved stays lit (R149). -/
theorem changeHolders_relieves (hp : r.phase = .holder) (hb : ownEntryIn own l = .holder)
    (ha : ownEntryIn own l' = .relieved) :
    changeHolders r.target l' s = { s with cover := { s.cover with
      role := some { r with phase := .relieved }, lists := s.cover.lists.set r.target l', restate := none } } := by
  subst hown
  have hg : r.phase.granted = true := by rw [hp]; rfl
  have hentry := (ownEntry_setHolders hrole (List.getElem?_eq_some_iff.1 hl).1 l').trans ha
  rw [changeHolders_own hrole hg hl hne, hb, (ownReact_eq (s := setHolders r.target l' s) hrole hg hentry).1 rfl,
    setPhase_eq (s := setHolders r.target l' s) hrole]
  exact coverTests_of_relieved rfl rfl

/-- A RELIEVED role whose entry is HOLDER again offers a HOLD (R149). -/
theorem changeHolders_returns (hp : r.phase = .relieved) (hb : ownEntryIn own l = .relieved)
    (ha : ownEntryIn own l' = .holder) (hq : 0 < s.cover.ownQ) (hfew : (l'.filter Holder.isHolder).length ≤ r.count)
    (hroom : HasRoom (.cover ⟨BitVec.ofNat 8 r.target, 1, BitVec.ofNat 16 s.cover.ownQ, BitVec.ofNat 8 r.count,
      if s.cover.onTarget then 1 else 0⟩) s.link.queue) :
    changeHolders r.target l' s =
      { s with
        cover := { s.cover with
          role := some { r with phase := .holder }, lists := s.cover.lists.set r.target l', restate := some 200 }
        link := { s.link with queue := queued (.cover ⟨BitVec.ofNat 8 r.target, 1, BitVec.ofNat 16 s.cover.ownQ,
          BitVec.ofNat 8 r.count, if s.cover.onTarget then 1 else 0⟩) s.link.queue } } := by
  subst hown
  have hg : r.phase.granted = true := by rw [hp]; rfl
  have hlt := (List.getElem?_eq_some_iff.1 hl).1
  have hentry := (ownEntry_setHolders hrole hlt l').trans ha
  rw [changeHolders_own hrole hg hl hne, hb, (ownReact_eq (s := setHolders r.target l' s) hrole hg hentry).2.1 rfl,
    setPhase_eq (s := setHolders r.target l' s) hrole, offerHold_room (by exact hroom)]
  have hranks := (congrArg (ranksBelow s.station.ownStation r.count) (holders_setHolders hlt l')).trans (ranksBelow_of_le hfew)
  exact coverTests_of_holder (r := { r with phase := .holder }) rfl rfl hq hranks

/-- A HOLDER whose entry has gone is CANDIDATE and dark (R151). -/
theorem changeHolders_loses (hp : r.phase = .holder) (hb : ownEntryIn own l = .holder)
    (ha : ownEntryIn own l' = .absent) (hno : NoTake s r.target) :
    changeHolders r.target l' s =
      { s with
        cover := { s.cover with
          role := some { r with phase := .candidate }, lists := s.cover.lists.set r.target l', restate := none, onTarget := false }
        colour := { s.colour with levels := darkLevels, fade := none } } := by
  subst hown
  have hg : r.phase.granted = true := by rw [hp]; rfl
  have hentry := (ownEntry_setHolders hrole (List.getElem?_eq_some_iff.1 hl).1 l').trans ha
  obtain ⟨-, -, hgone, -⟩ := ownReact_eq (s := setHolders r.target l' s) hrole hg hentry
  rw [changeHolders_own hrole hg hl hne, hb, (hgone rfl).2, becomeCandidate_eq (s := setHolders r.target l' s) hrole]
  exact coverTests_of_candidate (r := { r with phase := .candidate }) rfl rfl hno

/-- A RELIEVED role whose entry has gone is CANDIDATE and dark, and offers a YIELD (R151). -/
theorem changeHolders_yields (hp : r.phase = .relieved) (hb : ownEntryIn own l = .relieved)
    (ha : ownEntryIn own l' = .absent) (hno : NoTake s r.target)
    (hroom : HasRoom (.cover ⟨BitVec.ofNat 8 r.target, 2, BitVec.ofNat 16 s.cover.ownQ, BitVec.ofNat 8 r.count, 0⟩) s.link.queue) :
    changeHolders r.target l' s =
      { s with
        cover := { s.cover with
          role := some { r with phase := .candidate }, lists := s.cover.lists.set r.target l', restate := none, onTarget := false }
        colour := { s.colour with levels := darkLevels, fade := none }
        link := { s.link with queue := queued (.cover ⟨BitVec.ofNat 8 r.target, 2, BitVec.ofNat 16 s.cover.ownQ,
          BitVec.ofNat 8 r.count, 0⟩) s.link.queue } } := by
  subst hown
  have hg : r.phase.granted = true := by rw [hp]; rfl
  have hentry := (ownEntry_setHolders hrole (List.getElem?_eq_some_iff.1 hl).1 l').trans ha
  obtain ⟨-, -, hgone, -⟩ := ownReact_eq (s := setHolders r.target l' s) hrole hg hentry
  rw [changeHolders_own hrole hg hl hne, hb, (hgone rfl).1, becomeCandidate_eq (s := setHolders r.target l' s) hrole,
    offerYield_room (by exact hroom)]
  exact coverTests_of_candidate (r := { r with phase := .candidate }) rfl rfl hno

/-- A HOLDER of quality 0, or that ranks too low, yields of its own accord (R152). -/
theorem changeHolders_selfYields (hp : r.phase = .holder) (hb : ownEntryIn own l = .holder)
    (ha : ownEntryIn own l' = .holder)
    (hlow : s.cover.ownQ = 0 ∨ ranksBelow own r.count l' = true) (hno : NoTake s r.target)
    (hroom : HasRoom (.cover ⟨BitVec.ofNat 8 r.target, 2, BitVec.ofNat 16 s.cover.ownQ, BitVec.ofNat 8 r.count, 0⟩) s.link.queue) :
    changeHolders r.target l' s =
      { s with
        cover := { s.cover with
          role := some { r with phase := .candidate }
          lists := s.cover.lists.set r.target (removeHolder s.clock.tickCount s.station.ownStation l')
          restate := none
          onTarget := false
          counters := { s.cover.counters with selfYields := satInc s.cover.counters.selfYields } }
        colour := { s.colour with levels := darkLevels, fade := none }
        link := { s.link with queue := queued (.cover ⟨BitVec.ofNat 8 r.target, 2, BitVec.ofNat 16 s.cover.ownQ,
          BitVec.ofNat 8 r.count, 0⟩) s.link.queue } } := by
  subst hown
  have hg : r.phase.granted = true := by rw [hp]; rfl
  have hlt := (List.getElem?_eq_some_iff.1 hl).1
  have hentry := (ownEntry_setHolders hrole hlt l').trans ha
  have hheld := holders_setHolders hlt l'
  obtain ⟨-, -, -, hstays⟩ := ownReact_eq (s := setHolders r.target l' s) hrole hg hentry
  have hyields : (r.phase == .holder && (s.cover.ownQ == 0 || ranksBelow s.station.ownStation r.count l')) = true := by
    rw [hp]
    rcases hlow with h | h <;> rw [h]
    · exact rfl
    · exact Bool.or_true _
  rw [changeHolders_own hrole hg hl hne, hb, hstays rfl, coverTests]
  unfold selfYield
  rw [show (setHolders r.target l' s).cover.role = some r from hrole]
  dsimp only
  rw [hheld]
  refine (congrArg takeTest (if_pos hyields)).trans ?_
  rw [becomeCandidate_eq (s := setHolders r.target _ (setHolders r.target l' s)) hrole, offerYield_room (by exact hroom)]
  refine (takeTest_of_noTake (r := { r with phase := .candidate }) rfl (by exact hno)).trans ?_
  unfold setHolders
  dsimp only
  rw [List.set_set]

end

/-! ### The events of the own role -/

/-- Another station's COVER for the role's target, its change told to no one (R144). -/
theorem cover_own {s u : State} {st : Byte} {f : CoverFields} {r : Role} {l l' : List Holder} {k : CoverCounters}
    (h : Arrives ⟨st, .cover f⟩ s) (hm : s.station.mode.appliesCover = true) (ht : r.target = f.target.toNat)
    (hl : s.cover.lists[r.target]? = some l)
    (hlist : applyAction s.clock.tickCount st f (takeResult l st f.q.toNat f.count.toNat s.fig.handoffMargin) l = l')
    (hcount : countCover false f (takeResult l st f.q.toNat f.count.toNat s.fig.handoffMargin) (holdFull l st)
      (completesRelief st f.onTarget (statedHold s.clock.tickCount st f.q.toNat l)) s.cover.counters = k)
    (hchange : changeHolders r.target l' { arrived ⟨st, .cover f⟩ s with cover := { s.cover with counters := k } } = u)
    (hquiet : Quiet u) : exec (.cover st f) s = .next u := by
  have happly := applyCover_own (s := arrived ⟨st, .cover f⟩ s) (st := st) (f := f) hm ht hl
  rw [cover_of_arrives h, happly]
  subst hlist hcount
  exact congrArg Host.Outcome.next ((congrArg conclude hchange).trans (conclude_of_quiet hquiet))

theorem applyAction_take {f : CoverFields} (h : f.action = 0) (now : Word32) (st : Byte) (r : TakeResult) (l : List Holder) :
    applyAction now st f r l = applyTake now st f.q.toNat r l := by rw [applyAction, h]; rfl

theorem applyAction_hold {f : CoverFields} (h : f.action = 1) (now : Word32) (st : Byte) (r : TakeResult) (l : List Holder) :
    applyAction now st f r l = applyHold now st f.q.toNat f.onTarget l := by rw [applyAction, h]; rfl

theorem applyAction_yield {f : CoverFields} (h : f.action = 2) (now : Word32) (st : Byte) (r : TakeResult) (l : List Holder) :
    applyAction now st f r l = removeHolder now st l := by rw [applyAction, h]; rfl

theorem countCover_yield {f : CoverFields} (h : f.action = 2) (own full relief : Bool) (r : TakeResult) (k : CoverCounters) :
    countCover own f r full relief k = k := by
  simp [countCover, h, satIf]

/-- TAKE_HOLDOFF_END for a candidate whose TAKE would pass: the TAKE joins the queue (R149). -/
theorem takeTest_takes {s : State} {r : Role} {l : List Holder} (hrole : s.cover.role = some r) (hp : r.phase = .candidate)
    (hover : s.holdoffOver = true) (ht : (s.cover.tracks[r.target]?).map TrackRecord.state = some .tracked) (hq : 0 < s.cover.ownQ)
    (hl : s.cover.lists[r.target]? = some l) (hnew : ∀ x ∈ l, x.station ≠ s.station.ownStation)
    (hfew : (l.filter Holder.isHolder).length < r.count)
    (hroom : HasRoom (.cover ⟨BitVec.ofNat 8 r.target, 0, BitVec.ofNat 16 s.cover.ownQ, BitVec.ofNat 8 r.count, 0⟩) s.link.queue) :
    takeTest s =
      { s with
        cover := { s.cover with
          holdoff := some s.clock.tickCount
          counters := { s.cover.counters with takesMade := satInc s.cover.counters.takesMade } }
        link := { s.link with queue := queued (.cover ⟨BitVec.ofNat 8 r.target, 0, BitVec.ofNat 16 s.cover.ownQ,
          BitVec.ofNat 8 r.count, 0⟩) s.link.queue } } := by
  have htracked : s.trackState r.target = .tracked := by
    obtain ⟨k, hk, hstate⟩ := Option.map_eq_some_iff.1 ht
    rw [State.trackState, List.getD_eq_getElem?_getD, hk]
    exact hstate
  have hpass : s.takeWouldPass r = true := by
    rw [State.takeWouldPass, holders_eq hl, takeResult_added hnew hfew]
    rfl
  unfold takeTest
  rw [hrole]
  refine (if_pos ?_).trans (offer_room (s := { s with cover := _ }) hroom)
  rw [hp, htracked, decide_eq_true hq, hover, hpass]
  rfl

/-- IN_FRAME at a HOLDER not yet on target (R150). -/
theorem onTargetTest_holder {s : State} {g : Figures} {r : Role} {endPan endTilt : Int} (hg : s.station.figures = some g)
    (hrole : s.cover.role = some r) (hp : r.phase = .holder) (hoff : s.cover.onTarget = false)
    (hend : s.cover.followEnd = some (endPan, endTilt)) (enc : Int × Int)
    (hroom : HasRoom (.cover ⟨BitVec.ofNat 8 r.target, 1, BitVec.ofNat 16 s.cover.ownQ, BitVec.ofNat 8 r.count, 1⟩) s.link.queue) :
    onTargetTest enc s =
      if (enc.1 - endPan).natAbs ≤ g.followErrorLimit ∧ (enc.2 - endTilt).natAbs ≤ g.followErrorLimit then
        { s with
          cover := { s.cover with onTarget := true, restate := some 200 }
          link := { s.link with queue := queued (.cover ⟨BitVec.ofNat 8 r.target, 1, BitVec.ofNat 16 s.cover.ownQ,
            BitVec.ofNat 8 r.count, 1⟩) s.link.queue } }
      else s := by
  unfold onTargetTest
  rw [hrole, hend]
  dsimp only
  rw [hp, hoff, fig_eq hg, offerHold_room (s := { s with cover := { s.cover with onTarget := true } }) hroom]
  by_cases hnear : (enc.1 - endPan).natAbs ≤ g.followErrorLimit ∧ (enc.2 - endTilt).natAbs ≤ g.followErrorLimit
  · rw [if_pos hnear]
    exact if_pos (Bool.and_eq_true_iff.2 ⟨decide_eq_true hnear.1, decide_eq_true hnear.2⟩)
  · rw [if_neg hnear]
    exact if_neg fun h => hnear ⟨of_decide_eq_true (Bool.and_eq_true_iff.1 h).1, of_decide_eq_true (Bool.and_eq_true_iff.1 h).2⟩

/-- The own entry that a TAKE relieves is RELIEVED (R145). -/
theorem ownEntryIn_relieving {l : List Holder} (h : HolderListOk l) {w : Holder} (hw : w ∈ l) (st : Byte) (d : Word32) (x : Holder) :
    ownEntryIn w.station (l.map (fun y => if y = w then { w with state := .relieved st d } else y) ++ [x]) = .relieved := by
  have hsame : ((fun y : Holder => y.station == w.station) ∘ fun y => if y = w then { w with state := .relieved st d } else y)
      = fun y => y.station == w.station := by
    funext y
    rw [Function.comp_apply]
    split
    next hy => rw [hy]
    · rfl
  rw [ownEntryIn, List.find?_append, List.find?_map, hsame, h.find?_station hw, Option.map_some, if_pos rfl]
  exact rfl

/-- The own entry whose taker has left is HOLDER again (R147). -/
theorem ownEntryIn_returned {l : List Holder} (h : HolderListOk l) {o k : Holder} {st : Byte} {d : Word32} (now : Word32)
    (ho : o ∈ l) (hs : o.state = .relieved st d) (hk : k ∈ l) (hst : k.station = st) (hne : o.station ≠ st) :
    ownEntryIn o.station (removeHolder now st l) = .holder ∧ (removeHolder now st l).length < l.length := by
  have heq := h.removeHolder_eq now hk hst ho hs
  have hin : { o with state := .holder, lastStated := now } ∈ removeHolder now st l := by
    rw [heq]
    exact List.mem_map.2 ⟨o, List.mem_filter.2 ⟨ho, bne_iff_ne.2 hne⟩, if_pos rfl⟩
  refine ⟨(h.remove now st).ownEntryIn hin, ?_⟩
  rw [heq, List.length_map]
  exact List.length_filter_lt_length_iff_exists.2 ⟨k, hk, by simp [hst]⟩

/-- The own entry leaves with the relief that another station completes (R146). -/
theorem completed_station {l : List Holder} (h : HolderListOk l) {o k : Holder} {q : Nat} {now : Word32} (ho : o ∈ l)
    (hne : k.station ≠ o.station) :
    ∀ x ∈ (l.filter (fun x => x != o)).map (fun x => if x = k then { k with q := q, lastStated := now } else x),
      x.station ≠ o.station := by
  intro x hx
  obtain ⟨y, hy, rfl⟩ := List.mem_map.1 hx
  obtain ⟨hyl, hyo⟩ := List.mem_filter.1 hy
  split
  · exact hne
  · exact fun he => bne_iff_ne.1 hyo (h.eq_of_station hyl ho he)

/-- The list that a HOLD of a station not listed makes, with room and nothing relieved by its sender (R146). -/
theorem applyHold_added {l : List Holder} {now : Word32} {st : Byte} {q : Nat} {onTarget : Bool}
    (h : ∀ x ∈ l, x.station ≠ st ∧ x.relievedBy st = false) (hlen : l.length < 5) :
    completesRelief st onTarget (statedHold now st q l) = false ∧ applyHold now st q onTarget l = l ++ [⟨st, q, .holder, now⟩] := by
  have hstated : statedHold now st q l = l ++ [⟨st, q, .holder, now⟩] := by
    rw [statedHold, any_station_eq_false fun x hx => (h x hx).1, if_neg Bool.false_ne_true]
    exact if_pos hlen
  have hnone : (statedHold now st q l).any (Holder.relievedBy st) = false := by
    rw [hstated, List.any_append, any_relievedBy_eq_false fun x hx => (h x hx).2]
    exact rfl
  obtain ⟨hcompletes, hhold⟩ := applyHold_of_none (onTarget := onTarget) hnone
  exact ⟨hcompletes, hhold.trans hstated⟩

/-- A station leaves a list in which it relieves no entry (R147). -/
theorem removeHolder_unrelieved {l : List Holder} (h : HolderListOk l) {o : Holder} (now : Word32) (ho : o ∈ l)
    (hnone : ∀ x ∈ l, x.relievedBy o.station = false) : removeHolder now o.station l = l.filter (fun x => x != o) := by
  rw [removeHolder, if_pos (List.any_eq_true.2 ⟨o, ho, (h.station_iff ho ho).2 rfl⟩), h.filter_station ho]
  refine (List.map_congr_left fun x hx => ?_).trans (List.map_id _)
  rw [hnone x (List.mem_filter.1 hx).1, if_neg Bool.false_ne_true]
  exact rfl

theorem ranksBelow_listed {l : List Holder} (h : HolderListOk l) {o : Holder} (ho : o ∈ l) {count : Nat}
    (hmore : count < (l.filter Holder.isHolder).length)
    (habove : count ≤ ((l.filter Holder.isHolder).filter (fun x => x.above o)).length) : ranksBelow o.station count l = true := by
  rw [ranksBelow, h.find?_station ho]
  exact Bool.and_eq_true_iff.2 ⟨decide_eq_true hmore, decide_eq_true habove⟩

/-- A frame of READY or ISOLATED that finds no fault: its words and temperature, the on-target test, and the two runs. -/
theorem presentFrame_tests {s u : State} {g : Figures} {status : Slot} {enc : Int × Int} {tau : Int}
    (hmode : s.station.mode = .ready ∨ s.station.mode = .isolated) (hg : s.station.figures = some g)
    (hstatus : statusAnyFault status = false)
    (hnormal : s.colour.thermal = .normal) (hcool : tau < 2 * g.derate) (hle : g.derate ≤ g.shutdown) (hp : s.drive.panRun < 19)
    (hq : s.drive.tiltRun < 19)
    (hu : onTargetTest enc { recordFrame status enc s with colour := { s.colour with lastTemp := some tau } } = u) :
    ∃ p q : Nat, presentFrame status enc tau s = { u with drive := { u.drive with panRun := p, tiltRun := q } } := by
  obtain ⟨htested, -, hdrive⟩ := onTargetTest_recorded enc { recordFrame status enc s with colour :=
    { s.colour with lastTemp := some tau } }
  rw [hu] at htested hdrive
  exact ⟨_, _, presentFrame_sound hmode hstatus (handTemperature_cool (s := recordFrame status enc s) hg hnormal hcool hle) rfl hu
    htested.station rfl rfl (by rw [hdrive]; exact hp) (by rw [hdrive]; exact hq)⟩

/-- Settles O45: each event's change of the list, and what that change makes of the role. -/
theorem ownRoleMoves : Obligations.OwnRoleMoves := by
  refine ⟨fun s r h l hrole hp hh hover ht hq hl hnew hfew hroom => ?_,
    fun s g st f r l w h hm hg hcov hrole hp ht hact hl hall hcount hw hown habove hlen hq => ?_,
    fun s st f r l o k d h hm hcov hrole hp ht hact hq hl ho hown hs hk hst hlen hroom => ?_,
    fun s st f r l o k d h hm hcov hrole hp ht hact hflag hl ho hown hs hk hst hks hno hroom => ?_,
    fun s t r l o b d hcov hrole hp ht hl ho hown hos hb hbs hdue hno => ?_,
    fun s st f r l o h hm hcov hrole hp ht hact hl hlen hall ho hown hos hlow hno hroom => ?_,
    fun s g status pan tilt temp r endPan endTilt hmode hg hpresent h3 h4 h5 hnormal hcool hle hprun htrun hrole hp hoff hend hroom => ?_⟩
  · have hended : s.holdoffOver = true := by
      rw [State.holdoffOver, hh]
      exact decide_eq_true hover
    exact congrArg Host.Outcome.next ((if_pos (by rw [hh, hended]; rfl)).trans
      (takeTest_takes hrole hp hended ht hq hl hnew hfew hroom))
  · have hok := hcov.2.2 l (List.mem_of_getElem? hl)
    have hholders : l.filter Holder.isHolder = l := List.filter_eq_self.2 fun x hx => (hall x hx).2
    have htake := takeResult_of_absent (q := f.q.toNat) (count := f.count.toNat) (margin := s.fig.handoffMargin)
      (fun x hx => (hall x hx).1) (fun _ => weakest_eq hw (hall w hw).2 fun x hx _ hne => habove x hx hne)
    rw [hholders, if_neg (Nat.not_lt.2 hcount), if_neg (by simpa using fun x hx => (hall x hx).2),
      if_pos ⟨hlen, by rw [fig_eq hg]; exact hq⟩] at htake
    have hlist := applyTake_relieving hok hw s.clock.tickCount st f.q.toNat
    have hbefore := hok.ownEntryIn hw
    have hafter := ownEntryIn_relieving hok hw st (s.clock.tickCount + 1000) ⟨st, f.q.toNat, .holder, s.clock.tickCount⟩
    rw [(hall w hw).2] at hbefore
    rw [← htake] at hlist
    refine cover_own h hm ht hl ((applyAction_take hact _ _ _ _).trans hlist)
      (countCover_take hact (htake ▸ fun he => nomatch he) _ _ _ _) ?_ h.1
    exact changeHolders_relieves (s := { arrived _ s with cover := s.cover }) hrole hl
      (fun he => by simpa using congrArg List.length he) hown hp hbefore hafter
  · have hok := hcov.2.2 l (List.mem_of_getElem? hl)
    have hne : o.station ≠ st := fun he => h.2.2.2.1 (he.symm.trans hown)
    obtain ⟨hafter, hshorter⟩ := ownEntryIn_returned hok s.clock.tickCount ho hs hk hst hne
    have hbefore := hok.ownEntryIn ho
    rw [not_isHolder_of_state hs] at hbefore
    rw [hok.removeHolder_eq s.clock.tickCount hk hst ho hs] at hafter hshorter
    refine cover_own h hm ht hl ((applyAction_yield hact _ _ _ _).trans (hok.removeHolder_eq _ hk hst ho hs))
      (countCover_yield hact _ _ _ _ _) ?_ h.1
    exact changeHolders_returns (s := { arrived _ s with cover := s.cover }) hrole hl (fun he => hshorter.ne (congrArg List.length he))
      hown hp hbefore hafter hq ((List.length_filter_le _ _).trans (Nat.le_of_lt_succ (hshorter.trans_le hlen))) hroom
  · have hok := hcov.2.2 l (List.mem_of_getElem? hl)
    subst hst
    have hne : k.station ≠ o.station := fun he => h.2.2.2.1 (he.trans hown)
    obtain ⟨hcompletes, hhold⟩ := applyHold_completes hok s.clock.tickCount f.q.toNat ho hs hk hks
    have hgone := completed_station hok (q := f.q.toNat) (now := s.clock.tickCount) ho hne
    have hbefore := hok.ownEntryIn ho
    rw [not_isHolder_of_state hs] at hbefore
    have honTarget : f.onTarget = true := hflag
    have hfull : holdFull l k.station = false := by
      rw [holdFull, List.any_eq_true.2 ⟨k, hk, (hok.station_iff hk hk).2 rfl⟩]
      rfl
    have hcounted := countCover_hold hact (takeResult l k.station f.q.toNat f.count.toNat s.fig.handoffMargin) false true s.cover.counters
    rw [← honTarget] at hhold
    have hcompleted : completesRelief k.station f.onTarget (statedHold s.clock.tickCount k.station f.q.toNat l) = true :=
      honTarget ▸ hcompletes
    refine cover_own h hm ht hl ((applyAction_hold hact _ _ _ _).trans hhold)
      ((congrArg₂ (fun a b => countCover false f _ a b s.cover.counters) hfull hcompleted).trans hcounted) ?_ h.1
    exact changeHolders_yields (s := { arrived _ s with cover := { s.cover with counters := _ } }) hrole hl
      (fun he => hgone o (by rw [he]; exact ho) rfl) hown hp hbefore (ownEntryIn_absent hgone) hno hroom
  · have hok := hcov.2.2 l (List.mem_of_getElem? hl)
    have hlist := holders_eq hl
    have hone : ∀ x ∈ l, x.state ≠ .holder → x = b := fun x hx hxs => hok.eq_of_relieved hx hb
      (by cases hstate : x.state with
        | holder => exact absurd hstate hxs
        | relieved k d => exact not_isHolder_of_state hstate) (not_isHolder_of_state hbs)
    have hremoved := hok.removeHolder_eq s.clock.tickCount ho rfl hb hbs
    rw [hok.filter_station ho] at hremoved
    have hgone := removeHolder_station (now := s.clock.tickCount) (st := o.station) (l := l)
    rw [hremoved] at hgone
    have hbefore := hok.ownEntryIn ho
    rw [isHolder_of_state hos] at hbefore
    have hexpire : exec (.reliefDeadline t) s = .next (expireRelief r.target o.station s) := by
      refine congrArg Host.Outcome.next ?_
      rw [← ht, hlist, findSome?_expiredTaker hb hbs hone hdue]
    rw [hexpire, expireRelief, hlist, hremoved]
    exact congrArg Host.Outcome.next (changeHolders_loses (s := { s with cover := { s.cover with counters := _ } }) hrole hl
      (fun he => hgone o (by rw [he]; exact ho) rfl) hown hp hbefore (ownEntryIn_absent hgone) hno)
  · have hok := hcov.2.2 l (List.mem_of_getElem? hl)
    obtain ⟨hcompletes, hhold⟩ := applyHold_added (now := s.clock.tickCount) (q := f.q.toNat) (onTarget := f.onTarget)
      (fun x hx => ⟨(hall x hx).1, (hall x hx).2.1⟩) hlen
    have hok' := hok.append (x := ⟨st, f.q.toNat, .holder, s.clock.tickCount⟩) rfl hlen fun y hy => (hall y hy).1
    have hin : o ∈ l ++ [(⟨st, f.q.toNat, .holder, s.clock.tickCount⟩ : Holder)] := List.mem_append_left _ ho
    have hbefore := hok.ownEntryIn ho
    have hafter := hok'.ownEntryIn hin
    rw [isHolder_of_state hos] at hbefore hafter
    have hremoved := removeHolder_unrelieved hok' s.clock.tickCount hin fun x hx => by
      rcases List.mem_append.1 hx with hx | hx
      · rw [hown]
        exact (hall x hx).2.2
      · rw [List.mem_singleton.1 hx]
        rfl
    rw [hown] at hremoved
    have hfull : holdFull l st = false := by
      rw [holdFull, decide_eq_false (show ¬Config.holderCapacity ≤ l.length from Nat.not_le.2 hlen), Bool.and_false]
    have hcounted := countCover_hold hact (takeResult l st f.q.toNat f.count.toNat s.fig.handoffMargin) false false s.cover.counters
    refine cover_own h hm ht hl ((applyAction_hold hact _ _ _ _).trans hhold)
      ((congrArg₂ (fun a b => countCover false f _ a b s.cover.counters) hfull hcompletes).trans hcounted) ?_ h.1
    rw [← hremoved]
    exact changeHolders_selfYields (s := { arrived _ s with cover := s.cover }) hrole hl
      (fun he => by simpa using congrArg List.length he) hown hp hbefore hafter
      (hlow.imp_right fun hr => ranksBelow_listed hok' hin hr.1 hr.2) hno hroom
  · have htest := onTargetTest_holder (s := { recordFrame status (pan.toInt, tilt.toInt) s with
      colour := { s.colour with lastTemp := some temp.toInt } }) hg hrole hp hoff hend (pan.toInt, tilt.toInt) hroom
    obtain ⟨p, q, hframe⟩ := presentFrame_tests hmode hg (by rw [statusAnyFault, h3, h4, h5]; rfl) hnormal hcool hle hprun htrun htest
    have hexec : exec (.inFrame status pan tilt temp) s = .next (presentFrame status (pan.toInt, tilt.toInt) temp.toInt s) :=
      congrArg Host.Outcome.next ((if_neg (by rcases hmode with h | h <;> rw [h] <;> decide)).trans (if_pos hpresent))
    rw [hframe] at hexec
    refine ⟨_, hexec, ?_⟩
    by_cases hnear : (pan.toInt - endPan).natAbs ≤ g.followErrorLimit ∧ (tilt.toInt - endTilt).natAbs ≤ g.followErrorLimit
    · rw [if_pos hnear]
      exact ⟨fun _ => ⟨rfl, rfl⟩, fun h => absurd hnear h, rfl, rfl, rfl, rfl, rfl, rfl, rfl, rfl, rfl, rfl, rfl, rfl⟩
    · rw [if_neg hnear]
      exact ⟨fun h => absurd h hnear, fun _ => ⟨rfl, rfl⟩, rfl, rfl, rfl, rfl, rfl, rfl, rfl, rfl, rfl, rfl, rfl, rfl⟩

end Sys2Proof.Machine
end
